-- ==== Sys2Proof/Word.lean ====
section
/-! DEFINITION. The plain words of the model: bytes, and the numbers of bays, dockets, job slots, fetch slots and lanes. -/

namespace Sys2Proof

/-- A byte of host memory, of a bay link message or of the configuration memory. -/
abbrev Byte := BitVec 8

/-- A bay number 0..11, physical or logical (00_scope.md section 4, "Bays"). -/
abbrev BayNo := Fin 12

/-- A docket number 0..15 (R1). -/
abbrev DocketNo := Fin 16

/-- A job slot 0..7 (section 2.1). -/
abbrev SlotNo := Fin 8

/-- One of the 8 fetches that may be outstanding (R94). -/
abbrev FetchNo := Fin 8

/-- A lane of the print head, 0..7 (R147). -/
abbrev LaneNo := Fin 8

/-- A time of the print time base, in ticks of 10 ns, 32 bits, wrapping (section 4 of 00_scope.md). -/
abbrev PrintTime := BitVec 32

end Sys2Proof
end

