-- ==== Sys2Proof/Config.lean ====
section
/-! DEFINITION. What the part fixes once: the sizes of its tables. The spec leaves no value open, so there is no free value here. -/

namespace Sys2Proof

/-- The physical bays in increasing number; also the logical numbers in increasing order. -/
def Config.allBays : List BayNo := [0, 1, 2, 3, 4, 5, 6, 7, 8, 9, 10, 11]

/-- The dockets in increasing number (R1). -/
def Config.allDockets : List DocketNo := [0, 1, 2, 3, 4, 5, 6, 7, 8, 9, 10, 11, 12, 13, 14, 15]

/-- The job slots in increasing number (R20). -/
def Config.allSlots : List SlotNo := [0, 1, 2, 3, 4, 5, 6, 7]

/-- The fetch slots (R94). -/
def Config.allFetches : List FetchNo := [0, 1, 2, 3, 4, 5, 6, 7]

/-- The lanes in increasing number (R151). -/
def Config.allLanes : List LaneNo := [0, 1, 2, 3, 4, 5, 6, 7]

end Sys2Proof
end

