-- ==== Sys2Proof/Syntax.lean ====
section
/-! DEFINITION. The commands of the DT12: one constructor of `Instr` for each row of spec/opcode_table.json, with the operands the rules name. -/

namespace Sys2Proof

/-- Media classes (Table 12-1, in the order of their codes). -/
inductive MediaClass where
  | cd | dvd | bd
  deriving DecidableEq, Repr

/-- The media classes a drive reports it can write (IDENTITY, Table 4-2). -/
structure DriveClasses where
  cd : Bool
  dvd : Bool
  bd : Bool
  deriving DecidableEq, Repr

/-- What a drive answers to PROBE (MEDIA, Table 4-2). -/
inductive MediaKind where
  | none | blank | written | unsuitable
  deriving DecidableEq, Repr

/-- The twelve sensors of the transport (Table 3-2). -/
inductive Sensor where
  | liftHome | swingBin | swingBay | discPresent | contact | stackA | stackB
  | doorA | doorB | doorGood | doorReject | trayPresent
  deriving DecidableEq, Repr

/-- The requests of Table 4-1. GROUP and READ carry their group number. -/
inductive Request where
  | identify | trayOpen | trayClose | probe | burnOpen
  | group (n : Nat)
  | burnClose
  | read (n : Nat)
  | halt | reset
  deriving DecidableEq, Repr

/-- The request lines of Table 5-2. -/
inductive LineId where
  | image (b : BayNo)
  | extent (b : BayNo)
  | compare (b : BayNo)
  | print
  | board
  deriving DecidableEq, Repr

/-- What the configuration memory gave: no answer on the bus, or its image from offset 0 (R176, Table 12-12). -/
inductive ConfigRead where
  | noAnswer
  | image (bytes : List Byte)
  deriving DecidableEq, Repr

/-- The fields of a COPY card as the card holds them, untested (Tables 12-3 and 12-4). -/
structure CopyCard where
  priority : Nat
  ticket : Nat
  copies : Nat
  maxRejects : Nat
  mediaClass : Nat
  mask : BitVec 16
  speed : Nat
  policy : Nat
  linkLimit : Nat
  verify : Nat
  extentCount : Nat
  totalSectors : Nat
  extentTable : Nat
  signatureTable : Nat
  bandTable : Nat
  bandCount : Nat
  reportArea : Nat
  deriving DecidableEq, Repr

/-- The commands of the DT12, one constructor per row of spec/opcode_table.json, in the table's order.
A card command carries the index of the card it stands for, so that its result can be written there. -/
inductive Instr where
  | powerUp
  | configLoadEnd (mem : ConfigRead)
  | towerReset
  | linkReset
  | run (on : Bool)
  | irqEn (on : Bool)
  | boardLow (value : BitVec 32)
  | boardHigh (value : BitVec 32)
  | scan (value : BitVec 32)
  | attentionClear (value : BitVec 32)
  | registerWriteOther (offset : Nat) (value : BitVec 32)
  | scanTimerExpiry
  | snapshotComplete
  | copyCard (index : Fin 64) (card : CopyCard)
  | setTimers (index : Fin 64) (scan drain : Option Nat)
  | setLimits (index : Fin 64) (soft hard : Nat)
  | designateSpare (index : Fin 64) (bay : Nat)
  | designateSpareNone (index : Fin 64)
  | reinstateBay (index : Fin 64) (bay : Nat)
  | resetBay (index : Fin 64) (bay : Nat)
  | resumeTransport (index : Fin 64)
  | clearFaults (index : Fin 64)
  | calibrate (index : Fin 64)
  | dispatchRound
  | sensorChange (sensor : Sensor) (on : Bool)
  | liftEncoderEdge (up : Bool)
  | dutyUpdate
  | settleExpiry
  | stallTimeout
  | moveTimeout
  | homeTravelLimit
  | homeTimeout
  | swingTimeout
  | gripComplete
  | releaseComplete
  | printerPlaceTimeout
  | badFrame (bay : BayNo)
  | identity (bay : BayNo) (classes : DriveClasses) (maxSpeed maxCredits : Nat) (linkCapable : Bool)
  | trayDoneOpen (bay : BayNo)
  | trayDoneClosed (bay : BayNo)
  | media (bay : BayNo) (kind : MediaKind) (cls : MediaClass) (capacity : Nat)
  | credit (bay : BayNo) (n : Nat)
  | written (bay : BayNo) (group : Nat)
  | starvedLinked (bay : BayNo)
  | starvedFailed (bay : BayNo)
  | closed (bay : BayNo)
  | readData (bay : BayNo) (group : Nat) (data : List Byte)
  | readFail (bay : BayNo) (group : Nat)
  | fault (bay : BayNo) (code : Nat)
  | halted (bay : BayNo)
  | resetDone (bay : BayNo)
  | requestTimeout (bay : BayNo) (req : Request)
  | fetchComplete (slot : FetchNo) (data : List Byte)
  | fetchError (slot : FetchNo)
  | fetchTimeout (slot : FetchNo)
  | fetchLateData (slot : FetchNo)
  | requestAged (line : LineId)
  | postedWriteIssue
  | postedWriteFailed (n : Nat)
  | drainTimerExpiry
  | clampTimerExpiry
  | spindleEdge (time : PrintTime)
  | spindleIndex (time : PrintTime)
  | missingEdge
  | spinupTimeout
  | settleTimeout
  | carriageStep
  | dotFire (lane : LaneNo)
  | laneRecoveryEnd (lane : LaneNo)
  | spindleStopped
  | spindownTimeout
  | sensorSample (sensor : Sensor) (level : Bool)
  deriving DecidableEq, Repr

end Sys2Proof
end

