-- ==== Sys2Proof/WellFormed.lean ====
section
/-! DEFINITION. The checks a command's operands meet because of the widths of the fields they come from. -/

namespace Sys2Proof

/-- A COPY card's fields fit the bytes Tables 12-3 and 12-4 give them (R182); only two bits of the priority byte are read. -/
def CopyCard.wellFormed (c : CopyCard) : Bool :=
  c.priority < 4 && c.ticket < 2 ^ 32 && c.copies < 2 ^ 16 && c.maxRejects < 2 ^ 8 && c.mediaClass < 2 ^ 8
    && c.speed < 2 ^ 8 && c.policy < 2 ^ 8 && c.linkLimit < 2 ^ 8 && c.verify < 2 ^ 8 && c.extentCount < 2 ^ 16
    && c.totalSectors < 2 ^ 32 && c.extentTable < 2 ^ 64 && c.signatureTable < 2 ^ 64 && c.bandTable < 2 ^ 64
    && c.bandCount < 2 ^ 8 && c.reportArea < 2 ^ 64

/-- A configuration image holds the bytes of Table 12-12. -/
def ConfigRead.wellFormed : ConfigRead → Bool
  | .noAnswer => true
  | .image bytes => 108 ≤ bytes.length

/-- A request names a group an image can have (R109). -/
def Request.wellFormed : Request → Bool
  | .group n => n < 2 ^ 20
  | .read n => n < 2 ^ 20
  | _ => true

/-- An offset of the register window whose writes have no row of their own: none of BOARD_LOW, BOARD_HIGH, SCAN, CONTROL
and ATTENTION (section 12.2). STATE is such a register. -/
def otherRegister (offset : Nat) : Bool :=
  !(offset == 0 || offset == 4 || offset == 8 || offset == 12 || offset == 20)

/-- The operands of a command lie within the fields that carry them. -/
def Instr.wellFormed : Instr → Bool
  | .configLoadEnd mem => mem.wellFormed
  | .registerWriteOther offset _ => otherRegister offset
  | .copyCard _ card => card.wellFormed
  | .setTimers _ newScan newDrain => decide (newScan.getD 0 < 2 ^ 32) && decide (newDrain.getD 0 < 2 ^ 16)
  | .setLimits _ soft hard => soft < 2 ^ 8 && hard < 2 ^ 8
  | .designateSpare _ bay => bay < 255
  | .reinstateBay _ bay => bay < 2 ^ 8
  | .resetBay _ bay => bay < 2 ^ 8
  | .identity _ _ maxSpeed maxCredits _ => maxSpeed < 2 ^ 8 && maxCredits < 2 ^ 8
  | .media _ _ _ capacity => capacity < 2 ^ 32
  | .credit _ n => n ≤ 15
  | .written _ group => group < 2 ^ 20
  | .readData _ group data => decide (group < 2 ^ 20) && decide (data.length ≤ 32768)
  | .readFail _ group => group < 2 ^ 20
  | .fault _ code => code ≤ 255
  | .requestTimeout _ req => req.wellFormed
  | .fetchComplete _ data => decide (1 ≤ data.length) && decide (data.length ≤ 4096)
  | .powerUp | .towerReset | .linkReset | .run _ | .irqEn _ | .boardLow _ | .boardHigh _ | .scan _
  | .attentionClear _ | .scanTimerExpiry | .snapshotComplete | .designateSpareNone _ | .resumeTransport _
  | .clearFaults _ | .calibrate _ | .dispatchRound | .sensorChange _ _ | .liftEncoderEdge _ | .dutyUpdate
  | .settleExpiry | .stallTimeout | .moveTimeout | .homeTravelLimit | .homeTimeout | .swingTimeout
  | .gripComplete | .releaseComplete | .printerPlaceTimeout | .badFrame _ | .trayDoneOpen _
  | .trayDoneClosed _ | .starvedLinked _ | .starvedFailed _ | .closed _ | .halted _ | .resetDone _
  | .fetchError _ | .fetchTimeout _ | .fetchLateData _ | .requestAged _ | .postedWriteIssue
  | .postedWriteFailed _ | .drainTimerExpiry | .clampTimerExpiry | .spindleEdge _ | .spindleIndex _
  | .missingEdge | .spinupTimeout | .settleTimeout | .carriageStep | .dotFire _ | .laneRecoveryEnd _
  | .spindleStopped | .spindownTimeout | .sensorSample _ _ => true

end Sys2Proof
end

