-- ==== Sys2Proof/Machine/State.lean ====
section
/-! DEFINITION. The state of the DT12 as plain data, every block of 00_scope.md section 2.1, and the state right after power is applied. -/

namespace Sys2Proof.Machine

/-- The controller has no event that stops it: every fault of the spec is an entry of its fault record (R173) and a
change of state. No meaning raises a stop, so this type has no constructor (safe: nothing is hidden behind one). -/
inductive Fault where
  deriving DecidableEq, Repr

/-- Reasons to give a command no meaning. -/
inductive Refusal where
  /-- Raised by an arm of `exec` whose command has no meaning yet (safe: the model stops where the part goes on). No arm raises it. -/
  | notModelled (mnemonic : String)
  deriving DecidableEq, Repr

/-- An interval timer: the time left in milliseconds, or not running. -/
abbrev Timer := Option Nat

/-! ### Names of Table 12-1 -/

/-- The states of the tower (Table 11-1). -/
inductive TowerState where
  | loading | uncalibrated | homing | discovering | sweeping | running | halted
  deriving DecidableEq, Repr

/-- The states of the transport (Table 3-3). -/
inductive TransportState where
  | stopped | homing | sweeping | free | busy | halted
  deriving DecidableEq, Repr

/-- The states of the printer (Table 9-1). -/
inductive PrinterState where
  | empty | seating | spinup | settling | stepping | printing | spindown | readyOut | fault
  deriving DecidableEq, Repr

/-- The states of an input bin (R57). -/
inductive InputBinState where
  | loaded | empty | open
  deriving DecidableEq, Repr

/-- The states of an output bin (R58). -/
inductive OutputBinState where
  | available | full | open
  deriving DecidableEq, Repr

/-- The states of a bay (Table 4-4). -/
inductive BayState where
  | absent | discovering | idle | reserved | opening | open | closing | probing | burning | finalizing
  | verifying | holding | resetting | spare | retired
  deriving DecidableEq, Repr

/-- The causes of Table 1-3. -/
inductive Cause where
  | none | verify | underrun | linkLimit | writeFault | mediaUnsuitable | tooLarge | hostRead | sourceChanged
  | extentMismatch | jobFailed | cancelled | bayReset | bayTimeout | printSpindle | printStarved | dropped
  deriving DecidableEq, Repr

/-- The judgement on a disc. -/
inductive Verdict where
  | good | reject
  deriving DecidableEq, Repr

/-- Where a disc is (Table 1-1). -/
inductive Place where
  | input | arm | bay | printer | goodBin | rejectBin
  deriving DecidableEq, Repr

/-- The states of a docket (Table 1-1). -/
inductive DocketState where
  | reserved | inbound | seated | burning | finalizing | verifying | goodWait | outbound | printing | printedWait
  | rejectWait | rejectOutbound | landed | dissolved
  deriving DecidableEq, Repr

/-- The two input bins. -/
inductive InputBin where
  | a | b
  deriving DecidableEq, Repr

/-- The two output bins. -/
inductive OutputBin where
  | good | reject
  deriving DecidableEq, Repr

/-- The codes of the fault classes (R173). -/
inductive FaultCode where
  | jam | position | home | drop | release | swing
  | timeout | noMedia | driveFault | retired
  | readError | readTimeout | writeError | badAnchor
  | spindle | starved | badBand | foreignDisc | spindown | trayLost
  | badSignature | noMemory | badRegion | badGeometry | noGeometry
  deriving DecidableEq, Repr

/-- Refusal reasons of cards (Table 12-1). -/
inductive Reason where
  | none | badKind | badCopies | badClass | badMask | badImage | badAlign | badLabel | badService | busy
  | notInstalled | notHalted | inUse | uncalibrated
  deriving DecidableEq, Repr

/-- Outcomes written to cards (Table 12-1). -/
inductive CardOutcome where
  | absent | done | failed | cancelled | abandoned | ok
  deriving DecidableEq, Repr

/-! ### The tower, the register window, the fault record -/

/-- The calibration set (R43). Stations 0..16: input A, input B, good, reject, bays 0 to 11, printer (Table 12-12). -/
structure Calibration where
  stations : Vector Nat 17
  floorA : Nat
  floorB : Nat
  startDuty : Nat
  cruiseDuty : Nat
  creepDuty : Nat
  rampStep : Nat
  braking : Nat
  deriving DecidableEq, Repr

/-- What the configuration loader is reading: the whole memory (R176) or the geometry alone (R181). -/
inductive Loader where
  | idle | whole | geometry
  deriving DecidableEq, Repr

/-- Tower state, tower time and the loader (Chapter 11). -/
structure Tower where
  state : TowerState
  /-- Milliseconds since the last power-up, 64 bits. -/
  time : Nat
  /-- The tower has reached RUNNING since the last power-up, tower reset or link reset (R175, R181). -/
  reachedRunning : Bool
  loader : Loader
  calibration : Option Calibration
  deriving DecidableEq, Repr

/-- The register window (Chapter 10, section 10.2). STATE is computed. -/
structure Regs where
  boardLow : BitVec 32
  boardHigh : BitVec 32
  run : Bool
  irqEn : Bool
  cardDone : Bool
  statusNew : Bool
  halted : Bool
  deriving DecidableEq, Repr

/-- The first fault (R173). -/
structure FaultEntry where
  code : FaultCode
  bay : Option BayNo
  docket : Option DocketNo
  time : Nat
  deriving DecidableEq, Repr

/-- The fault record (R173). -/
structure FaultRecord where
  first : Option FaultEntry
  motion : Nat
  bay : Nat
  hostMemory : Nat
  print : Nat
  config : Nat
  deriving DecidableEq, Repr

/-! ### Jobs and dockets -/

/-- Starvation policy (Table 2-1). -/
inductive Starvation where
  | link (limit : Nat)
  | abandon
  deriving DecidableEq, Repr

/-- States of an occupied job slot (Table 2-3); a FREE slot holds no job. -/
inductive JobState where
  | active | stopping | ended
  deriving DecidableEq, Repr

/-- Outcomes of a job (Table 2-2). -/
inductive JobOutcome where
  | done | failed | cancelled
  deriving DecidableEq, Repr

/-- A job: Tables 2-1 and 2-2, with the open entries of R116 in increasing order. -/
structure Job where
  cardIndex : Fin 64
  ticket : Nat
  priority : Nat
  copies : Nat
  maxRejects : Nat
  mediaClass : MediaClass
  mask : BitVec 12
  speed : Nat
  starvation : Starvation
  verify : Bool
  totalSectors : Nat
  groups : Nat
  extentTable : Nat
  extentCount : Nat
  signatureTable : Nat
  bandTable : Nat
  bandCount : Nat
  reportArea : Nat
  state : JobState
  good : Nat
  reject : Nat
  inFlight : Nat
  nextOrdinal : Nat
  frontier : Nat
  openEntries : List Nat
  outcome : Option JobOutcome
  failCause : Cause
  deriving DecidableEq, Repr

/-- The print counters of a docket (R161). -/
structure PrintCounters where
  fired : Nat
  crowded : Nat
  dropped : Nat
  clipped : Nat
  slips : Nat
  deriving DecidableEq, Repr

/-- A docket in use (section 1.2). -/
structure Docket where
  slot : SlotNo
  ticket : Nat
  ordinal : Option Nat
  inputBin : InputBin
  bay : BayNo
  logical : BayNo
  place : Option Place
  state : DocketState
  verdict : Option Verdict
  cause : Cause
  groupsWritten : Nat
  links : Nat
  rereads : Nat
  print : Option PrintCounters
  picked : Option Nat
  burnStart : Option Nat
  burnEnd : Option Nat
  verdictTime : Option Nat
  landed : Option Nat
  outputBin : Option OutputBin
  deriving DecidableEq, Repr

/-! ### Transport -/

/-- The stations of Table 3-1. -/
inductive Station where
  | input (b : InputBin)
  | output (o : OutputBin)
  | bay (b : BayNo)
  | printer
  deriving DecidableEq, Repr

/-- The two swing sides. -/
inductive Side where
  | bin | bay
  deriving DecidableEq, Repr

/-- Kinds of task (R59). -/
inductive TaskKind where
  | load | unload | printerOut
  deriving DecidableEq, Repr

/-- A task of the transport queue. `age` is its place in the order of queueing (R59, R62). -/
structure Task where
  docket : DocketNo
  kind : TaskKind
  source : Station
  dest : Station
  age : Nat
  deriving DecidableEq, Repr

/-- What the lift axis is doing (R46 to R49, R54). -/
inductive LiftMode where
  | still
  | move (target : Nat)
  | correct (target : Nat)
  | settling (target : Nat) (corrected : Bool)
  | descend (target : Nat)
  | homeUp
  | homeDown
  deriving DecidableEq, Repr

/-- The lift axis (section 3.3). -/
structure Lift where
  count : Int
  trusted : Bool
  mode : LiftMode
  duty : Nat
  up : Bool
  travel : Nat
  stallTimer : Timer
  moveTimer : Timer
  settleTimer : Timer
  homeTimer : Timer
  deriving DecidableEq, Repr

/-- The two gripper commands (R51). -/
inductive GripCommand where
  | grip | release
  deriving DecidableEq, Repr

/-- The two legs of a task (R53). -/
inductive Leg where
  | pick | place
  deriving DecidableEq, Repr

/-- The point the arm has reached (R49, R53 to R56). -/
inductive Phase where
  | none
  /-- R49 steps 1, 2 and 3. -/
  | homeUp | homeDown | homeSwing
  /-- The lift moves back to the input bin's station with a disc, the start of the place leg (R54). -/
  | raise
  /-- The lift moves to the station of the leg. -/
  | lift (leg : Leg)
  /-- The swing turns to the station's side. -/
  | turn (leg : Leg)
  /-- The arm stands at the station, for what its action requires. -/
  | ready (leg : Leg)
  /-- The descent into an input bin. -/
  | descend
  /-- The GRIP of a pick. -/
  | grip
  /-- The gripper is opened after a miss at an input bin. -/
  | openMiss
  /-- The lift returns to the station after a first miss, and the pick is repeated. -/
  | returnRetry
  /-- The lift returns to the station with the gripper open, and the task ends. -/
  | returnEnd
  /-- A GRIP that was running when its docket was dissolved. -/
  | orphanGrip
  /-- The RELEASE of a disc that belongs to no docket back onto the stack. -/
  | orphanRelease
  /-- The RELEASE of a place. -/
  | release
  /-- The wait for tray-present after a release at the printer. -/
  | awaitTray
  deriving DecidableEq, Repr

/-- What the arm is working for. -/
inductive ErrandFor where
  /-- The task in flight. -/
  | task (t : Task)
  /-- A move of the recovery sweep (R67). -/
  | sweep
  /-- A task whose docket is gone, whose motion the transport is finishing (R54). -/
  | ended
  deriving DecidableEq, Repr

/-- The work in hand. A sweep move of the disc on the arm has no source (R67). -/
structure Errand where
  work : ErrandFor
  source : Option Station
  dest : Station
  /-- The pick has held. -/
  held : Bool
  /-- Misses made at the input bin (R54, R66). -/
  misses : Nat
  deriving DecidableEq, Repr

/-- The stages of the recovery sweep (R67). -/
inductive SweepStage where
  | arm | printer | bays
  deriving DecidableEq, Repr

/-- The transport (Chapter 3). -/
structure Transport where
  state : TransportState
  lift : Lift
  swing : Option Side
  swingTimer : Timer
  gripperClosed : Bool
  gripper : Option GripCommand
  gripTimer : Timer
  /-- From a GRIP that reads a hold until the next RELEASE begins (R52). -/
  carrying : Bool
  phase : Phase
  placeTimer : Timer
  errand : Option Errand
  queue : List Task
  nextAge : Nat
  stage : SweepStage
  /-- Disc-present was on when homing ended (R67 item 1). -/
  armDisc : Bool
  /-- The bays the sweep names, in increasing number. -/
  sweepList : List BayNo
  deriving DecidableEq, Repr

/-- A filtered sensor (R44): its value and the count of samples that differ from it. -/
structure Filter where
  on : Bool
  agree : Nat
  deriving DecidableEq, Repr

/-- An input bin (R57). -/
structure InBin where
  cls : MediaClass
  state : InputBinState
  deriving DecidableEq, Repr

/-- An output bin (R58). -/
structure OutBin where
  capacity : Nat
  count : Nat
  deriving DecidableEq, Repr

/-- The four bins. -/
structure Bins where
  a : InBin
  b : InBin
  good : OutBin
  reject : OutBin
  deriving DecidableEq, Repr

/-! ### Reads of host memory -/

/-- A read of `len` bytes at `base` cut into pieces (R94): the bytes cut so far, and the pieces that have arrived by offset. -/
structure Reading where
  base : Nat
  len : Nat
  cut : Nat
  got : List (Nat × List Byte)
  deriving DecidableEq, Repr

/-- The parts of a band load (R151). -/
inductive BandPart where
  | record
  | dots (lane : LaneNo)
  deriving DecidableEq, Repr

/-- Where a fetch's data goes (Table 5-2). -/
inductive Target where
  | image (group offset : Nat)
  | extent (index offset : Nat)
  | compare (group : Nat)
  | block (number offset : Nat)
  | band (part : BandPart) (offset : Nat)
  | board (offset : Nat)
  deriving DecidableEq, Repr

/-- A presented fetch request (R94, R101, R103). `stamp` is the number of the event that presented it. -/
structure FetchReq where
  addr : Nat
  len : Nat
  target : Target
  stamp : Nat
  aged : Bool
  ageTimer : Timer
  deriving DecidableEq, Repr

/-- An outstanding fetch (R94, R95). `stale` is a fetch of a band load that an abort has ended: its data goes no further,
and its failure is still reported (R159). -/
structure Fetch where
  line : LineId
  addr : Nat
  len : Nat
  target : Target
  timer : Nat
  orphan : Bool
  stale : Bool
  deriving DecidableEq, Repr

/-! ### Channels -/

/-- States of a burn channel (Table 6-1). DONE is left in the event that enters it. -/
inductive BurnState where
  | opening | streaming | draining | closing | aborting
  deriving DecidableEq, Repr

/-- An extent record (R107). -/
structure Extent where
  addr : Nat
  sectors : Nat
  deriving DecidableEq, Repr

/-- Where a trailing compare stands (R114). -/
inductive ComparePhase where
  | listed | presented | granted
  deriving DecidableEq, Repr

/-- A trailing compare (R114). -/
structure Compare where
  group : Nat
  crc : BitVec 32
  phase : ComparePhase
  deriving DecidableEq, Repr

/-- A staging page held by a channel (Table 5-1): FILLING, or FULL with the group's bytes and CRC known. -/
structure Page where
  group : Nat
  full : Bool
  got : List (Nat × List Byte)
  deriving DecidableEq, Repr

/-- A burn channel (R105). -/
structure Burn where
  state : BurnState
  docket : DocketNo
  groups : Nat
  /-- Next group to cut, and how many of its bytes have been cut. -/
  cutGroup : Nat
  cutBytes : Nat
  complete : Nat
  send : Nat
  /-- The extent cursor. -/
  extIndex : Nat
  extOffset : Nat
  cur : Option Extent
  nxt : Option Extent
  /-- Extent records being read, and the next record to be asked for. -/
  extReads : List (Nat × Reading)
  extAsk : Nat
  compares : List Compare
  /-- Signature writes waiting for room (R96). -/
  held : List (Nat × BitVec 32)
  pages : List Page
  linkPermitted : Bool
  deriving DecidableEq, Repr

/-- States of a verify channel (Table 7-1). -/
inductive VerifyState where
  | reading | stopped
  deriving DecidableEq, Repr

/-- A verify channel (R124). -/
structure Verify where
  state : VerifyState
  docket : DocketNo
  groups : Nat
  check : Nat
  marks : List Nat
  block : Option (Nat × List (BitVec 32))
  blockRead : Option (Nat × Reading)
  pages : List Page
  deriving DecidableEq, Repr

/-- A bay has at most one channel (R90). -/
inductive Channel where
  | closed
  | burn (c : Burn)
  | verify (c : Verify)
  deriving DecidableEq, Repr

/-! ### Bays -/

/-- Why a request was sent, where its timeout (R71, R77, R85) or its answer (R73: the IDENTIFY of a spare takeover) depends on it. -/
inductive Purpose where
  | normal | completion | absent | sweep | takeover
  deriving DecidableEq, Repr

/-- An outstanding request (R69). -/
structure Outstanding where
  req : Request
  purpose : Purpose
  left : Nat
  deriving DecidableEq, Repr

/-- The drive record (R73). -/
structure Drive where
  classes : DriveClasses
  maxSpeed : Nat
  maxCredits : Nat
  linkCapable : Bool
  deriving DecidableEq, Repr

/-- The tray as last reported (Table 4-3). -/
inductive Tray where
  | open | closed | unknown
  deriving DecidableEq, Repr

/-- A bay record (Table 4-3) with the counters of R136, the bay's request lines (Table 5-2) and its channel. -/
structure Bay where
  installed : Bool
  state : BayState
  failing : Bool
  logical : Option BayNo
  drive : Option Drive
  tray : Tray
  reqs : List Outstanding
  heldClose : Bool
  credits : Nat
  linkErrors : Nat
  stranded : Bool
  docket : Option DocketNo
  /-- Groups of GROUP requests withdrawn by a HALT and not yet reported (R80). -/
  withdrawn : List Nat
  /-- The drive has sent STARVED failed (R82). -/
  driveStopped : Bool
  /-- IDENTIFY has been sent since power-up (R178). -/
  identified : Bool
  /-- The state left for a sweep probe (R178). -/
  sweepProbe : Option BayState
  soft : Nat
  hard : Nat
  image : Option FetchReq
  extent : Option FetchReq
  compare : Option FetchReq
  channel : Channel
  deriving DecidableEq, Repr

/-- The health unit's own state (R136). -/
structure Health where
  softLimit : Nat
  hardLimit : Nat
  drainMinutes : Nat
  drainTimer : Timer
  spare : Option BayNo
  deriving DecidableEq, Repr

/-! ### Host-memory engine -/

/-- The bytes of a posted write: a run fixed when queued; the result fields of a card, three bytes and four with the host's own
byte between them (R182, row 24); or the status block, filled when issued (R172). -/
inductive WriteData where
  | bytes (l : List Byte)
  | fields (codes counts : List Byte)
  | status
  deriving DecidableEq, Repr

/-- A posted write (R96), with the docket whose report it is, if any (R98). -/
structure PostedWrite where
  addr : Nat
  data : WriteData
  docket : Option DocketNo
  deriving DecidableEq, Repr

/-- A step of a block's rule that may have to wait for room in the posted write queue (R96). -/
inductive Todo where
  /-- Queue a write. -/
  | write (w : PostedWrite)
  /-- Raise and queue the finished tally of the board at `base`, and set CARD_DONE (R164). -/
  | tally (base : Nat)
  /-- Queue the progress rewrite of a job (R29). -/
  | progress (slot : SlotNo)
  /-- Count a landing (R22). -/
  | counted (d : DocketNo)
  /-- The budget and completion tests of a landing (R25 steps 3 and 4). -/
  | decide (slot : SlotNo)
  /-- Free a landed docket (R13 step 3). -/
  | freeDocket (d : DocketNo)
  /-- Free the slot of a job written FINISHED, and request a scan (R28). -/
  | freeSlot (slot : SlotNo)
  /-- Queue the held signature write of a burn channel (R96). -/
  | signature (b : BayNo) (group : Nat)
  /-- Queue a rewrite of the tower status block (R172). -/
  | status
  /-- Take the scan's next act (R169). -/
  | nextAct
  /-- The end of a scan (R167, R168); `complete` when it acted on its snapshot. -/
  | endScan (complete : Bool)
  /-- The very end of a scan, after the final writes of ENDED jobs. -/
  | nextScan
  deriving DecidableEq, Repr

/-- The steps a block has still to take, in order. -/
abbrev Thread := List Todo

/-- A burst of BURN class grants (R102). `high` holds the lines that were already above BURN class. -/
structure Burst where
  bay : BayNo
  group : Nat
  count : Nat
  high : List LineId
  deriving DecidableEq, Repr

/-- The host-memory engine (Chapter 5). -/
structure Engine where
  slots : Vector (Option Fetch) 8
  print : Option FetchReq
  board : Option FetchReq
  posted : List PostedWrite
  /-- Blocks waiting for room, in the order in which they began to wait (R96). -/
  waiting : List Thread
  /-- Blocks at work in the present event. -/
  agenda : List Thread
  /-- Writes issued, oldest first, whose failure the host link may still report (R98). -/
  issued : List PostedWrite
  pointer : BayNo
  burst : Option Burst
  deriving DecidableEq, Repr

/-! ### Board scanner -/

/-- The fields of a SERVICE card (Table 12-5). -/
structure ServiceCard where
  code : Nat
  bay : Nat
  scan : Option Nat
  drain : Option Nat
  soft : Nat
  hard : Nat
  deriving DecidableEq, Repr

/-- A card as a snapshot reads it (Table 12-3). -/
structure Card where
  index : Fin 64
  state : Nat
  kind : Nat
  cancel : Bool
  good : Nat
  reject : Nat
  copy : CopyCard
  service : ServiceCard
  deriving DecidableEq, Repr

/-- What a scan does with a card, or with all its COPY cards (R169). -/
inductive ScanAct where
  | cancelJob (slot : SlotNo)
  | orphan (index : Fin 64) (good reject : Nat)
  | retake (index : Fin 64)
  | cancelPosted (index : Fin 64)
  | badKind (index : Fin 64)
  | service (index : Fin 64) (card : ServiceCard)
  | copies (cards : List (Fin 64 × CopyCard))
  | accept (index : Fin 64) (card : CopyCard)
  deriving DecidableEq, Repr

/-- How far a scan has come (R168, R169). -/
inductive ScanPhase where
  | anchor (r : Reading)
  | table (r : Reading)
  | acting (acts : List ScanAct)
  deriving DecidableEq, Repr

/-- The scan under way: the address it began with, the anchor's status block address and card count, and its phase. -/
structure Scan where
  base : Nat
  statusAddr : Nat
  count : Nat
  phase : ScanPhase
  deriving DecidableEq, Repr

/-- The board scanner (Chapter 10). -/
structure Board where
  scanInterval : Nat
  scanTimer : Timer
  scan : Option Scan
  scanPending : Bool
  /-- The status block address of the last complete snapshot (R168). -/
  statusAddr : Option Nat
  /-- A complete scan has ended since the last power-up, tower reset or link reset (R172). -/
  scanned : Bool
  tally : BitVec 32
  generation : BitVec 32
  deriving DecidableEq, Repr

/-! ### Print engine -/

/-- A ring entry after the clamps of R151. -/
structure RingEntry where
  enabled : Bool
  dots : Nat
  phase : Nat
  addr : Nat
  deriving DecidableEq, Repr

/-- A band record (Table 9-2). -/
structure BandRecord where
  ring : Nat
  lanes : Vector RingEntry 8
  deriving DecidableEq, Repr

/-- A band store (R147): the band it holds, its record and the dot data of its lanes. -/
structure BandStore where
  band : Nat
  record : Option BandRecord
  dots : List (LaneNo × List Byte)
  deriving DecidableEq, Repr

/-- A waiting dot (R155, R156). -/
structure Dot where
  edge : Nat
  own : PrintTime
  clipped : Bool
  deriving DecidableEq, Repr

/-- A lane (R154, R156). -/
structure Lane where
  enabled : Bool
  k : Nat
  target : Nat
  err : Nat
  waiting : List Dot
  lastFire : Option PrintTime
  /-- The recovery after the last fire has not ended. -/
  recovering : Bool
  /-- The head dot was waiting with an own time before the end of the recovery when that recovery ended: its fire time is that end. -/
  due : Bool
  /-- A dot fired at the end of a recovery before that end was reported, so the next end reported is that of the older recovery. -/
  stale : Bool
  deriving DecidableEq, Repr

/-- The print engine (R147). -/
structure Printer where
  state : PrinterState
  docket : Option DocketNo
  /-- The spindle capture (R149): the number, time and interval of the latest edge. -/
  edge : Option Nat
  edgeTime : Option PrintTime
  interval : Option PrintTime
  /-- Clean revolutions in a row, and whether the revolution under way has been breached (R150). -/
  clean : Nat
  breached : Bool
  position : Nat
  carriageTarget : Option Nat
  homingSteps : Nat
  active : Option BandStore
  shadow : Option BandStore
  load : List (BandPart × Reading)
  nextBand : Nat
  lanes : Vector Lane 8
  /-- The spindle clamp has been closed (R148) and has not been opened since (R160). -/
  clamped : Bool
  clampTimer : Timer
  spinupTimer : Timer
  settleTimer : Timer
  spindownTimer : Timer
  /-- The 200 ms without an edge or index by which a braked spindle has stopped (R160). -/
  quietTimer : Timer
  deriving DecidableEq, Repr

/-! ### What leaves the part -/

/-- Frames to a drive (Table 4-1). -/
inductive DriveMsg where
  | identify | trayOpen | trayClose | probe
  | burnOpen (sectors speed : Nat) (link : Bool)
  | group (n sectors : Nat) (data : List Byte)
  | burnClose
  | read (n : Nat)
  | halt | reset
  deriving DecidableEq, Repr

/-- What the part sends outside. -/
inductive Output where
  | msi
  | drive (b : BayNo) (m : DriveMsg)
  | hostRead (slot : FetchNo) (addr len : Nat)
  | hostWrite (addr : Nat) (bytes : List Byte)
  deriving DecidableEq, Repr

/-! ### The whole state -/

/-- The state of the DT12. -/
structure State where
  /-- Commands waiting, first in, first out. -/
  pending : List Instr
  tower : Tower
  regs : Regs
  board : Board
  faults : FaultRecord
  jobs : Vector (Option Job) 8
  dockets : Vector (Option Docket) 16
  /-- A dispatch round has been started and not yet run (R36). -/
  roundDue : Bool
  transport : Transport
  sensors : Vector Filter 12
  bins : Bins
  bays : Vector Bay 12
  health : Health
  /-- Bays whose channels wait for a page, in order (R92). -/
  pageWaiters : List BayNo
  engine : Engine
  printer : Printer
  /-- The number of the present event, from which ages of requests are taken (R101). -/
  event : Nat
  /-- Everything sent outside, oldest first. -/
  out : List Output
  deriving DecidableEq, Repr

/-- A lift that stands still at count 0, untrusted (R45). -/
def Lift.reset : Lift :=
  { count := 0, trusted := false, mode := .still, duty := 0, up := false, travel := 0, stallTimer := none,
    moveTimer := none, settleTimer := none, homeTimer := none }

/-- The transport after power-up (R51, R59, R63). -/
def Transport.reset : Transport :=
  { state := .stopped, lift := Lift.reset, swing := none, swingTimer := none, gripperClosed := false, gripper := none,
    gripTimer := none, carrying := false, phase := .none, placeTimer := none, errand := none, queue := [],
    nextAge := 0, stage := .arm, armDisc := false, sweepList := [] }

/-- A bay record after power-up (Table 4-3). -/
def Bay.reset : Bay :=
  { installed := true, state := .absent, failing := false, logical := none, drive := none, tray := .unknown,
    reqs := [], heldClose := false, credits := 0, linkErrors := 0, stranded := false, docket := none,
    withdrawn := [], driveStopped := false, identified := false, sweepProbe := none, soft := 0, hard := 0,
    image := none, extent := none, compare := none, channel := .closed }

/-- The host-memory engine after power-up (R99). -/
def Engine.reset : Engine :=
  { slots := Vector.replicate 8 none, print := none, board := none, posted := [], waiting := [], agenda := [],
    issued := [], pointer := 0, burst := none }

/-- A lane after power-up: no dots and no last fire (R147). -/
def Lane.reset : Lane :=
  { enabled := false, k := 0, target := 0, err := 0, waiting := [], lastFire := none, recovering := false,
    due := false, stale := false }

/-- The print engine after power-up (R147). The spec gives no value for the carriage position before its homing, the band next to print, the
count of clean revolutions, the accumulators of the lanes and the clamp; here 0 and open (DESIGN CHOICE, row 4). -/
def Printer.reset : Printer :=
  { state := .empty, docket := none, edge := none, edgeTime := none, interval := none, clean := 0, breached := false,
    position := 0, carriageTarget := none, homingSteps := 0, active := none, shadow := none, load := [],
    nextBand := 0, lanes := Vector.replicate 8 Lane.reset, clamped := false, clampTimer := none, spinupTimer := none,
    settleTimer := none, spindownTimer := none, quietTimer := none }

/-- The fault record after power-up (R173). -/
def FaultRecord.clear : FaultRecord :=
  { first := none, motion := 0, bay := 0, hostMemory := 0, print := 0, config := 0 }

/-- The register window after power-up and after a link reset (R163, R165, R166). -/
def Regs.reset : Regs :=
  { boardLow := 0, boardHigh := 0, run := false, irqEn := false, cardDone := false, statusNew := false, halted := false }

/-- The state right after power is applied (R176): every block at its power-up state, the tower LOADING, the loader reading. -/
def State.reset : State :=
  { pending := []
    tower := { state := .loading, time := 0, reachedRunning := false, loader := .whole, calibration := none }
    regs := Regs.reset
    board := { scanInterval := 500, scanTimer := some 500, scan := none, scanPending := false, statusAddr := none,
               scanned := false, tally := 0, generation := 0 }
    faults := FaultRecord.clear
    jobs := Vector.replicate 8 none
    dockets := Vector.replicate 16 none
    roundDue := false
    transport := Transport.reset
    sensors := Vector.replicate 12 { on := false, agree := 0 }
    bins := { a := { cls := .dvd, state := .loaded }, b := { cls := .cd, state := .loaded },
              good := { capacity := 100, count := 0 }, reject := { capacity := 100, count := 0 } }
    bays := Vector.replicate 12 Bay.reset
    health := { softLimit := 12, hardLimit := 3, drainMinutes := 60, drainTimer := none, spare := none }
    pageWaiters := []
    engine := Engine.reset
    printer := Printer.reset
    event := 0
    out := [] }

end Sys2Proof.Machine
end

