-- ==== Sys2Proof/Machine/Ops.lean ====
section
/-! DEFINITION. The operations the blocks share: reading and writing records, counts that hold, the tower status report,
the fault record, the attention causes, sending, posting writes, and the passing of a millisecond. -/

namespace Sys2Proof.Machine

/-! ### Records by number -/

/-- The record of a physical bay. -/
def State.bay (s : State) (b : BayNo) : Bay := s.bays.get b

/-- Replace the record of a physical bay. -/
def State.setBay (s : State) (b : BayNo) (r : Bay) : State := { s with bays := s.bays.set b r }

/-- The docket of a number, none while it is free (R1). -/
def State.docket (s : State) (d : DocketNo) : Option Docket := s.dockets.get d

/-- Replace a docket. -/
def State.setDocket (s : State) (d : DocketNo) (r : Option Docket) : State := { s with dockets := s.dockets.set d r }

/-- Change a docket in use; a free docket is left free. -/
def State.updDocket (s : State) (d : DocketNo) (f : Docket → Docket) : State :=
  match s.docket d with
  | some r => s.setDocket d (some (f r))
  | none => s

/-- The job of a slot, none while it is FREE (R20). -/
def State.job (s : State) (j : SlotNo) : Option Job := s.jobs.get j

/-- Replace a job slot. -/
def State.setJob (s : State) (j : SlotNo) (r : Option Job) : State := { s with jobs := s.jobs.set j r }

/-- Change the job of a slot; a FREE slot is left FREE. -/
def State.updJob (s : State) (j : SlotNo) (f : Job → Job) : State :=
  match s.job j with
  | some r => s.setJob j (some (f r))
  | none => s

/-- The job of a docket in use. -/
def State.jobOf (s : State) (d : DocketNo) : Option Job :=
  match s.docket d with
  | some r => s.job r.slot
  | none => none

/-- The number of a sensor, in the order of Table 3-2. -/
def sensorIndex : Sensor → Fin 12
  | .liftHome => 0 | .swingBin => 1 | .swingBay => 2 | .discPresent => 3 | .contact => 4 | .stackA => 5
  | .stackB => 6 | .doorA => 7 | .doorB => 8 | .doorGood => 9 | .doorReject => 10 | .trayPresent => 11

/-- The filtered value of a sensor (R44). -/
def State.sensor (s : State) (x : Sensor) : Bool := (s.sensors.get (sensorIndex x)).on

/-- Replace a sensor's filter. -/
def State.setFilter (s : State) (x : Sensor) (f : Filter) : State :=
  { s with sensors := s.sensors.set (sensorIndex x) f }

/-- Number of job slots not FREE (R165). -/
def State.occupied (s : State) : Nat := (Config.allSlots.filter fun j => (s.job j).isSome).length

/-- A docket is in use. -/
def State.anyDocket (s : State) : Bool := Config.allDockets.any fun d => (s.docket d).isSome

/-- The board address, 64 bits (R163). -/
def State.boardAddr (s : State) : Nat := s.regs.boardHigh.toNat * 2 ^ 32 + s.regs.boardLow.toNat

/-! ### Counts and timers -/

/-- A count raised by 1 that holds at its largest value (section 4 of 00_scope.md, "Counts"). -/
def countUp (limit n : Nat) : Nat := if n < limit then n + 1 else limit

/-- A timer is running. -/
def Timer.running (t : Timer) : Bool := t.isSome

/-- One millisecond of a running timer. -/
def Timer.tick (t : Timer) : Timer := t.map (· - 1)

/-! ### Sending -/

/-- Record something sent outside. -/
def emit (o : Output) (s : State) : State := { s with out := s.out ++ [o] }

/-! ### Attention causes (R166) -/

/-- The three attention causes. -/
inductive Attention where
  | cardDone | statusNew | halted
  deriving DecidableEq, Repr

/-- A cause as it stands. -/
def Regs.attention (r : Regs) : Attention → Bool
  | .cardDone => r.cardDone
  | .statusNew => r.statusNew
  | .halted => r.halted

/-- Write one cause. -/
def Regs.setAttention (r : Regs) (on : Bool) : Attention → Regs
  | .cardDone => { r with cardDone := on }
  | .statusNew => { r with statusNew := on }
  | .halted => { r with halted := on }

/-- A setting event reaches a cause: a change from clear to set sends an MSI while IRQ_EN is set (R166). -/
def raiseAttention (a : Attention) (s : State) : State :=
  if s.regs.attention a then s
  else
    let s' := { s with regs := s.regs.setAttention true a }
    if s.regs.irqEn then emit .msi s' else s'

/-! ### Posted writes and the tower status block (R96, R172) -/

/-- The length of a write. -/
def PostedWrite.length (w : PostedWrite) : Nat :=
  match w.data with
  | .bytes l => l.length
  | .fields _ _ => 8
  | .status => 512

/-- The posted write queue has room (R96). -/
def State.room (s : State) : Bool := s.engine.posted.length < 32

/-- Put a write at the end of the posted write queue. -/
def post (w : PostedWrite) (s : State) : State :=
  { s with engine := { s.engine with posted := s.engine.posted ++ [w] } }

/-- A block begins to wait for room, with the steps it has still to take (R96). -/
def waitForRoom (t : Thread) (s : State) : State :=
  { s with engine := { s.engine with waiting := s.engine.waiting ++ [t] } }

/-- A block begins to take steps in this event. -/
def startThread (t : Thread) (s : State) : State :=
  { s with engine := { s.engine with agenda := s.engine.agenda ++ [t] } }

/-- A rewrite of the status block at address `a` is queued and not yet issued, or a rewrite waits for room. A rewrite still queued
for an address no longer in use stands for none at the address in use (R172). -/
def State.statusQueued (s : State) (a : Nat) : Bool :=
  s.engine.posted.any (fun w => w.data == .status && w.addr == a) || s.engine.waiting.any (fun t => t.contains .status)
    || s.engine.agenda.any (fun t => t.contains .status)

/-- Queue one rewrite of the tower status block at address `a` unless one waits already (R172). -/
def queueStatus (s : State) : State :=
  match s.board.statusAddr with
  | none => s
  | some a =>
    if a = 0 ∨ s.statusQueued a then s
    else if s.room then post { addr := a, data := .status, docket := none } s
    else waitForRoom [.status] s

/-- A change of a value of the tower status block is reported to the board scanner (R172). -/
def reportStatus (s : State) : State := queueStatus s

/-! ### Fault record (R173) -/

/-- The class of a fault code. -/
inductive FaultClass where
  | motion | bay | hostMemory | print | config
  deriving DecidableEq, Repr

/-- The class each code belongs to (table of R173). -/
def FaultCode.cls : FaultCode → FaultClass
  | .jam | .position | .home | .drop | .release | .swing => .motion
  | .timeout | .noMedia | .driveFault | .retired => .bay
  | .readError | .readTimeout | .writeError | .badAnchor => .hostMemory
  | .spindle | .starved | .badBand | .foreignDisc | .spindown | .trayLost => .print
  | .badSignature | .noMemory | .badRegion | .badGeometry | .noGeometry => .config

/-- The count of a class. -/
def FaultRecord.count (f : FaultRecord) : FaultClass → Nat
  | .motion => f.motion
  | .bay => f.bay
  | .hostMemory => f.hostMemory
  | .print => f.print
  | .config => f.config

/-- Raise the count of a class by 1, holding at 255. -/
def FaultRecord.raise (f : FaultRecord) : FaultClass → FaultRecord
  | .motion => { f with motion := countUp 255 f.motion }
  | .bay => { f with bay := countUp 255 f.bay }
  | .hostMemory => { f with hostMemory := countUp 255 f.hostMemory }
  | .print => { f with print := countUp 255 f.print }
  | .config => { f with config := countUp 255 f.config }

/-- A fault is reported: it becomes the first fault, or raises its class's count (R173). -/
def reportFault (code : FaultCode) (bay : Option BayNo) (docket : Option DocketNo) (s : State) : State :=
  match s.faults.first with
  | none =>
    reportStatus { s with faults := { s.faults with
      first := some { code := code, bay := bay, docket := docket, time := s.tower.time } } }
  | some _ =>
    if s.faults.raise code.cls = s.faults then s
    else reportStatus { s with faults := s.faults.raise code.cls }

/-! ### Reported states -/

/-- A dispatcher event: it starts a round while the tower is RUNNING or HALTED and RUN is set, and is otherwise not
remembered (R36). -/
def triggerRound (s : State) : State :=
  if (s.tower.state = .running ∨ s.tower.state = .halted) ∧ s.regs.run then { s with roundDue := true } else s

/-- The tower enters a state; each change is reported, and the entry into RUNNING starts a round (R175, R36). -/
def setTower (st : TowerState) (s : State) : State :=
  if s.tower.state = st then s
  else
    let s' := reportStatus { s with tower := { s.tower with state := st } }
    if st = .running then triggerRound { s' with tower := { s'.tower with reachedRunning := true } } else s'

/-- The transport enters a state; each change is reported (R63). -/
def setTransport (st : TransportState) (s : State) : State :=
  if s.transport.state = st then s
  else reportStatus { s with transport := { s.transport with state := st } }

/-- The printer enters a state; each change is reported (R147). The entry into READY_OUT opens the spindle clamp (R160). -/
def setPrinter (st : PrinterState) (s : State) : State :=
  if s.printer.state = st then s
  else reportStatus { s with printer := { s.printer with
    state := st, clamped := if st = .readyOut then false else s.printer.clamped } }

/-- A bay enters a state; each change is reported (R72). -/
def setBayState (b : BayNo) (st : BayState) (s : State) : State :=
  if (s.bay b).state = st then s
  else reportStatus (s.setBay b { s.bay b with state := st })

/-- A bay's logical number changes; each change is reported (R72, R136). -/
def setLogical (b : BayNo) (n : Option BayNo) (s : State) : State :=
  if (s.bay b).logical = n then s
  else reportStatus (s.setBay b { s.bay b with logical := n })

/-- The physical bay that holds a logical number (R88). -/
def State.bayOfLogical (s : State) (n : BayNo) : Option BayNo :=
  Config.allBays.find? fun b => (s.bay b).logical == some n

/-! ### Bins (R57, R58) -/

/-- The door sensor of an output bin. -/
def OutputBin.door : OutputBin → Sensor
  | .good => .doorGood
  | .reject => .doorReject

/-- The record of an output bin. -/
def Bins.out (x : Bins) : OutputBin → OutBin
  | .good => x.good
  | .reject => x.reject

/-- Write an output bin's count. -/
def Bins.setCount (x : Bins) (n : Nat) : OutputBin → Bins
  | .good => { x with good := { x.good with count := n } }
  | .reject => { x with reject := { x.reject with count := n } }

/-- The state of an output bin, derived from its count and its door (R58). -/
def State.outBin (s : State) (o : OutputBin) : OutputBinState :=
  if s.sensor o.door then .open
  else if (s.bins.out o).count = (s.bins.out o).capacity then .full
  else .available

/-- The record of an input bin. -/
def Bins.input (x : Bins) : InputBin → InBin
  | .a => x.a
  | .b => x.b

/-- An input bin enters a state; each change is reported (R57). -/
def setInput (i : InputBin) (st : InputBinState) (s : State) : State :=
  if (s.bins.input i).state = st then s
  else
    reportStatus { s with bins := match i with
      | .a => { s.bins with a := { s.bins.a with state := st } }
      | .b => { s.bins with b := { s.bins.b with state := st } } }

/-- A disc arrives in an output bin: its count rises by 1 and is reported (R58). -/
def binUp (o : OutputBin) (s : State) : State :=
  reportStatus { s with bins := s.bins.setCount ((s.bins.out o).count + 1) o }

/-! ### The passing of a millisecond -/

/-- A millisecond of a presented request's age. -/
def FetchReq.tick (r : FetchReq) : FetchReq := { r with ageTimer := r.ageTimer.tick }

/-- A millisecond of a bay's timers. -/
def Bay.tick (r : Bay) : Bay :=
  { r with
    reqs := r.reqs.map fun q => { q with left := q.left - 1 }
    image := r.image.map FetchReq.tick
    extent := r.extent.map FetchReq.tick
    compare := r.compare.map FetchReq.tick }

/-- A millisecond of an outstanding fetch. -/
def Fetch.tick (f : Fetch) : Fetch := { f with timer := f.timer - 1 }

/-- A millisecond of the engine's timers. -/
def Engine.tick (e : Engine) : Engine :=
  { e with slots := e.slots.map (·.map Fetch.tick), print := e.print.map FetchReq.tick, board := e.board.map FetchReq.tick }

/-- A millisecond of the transport's timers. -/
def Transport.tick (t : Transport) : Transport :=
  { t with
    lift := { t.lift with
      stallTimer := t.lift.stallTimer.tick
      moveTimer := t.lift.moveTimer.tick
      settleTimer := t.lift.settleTimer.tick
      homeTimer := t.lift.homeTimer.tick }
    swingTimer := t.swingTimer.tick
    gripTimer := t.gripTimer.tick
    placeTimer := t.placeTimer.tick }

/-- A millisecond of the printer's timers. -/
def Printer.tick (p : Printer) : Printer :=
  { p with
    clampTimer := p.clampTimer.tick
    spinupTimer := p.spinupTimer.tick
    settleTimer := p.settleTimer.tick
    spindownTimer := p.spindownTimer.tick
    quietTimer := p.quietTimer.tick }

/-- One millisecond passes with no command waiting: tower time rises by 1 and every running timer falls by 1.
DESIGN CHOICE (row 1): the table has no row for the passing of time. -/
def State.tick (s : State) : State :=
  { s with
    tower := { s.tower with time := countUp (2 ^ 64 - 1) s.tower.time }
    board := { s.board with scanTimer := s.board.scanTimer.tick }
    health := { s.health with drainTimer := s.health.drainTimer.tick }
    transport := s.transport.tick
    bays := s.bays.map Bay.tick
    engine := s.engine.tick
    printer := s.printer.tick }

end Sys2Proof.Machine
end

