-- ==== Sys2Proof/Machine/Operands.lean ====
section
/-! DEFINITION. The record layouts of Chapter 12: what the part reads from host memory and the configuration memory, and the
bytes of what it writes. -/

namespace Sys2Proof.Machine

/-! ### Bytes (R182: least significant byte first) -/

/-- The `n` bytes of a number, least significant first. -/
def le (n w : Nat) : List Byte := (List.range n).map fun i => BitVec.ofNat 8 (w / 256 ^ i)

/-- The number a run of bytes holds, least significant first. -/
def fromLe : List Byte → Nat
  | [] => 0
  | b :: t => b.toNat + 256 * fromLe t

/-- The field of `len` bytes at offset `off` of a record. -/
def field (bytes : List Byte) (off len : Nat) : Nat := fromLe ((bytes.drop off).take len)

/-- Unused bytes of a record that the part writes whole (R182). -/
def zeros (n : Nat) : List Byte := List.replicate n 0

/-- A count in a field narrower than the count is written as the field's largest value (R183). -/
def heldTo (limit n : Nat) : Nat := min n limit

/-! ### Codes (Table 12-1) -/

/-- Codes of media classes. -/
def mediaClassOf : Nat → Option MediaClass
  | 0 => some .cd
  | 1 => some .dvd
  | 2 => some .bd
  | _ => none

/-- Cause codes. -/
def Cause.code : Cause → Nat
  | .none => 0 | .verify => 1 | .underrun => 2 | .linkLimit => 3 | .writeFault => 4 | .mediaUnsuitable => 5
  | .tooLarge => 6 | .hostRead => 7 | .sourceChanged => 8 | .extentMismatch => 9 | .jobFailed => 10
  | .cancelled => 11 | .bayReset => 12 | .bayTimeout => 13 | .printSpindle => 14 | .printStarved => 15 | .dropped => 16

/-- Refusal reason codes. -/
def Reason.code : Reason → Nat
  | .none => 0 | .badKind => 1 | .badCopies => 2 | .badClass => 3 | .badMask => 4 | .badImage => 5 | .badAlign => 6
  | .badLabel => 7 | .badService => 8 | .busy => 9 | .notInstalled => 10 | .notHalted => 11 | .inUse => 12
  | .uncalibrated => 13

/-- Card outcome codes. -/
def CardOutcome.code : CardOutcome → Nat
  | .absent => 0 | .done => 1 | .failed => 2 | .cancelled => 3 | .abandoned => 4 | .ok => 5

/-- Place codes. -/
def Place.code : Place → Nat
  | .input => 0 | .arm => 1 | .bay => 2 | .printer => 3 | .goodBin => 4 | .rejectBin => 5

/-- Tower state codes. -/
def TowerState.code : TowerState → Nat
  | .loading => 0 | .uncalibrated => 1 | .homing => 2 | .discovering => 3 | .sweeping => 4 | .running => 5 | .halted => 6

/-- Transport state codes. -/
def TransportState.code : TransportState → Nat
  | .stopped => 0 | .homing => 1 | .sweeping => 2 | .free => 3 | .busy => 4 | .halted => 5

/-- Printer state codes. -/
def PrinterState.code : PrinterState → Nat
  | .empty => 0 | .seating => 1 | .spinup => 2 | .settling => 3 | .stepping => 4 | .printing => 5 | .spindown => 6
  | .readyOut => 7 | .fault => 8

/-- Input bin state codes. -/
def InputBinState.code : InputBinState → Nat
  | .loaded => 0 | .empty => 1 | .open => 2

/-- Output bin state codes. -/
def OutputBinState.code : OutputBinState → Nat
  | .available => 0 | .full => 1 | .open => 2

/-- Bay state codes. -/
def BayState.code : BayState → Nat
  | .absent => 0 | .discovering => 1 | .idle => 2 | .reserved => 3 | .opening => 4 | .open => 5 | .closing => 6
  | .probing => 7 | .burning => 8 | .finalizing => 9 | .verifying => 10 | .holding => 11 | .resetting => 12
  | .spare => 13 | .retired => 14

/-- Fault class codes. -/
def FaultClass.code : FaultClass → Nat
  | .motion => 1 | .bay => 2 | .hostMemory => 3 | .print => 4 | .config => 5

/-- Fault codes, by the class's own numbering. -/
def FaultCode.code : FaultCode → Nat
  | .jam => 0 | .position => 1 | .home => 2 | .drop => 3 | .release => 4 | .swing => 5
  | .timeout => 0 | .noMedia => 1 | .driveFault => 2 | .retired => 3
  | .readError => 0 | .readTimeout => 1 | .writeError => 2 | .badAnchor => 3
  | .spindle => 0 | .starved => 1 | .badBand => 2 | .foreignDisc => 3 | .spindown => 4 | .trayLost => 5
  | .badSignature => 0 | .noMemory => 1 | .badRegion => 2 | .badGeometry => 3 | .noGeometry => 4

/-- A number that may be none is written as 255 (R183). -/
def orNone (o : Option Nat) : Nat := o.getD 255

/-! ### Register reads (section 12.2) -/

/-- What the host reads at an offset of the register window. -/
def readRegister (s : State) (offset : Nat) : Nat :=
  if offset = 0 then s.regs.boardLow.toNat
  else if offset = 4 then s.regs.boardHigh.toNat
  else if offset = 12 then s.regs.run.toNat + 2 * s.regs.irqEn.toNat
  else if offset = 16 then
    s.tower.state.code + 16 * s.occupied + 256 * (s.board.scan.isSome || s.board.scanPending).toNat
  else if offset = 20 then s.regs.cardDone.toNat + 2 * s.regs.statusNew.toNat + 4 * s.regs.halted.toNat
  else 0

/-! ### Anchor and cards (Tables 12-2 to 12-5) -/

/-- The COPY card body and the common fields of a card. -/
def parseCopy (c : List Byte) : CopyCard :=
  { priority := field c 3 1 % 4, ticket := field c 4 4, copies := field c 8 2, maxRejects := field c 10 1
    mediaClass := field c 11 1, mask := BitVec.ofNat 16 (field c 12 2), speed := field c 14 1, policy := field c 15 1
    linkLimit := field c 16 1, verify := field c 17 1, extentCount := field c 18 2, totalSectors := field c 20 4
    extentTable := field c 24 8, signatureTable := field c 32 8, bandTable := field c 40 8, bandCount := field c 48 1
    reportArea := field c 56 8 }

/-- The SERVICE card body. -/
def parseService (c : List Byte) : ServiceCard :=
  let flags := field c 10 1
  { code := field c 8 1, bay := field c 9 1
    scan := if flags % 2 = 1 then some (field c 12 4) else none
    drain := if flags / 2 % 2 = 1 then some (field c 16 2) else none
    soft := field c 18 1, hard := field c 19 1 }

/-- A card of the snapshot. -/
def parseCard (i : Fin 64) (c : List Byte) : Card :=
  { index := i, state := field c 0 1, kind := field c 1 1, cancel := field c 2 1 == 1, good := field c 116 2
    reject := field c 118 2, copy := parseCopy c, service := parseService c }

/-- The cards of a card table, in index order. -/
def parseTable (bytes : List Byte) (count : Nat) : List Card :=
  ((List.finRange 64).filter fun i => i.val < count).map fun i => parseCard i ((bytes.drop (128 * i.val)).take 128)

/-- Address of card `i` of the board at `base` (R163). -/
def cardAddr (base : Nat) (i : Fin 64) : Nat := base + 64 + 128 * i.val

/-! ### Image and label records (Tables 12-6 to 12-8) -/

/-- An extent record. -/
def parseExtent (r : List Byte) : Extent := { addr := field r 0 8, sectors := field r 8 4 }

/-- The entries of a signature block. -/
def parseEntries : Nat → List Byte → List (BitVec 32)
  | 0, _ => []
  | n + 1, l => BitVec.ofNat 32 (fromLe (l.take 4)) :: parseEntries n (l.drop 4)

/-- The whole part of the dot spacing, floor(2^19 / D) (R151). -/
def RingEntry.q (e : RingEntry) : Nat := 2 ^ 19 / e.dots

/-- The remainder 2^19 − q·D (R154). -/
def RingEntry.r (e : RingEntry) : Nat := 2 ^ 19 - e.q * e.dots

/-- A ring entry with the clamps of R151: D to 64..16,384, then the phase to at most q − 1. -/
def parseRing (r : List Byte) : RingEntry :=
  let d := min 16384 (max 64 (field r 2 2))
  { enabled := field r 0 1 % 2 == 1, dots := d, phase := min (field r 4 4) (2 ^ 19 / d - 1), addr := field r 8 8 }

/-- A band record with the clamp of R151: a ring index above 504 is taken as 504. -/
def parseBand (r : List Byte) : BandRecord :=
  { ring := min 504 (field r 0 2)
    lanes := Vector.ofFn fun j : Fin 8 => parseRing ((r.drop (16 + 16 * j.val)).take 16) }

/-- Bit `k` of a lane's dot data (Table 9-3). -/
def dotBit (data : List Byte) (k : Nat) : Bool :=
  match data[k / 8]? with
  | some b => b.getLsbD (k % 8)
  | none => false

/-! ### Configuration memory (Table 12-12) -/

/-- The geometry region. -/
def parseGeometry (m : List Byte) : Calibration :=
  { stations := Vector.ofFn fun i : Fin 17 => field m (4 + 4 * i.val) 4
    floorA := field m 72 4, floorB := field m 76 4, startDuty := field m 80 2, cruiseDuty := field m 82 2
    creepDuty := field m 84 2, rampStep := field m 86 2, braking := field m 88 4 }

/-- All 19 positions of a calibration set. -/
def Calibration.positions (c : Calibration) : List Nat := c.floorA :: c.floorB :: c.stations.toList

/-- A geometry is plausible (R177). -/
def Calibration.plausible (c : Calibration) : Bool :=
  c.positions.all (· ≤ 200000)
    && [c.startDuty, c.cruiseDuty, c.creepDuty, c.rampStep].all (fun x => 1 ≤ x && x ≤ 1000)
    && c.braking < c.positions.foldl max 0

/-- A physical bay is installed by the mask of the bay plant region. -/
def plantInstalled (m : List Byte) (b : BayNo) : Bool := (field m 92 2).testBit b.val

/-- The spare of the bay plant region: `none` where the region fails its check (R176). -/
def plantSpare (m : List Byte) : Option (Option BayNo) :=
  let v := field m 94 1
  if v = 255 then some none
  else if h : v < 12 then (if plantInstalled m ⟨v, h⟩ then some (some ⟨v, h⟩) else none)
  else none

/-! ### Disc report (Table 12-9) -/

/-- The outcome of a landed docket (R13). -/
def Docket.outcomeCode (d : Docket) : Nat :=
  match d.outputBin with
  | some .good => 0
  | some .reject => 1
  | none => 2

/-- A time written as an offset from the picked time (R183). -/
def reportTime (picked t : Option Nat) : List Byte :=
  le 4 (match t with
    | some x => heldTo (2 ^ 32 - 1) (x - picked.getD 0)
    | none => 0)

/-- The print counters' bytes 18..31 of a report. -/
def reportPrint (p : Option PrintCounters) : List Byte :=
  let c := p.getD { fired := 0, crowded := 0, dropped := 0, clipped := 0, slips := 0 }
  le 1 c.slips ++ zeros 1 ++ le 3 c.fired ++ le 3 c.crowded ++ le 3 c.dropped ++ le 3 c.clipped

/-- The 64 bytes of a disc report (R14). -/
def Docket.report (d : Docket) : List Byte :=
  le 4 d.ticket ++ le 2 (d.ordinal.getD 0) ++ le 1 d.outcomeCode ++ le 1 d.cause.code
    ++ le 1 (match d.inputBin with | .a => 0 | .b => 1)
    ++ le 1 d.bay.val ++ le 1 d.logical.val
    ++ le 1 ((d.place.map Place.code).getD 0)
    ++ le 1 (match d.outputBin with | none => 0 | some .good => 1 | some .reject => 2)
    ++ le 1 (d.print.isSome.toNat + 2 * d.burnStart.isSome.toNat + 4 * d.burnEnd.isSome.toNat
        + 8 * d.verdictTime.isSome.toNat + 16 * d.landed.isSome.toNat)
    ++ le 2 (heldTo 65535 d.groupsWritten) ++ le 1 (heldTo 255 d.links) ++ le 1 (heldTo 255 d.rereads)
    ++ reportPrint d.print
    ++ le 8 (d.picked.getD 0)
    ++ reportTime d.picked d.burnStart ++ reportTime d.picked d.burnEnd ++ reportTime d.picked d.verdictTime
    ++ reportTime d.picked d.landed ++ zeros 8

/-! ### Tower status block (Tables 12-10 and 12-11) -/

/-- The entry of a physical bay. -/
def Bay.entry (r : Bay) : List Byte :=
  le 1 r.state.code ++ le 1 (orNone (r.logical.map (·.val))) ++ le 1 r.failing.toNat ++ le 1 r.soft ++ le 1 r.hard
    ++ zeros 1 ++ le 2 r.linkErrors

/-- The first fault's bytes 16..27. -/
def FaultRecord.firstBytes (f : FaultRecord) : List Byte :=
  match f.first with
  | none => zeros 12
  | some e =>
    le 1 e.code.cls.code ++ le 1 e.code.code ++ le 1 (orNone (e.bay.map (·.val)))
      ++ le 1 (orNone (e.docket.map (·.val))) ++ le 8 e.time

/-- Bytes 4 to 511 of the tower status block, the middle piece of a rewrite (R172). -/
def statusBody (s : State) : List Byte :=
  le 1 s.tower.state.code ++ le 1 s.transport.state.code ++ le 1 s.printer.state.code ++ zeros 1
    ++ le 1 s.bins.a.state.code ++ le 1 s.bins.b.state.code ++ le 1 (s.outBin .good).code ++ le 1 (s.outBin .reject).code
    ++ le 2 s.bins.good.count ++ le 2 s.bins.reject.count
    ++ s.faults.firstBytes
    ++ le 1 s.faults.motion ++ le 1 s.faults.bay ++ le 1 s.faults.hostMemory ++ le 1 s.faults.print
    ++ le 1 s.faults.config
    ++ zeros 31 ++ (Config.allBays.flatMap fun b => (s.bay b).entry) ++ zeros 352

/-! ### Writes to cards (R164, section 12.3) -/

/-- The result fields of a card: outcome, fail cause and refusal reason at bytes 112 to 114, the counts at bytes 116 to 119. Byte 115
is the host's and is not written (R182). -/
def resultFields (outcome : CardOutcome) (fail : Cause) (reason : Reason) (good reject : Nat) : WriteData :=
  .fields (le 1 outcome.code ++ le 1 fail.code ++ le 1 reason.code) (le 2 good ++ le 2 reject)

/-- A write of plain bytes that belongs to no docket. -/
def plainWrite (addr : Nat) (bytes : List Byte) : PostedWrite := { addr := addr, data := .bytes bytes, docket := none }

/-- The write of the result fields of card `i`, one write in the queue (R164, R96). -/
def resultWrite (base : Nat) (i : Fin 64) (outcome : CardOutcome) (fail : Cause) (reason : Reason) (good reject : Nat) : PostedWrite :=
  { addr := cardAddr base i + 112, data := resultFields outcome fail reason good reject, docket := none }

/-- The card states the part writes. -/
def cardTaken : Nat := 2
/-- FINISHED (Table 12-1). -/
def cardFinished : Nat := 3
/-- REFUSED (Table 12-1). -/
def cardRefused : Nat := 4

/-- A card is written FINISHED: result fields, state, tally (R164). -/
def finishCard (base : Nat) (i : Fin 64) (outcome : CardOutcome) (fail : Cause) (good reject : Nat) : Thread :=
  [.write (resultWrite base i outcome fail .none good reject),
   .write (plainWrite (cardAddr base i) (le 1 cardFinished)), .tally base]

/-- A card is written REFUSED with its reason: result fields, state, tally (R164). -/
def refuseCard (base : Nat) (i : Fin 64) (reason : Reason) : Thread :=
  [.write (resultWrite base i .absent .none reason 0 0),
   .write (plainWrite (cardAddr base i) (le 1 cardRefused)), .tally base]

/-- An accepted card is written with counts 0 and state TAKEN (R164). -/
def takeCard (base : Nat) (i : Fin 64) : Thread :=
  [.write (plainWrite (cardAddr base i + 116) (zeros 4)), .write (plainWrite (cardAddr base i) (le 1 cardTaken))]

/-- A card is written TAKEN again (R169 step 3). -/
def retakeCard (base : Nat) (i : Fin 64) : Thread := [.write (plainWrite (cardAddr base i) (le 1 cardTaken))]

end Sys2Proof.Machine
end

