-- ==== Sys2Proof/Machine/Links.lean ====
section
/-! DEFINITION. The outstanding request list of a bay link (section 4.1), and the health counters with retirement and spare
takeover (Chapter 8), which every bay event may reach. -/

namespace Sys2Proof.Machine

/-! ### The outstanding request list -/

/-- The timeout of each request in milliseconds (Table 4-1). -/
def timeoutOf : Request → Nat
  | .identify => 2000
  | .trayOpen => 8000
  | .trayClose => 8000
  | .probe => 20000
  | .burnOpen => 10000
  | .group _ => 5000
  | .burnClose => 180000
  | .read _ => 5000
  | .halt => 10000
  | .reset => 10000

/-- A request of this kind and group is outstanding at the bay. -/
def State.hasReq (s : State) (b : BayNo) (q : Request) : Bool := (s.bay b).reqs.any fun o => o.req == q

/-- The IDENTIFY outstanding at the bay was sent for a spare takeover (R73, R140). -/
def Bay.takingOver (r : Bay) : Bool := (r.reqs.find? fun o => o.req == .identify).map (·.purpose) == some .takeover

/-- Number of GROUP requests outstanding. -/
def Bay.groupsOut (r : Bay) : Nat := (r.reqs.filter fun o => match o.req with | .group _ => true | _ => false).length

/-- Number of READ requests outstanding. -/
def Bay.readsOut (r : Bay) : Nat := (r.reqs.filter fun o => match o.req with | .read _ => true | _ => false).length

/-- The group of the oldest GROUP outstanding (R70). -/
def Bay.oldestGroup (r : Bay) : Option Nat := r.reqs.findSome? fun o => match o.req with | .group n => some n | _ => none

/-- Send a request: the frame leaves, and the request is entered at the end of the list with its timer (R69). -/
def enterReq (b : BayNo) (q : Request) (p : Purpose) (m : DriveMsg) (s : State) : State :=
  emit (.drive b m)
    (s.setBay b { s.bay b with reqs := (s.bay b).reqs ++ [{ req := q, purpose := p, left := timeoutOf q }] })

/-- Send a request of a kind held at most once: one already outstanding stands for it (R69). -/
def sendReq (b : BayNo) (q : Request) (p : Purpose) (m : DriveMsg) (s : State) : State :=
  if s.hasReq b q then s else enterReq b q p m s

/-- Remove the oldest request of this kind and group from the list. -/
def dropReq (b : BayNo) (q : Request) (s : State) : State :=
  s.setBay b { s.bay b with reqs := (s.bay b).reqs.eraseP fun o => o.req == q }

/-- Withdraw the BURN_OPEN, GROUP and BURN_CLOSE requests, remembering the groups of the GROUPs withdrawn (R82, R80). -/
def withdrawBurn (b : BayNo) (s : State) : State :=
  let r := s.bay b
  s.setBay b { r with
    withdrawn := r.reqs.filterMap fun o => match o.req with | .group n => some n | _ => none
    reqs := r.reqs.filter fun o => match o.req with | .burnOpen => false | .group _ => false | .burnClose => false | _ => true }

/-- The link-error count of a bay rises by 1; the change by itself causes no rewrite (R68). -/
def linkError (b : BayNo) (s : State) : State :=
  s.setBay b { s.bay b with linkErrors := countUp 65535 (s.bay b).linkErrors }

/-- A message that answers no request is discarded and counted, but not counted while the bay is RESETTING or RETIRED (R70). -/
def discardMsg (b : BayNo) (s : State) : State :=
  if (s.bay b).state = .resetting ∨ (s.bay b).state = .retired then s else linkError b s

/-! ### Health -/

/-- Write the spare designation. -/
def setSpare (d : Option BayNo) (s : State) : State := { s with health := { s.health with spare := d } }

/-- A designation that names this bay becomes none. -/
def endDesignation (b : BayNo) (s : State) : State := if s.health.spare = some b then setSpare none s else s

/-- The spare takeover with the number given up (R140). -/
def takeover (number : Option BayNo) (s : State) : State :=
  match number, s.health.spare with
  | some n, some sp =>
    if (s.bay sp).state = .spare then
      setBayState sp .discovering (sendReq sp .identify .takeover .identify (setSpare none (setLogical sp (some n) s)))
    else s
  | _, _ => s

/-- A bay retires (R139): it enters RETIRED, gives up its number, the takeover is made, the fault is reported. A designation that
names the retiring bay itself stands here: only the retirement of a SPARE bay makes it none (R138), and what becomes of it where a
stranded bay that is designated retires by R85, or a designated bay at the IDENTITY of an earlier takeover, the spec does not say; here it
stands until REINSTATE_BAY (DESIGN CHOICE, row 36). -/
def retire (b : BayNo) (s : State) : State :=
  let number := (s.bay b).logical
  reportFault .retired (some b) none (takeover number (setLogical b none (setBayState b .retired s)))

/-- A bay enters IDLE, or RETIRED in its place where it is marked failing; the entry into IDLE is an event for the
dispatcher (R73, R74, R36). -/
def enterIdle (b : BayNo) (s : State) : State :=
  if (s.bay b).failing then retire b s else triggerRound (setBayState b .idle s)

/-- A SPARE bay retires: a designation that names it becomes none (table of R138). -/
def retireSpare (b : BayNo) (s : State) : State :=
  retire b (endDesignation b s)

/-- A bay enters SPARE; one that is marked failing passes through it and retires (R138). -/
def enterSpare (b : BayNo) (s : State) : State :=
  let s' := setBayState b .spare s
  if (s.bay b).failing then retireSpare b s' else s'

/-- The failing mark is set, with what follows by the bay's state (table of R138). -/
def markFailing (b : BayNo) (s : State) : State :=
  let s' := reportStatus (s.setBay b { s.bay b with failing := true })
  match (s.bay b).state with
  | .idle => retire b s'
  | .spare => retireSpare b s'
  | _ => s'

/-- A counter of the bay is at or above its limit, and that limit is not 0 (R138). -/
def State.overLimit (s : State) (b : BayNo) : Bool :=
  (s.health.softLimit != 0 && decide (s.health.softLimit ≤ (s.bay b).soft))
    || (s.health.hardLimit != 0 && decide (s.health.hardLimit ≤ (s.bay b).hard))

/-- Test a bay that is not RETIRED against the limits (R138). -/
def testLimits (b : BayNo) (s : State) : State :=
  if (s.bay b).state ≠ .retired ∧ (s.bay b).failing = false ∧ s.overLimit b then markFailing b s else s

/-- A hard event: the counter rises, holding at 15, and is tested; a RETIRED bay's is frozen (R137). -/
def hardUp (b : BayNo) (s : State) : State :=
  if (s.bay b).state = .retired ∨ 15 ≤ (s.bay b).hard then s
  else testLimits b (reportStatus (s.setBay b { s.bay b with hard := (s.bay b).hard + 1 }))

/-- A soft event (R137). -/
def softUp (b : BayNo) (s : State) : State :=
  if (s.bay b).state = .retired ∨ 15 ≤ (s.bay b).soft then s
  else testLimits b (reportStatus (s.setBay b { s.bay b with soft := (s.bay b).soft + 1 }))

end Sys2Proof.Machine
end

