-- ==== Sys2Proof/Machine/Staging.lean ====
section
/-! DEFINITION. Reads in pieces, request lines, pages, and the end of a channel (Chapter 5; section 6.4 for the writes a discard drops). -/

namespace Sys2Proof.Machine

/-! ### Reads in pieces (R94) -/

/-- The length of the piece at `addr` with `left` bytes wanted: up to the next 4 KiB boundary of host memory. -/
def pieceLen (addr left : Nat) : Nat := min left (4096 - addr % 4096)

/-- The next piece of a read that has not been cut: its address, length and offset. -/
def Reading.next (r : Reading) : Option (Nat × Nat × Nat) :=
  if r.cut < r.len then some (r.base + r.cut, pieceLen (r.base + r.cut) (r.len - r.cut), r.cut) else none

/-- A read of `len` bytes at `base` of which nothing has been cut. -/
def Reading.start (base len : Nat) : Reading := { base := base, len := len, cut := 0, got := [] }

/-- Cut a piece of `n` bytes. -/
def Reading.advance (r : Reading) (n : Nat) : Reading := { r with cut := r.cut + n }

/-- Put a piece in its place among those that have arrived, by offset. -/
def insertPiece (off : Nat) (data : List Byte) : List (Nat × List Byte) → List (Nat × List Byte)
  | [] => [(off, data)]
  | p :: t => if off ≤ p.1 then (off, data) :: p :: t else p :: insertPiece off data t

/-- How many bytes have arrived. -/
def piecesLength (l : List (Nat × List Byte)) : Nat := (l.map fun p => p.2.length).sum

/-- The bytes that have arrived, in order. -/
def piecesData (l : List (Nat × List Byte)) : List Byte := l.flatMap (·.2)

/-- A piece arrives. -/
def Reading.place (r : Reading) (off : Nat) (data : List Byte) : Reading := { r with got := insertPiece off data r.got }

/-- The whole read, once every piece has arrived. -/
def Reading.data (r : Reading) : Option (List Byte) :=
  if piecesLength r.got = r.len then some (piecesData r.got) else none

/-! ### Request lines -/

/-- The request presented on a line. -/
def State.line (s : State) : LineId → Option FetchReq
  | .image b => (s.bay b).image
  | .extent b => (s.bay b).extent
  | .compare b => (s.bay b).compare
  | .print => s.engine.print
  | .board => s.engine.board

/-- Write the request of a line. -/
def setLine (id : LineId) (r : Option FetchReq) (s : State) : State :=
  match id with
  | .image b => s.setBay b { s.bay b with image := r }
  | .extent b => s.setBay b { s.bay b with extent := r }
  | .compare b => s.setBay b { s.bay b with compare := r }
  | .print => { s with engine := { s.engine with print := r } }
  | .board => { s with engine := { s.engine with board := r } }

/-- Board and extent lines age; the others do not (R103). -/
def lineAges : LineId → Bool
  | .extent _ => true
  | .board => true
  | _ => false

/-- A line presents a request (R94, R103). -/
def present (id : LineId) (addr len : Nat) (target : Target) (s : State) : State :=
  setLine id (some { addr := addr, len := len, target := target, stamp := s.event, aged := false,
                     ageTimer := if lineAges id then some 100 else none }) s

/-- The outstanding fetches of a line are orphaned; each keeps its slot (R95). -/
def orphanLine (id : LineId) (s : State) : State :=
  { s with engine := { s.engine with
      slots := s.engine.slots.map (·.map fun f => if f.line = id then { f with orphan := true } else f) } }

/-! ### Pages (R89 to R92) -/

/-- The pages a channel holds. -/
def Channel.pages : Channel → List Page
  | .closed => []
  | .burn c => c.pages
  | .verify c => c.pages

/-- A channel is open. -/
def Channel.isOpen : Channel → Bool
  | .closed => false
  | _ => true

/-- How many pages a bay's channel holds. -/
def State.holding (s : State) (b : BayNo) : Nat := (s.bay b).channel.pages.length

/-- The free pages: the 64 of the pool less those held (R89). -/
def State.freePages (s : State) : Nat := 64 - (Config.allBays.map s.holding).sum

/-- The unused reserve of a bay's channel (R91). -/
def State.unusedReserve (s : State) (b : BayNo) : Nat := if (s.bay b).channel.isOpen then 2 - s.holding b else 0

/-- The reserved free pages (R91). -/
def State.reservedFree (s : State) : Nat := min s.freePages (Config.allBays.map s.unusedReserve).sum

/-- The common free pages (R91). -/
def State.commonFree (s : State) : Nat := s.freePages - s.reservedFree

/-- A request for a page by this bay's channel can be granted (table of R91). -/
def State.canTakePage (s : State) (b : BayNo) : Bool :=
  if s.holding b < 2 then 1 ≤ s.reservedFree else decide (s.holding b < 8) && decide (1 ≤ s.commonFree)

/-- The waiting channel that takes the next free page (R92): those holding fewer than 2 first, in the order of the list,
then the others. -/
def State.pageTaker (s : State) : Option BayNo :=
  match s.pageWaiters.find? fun b => decide (s.holding b < 2) && s.canTakePage b with
  | some b => some b
  | none => s.pageWaiters.find? fun b => decide (2 ≤ s.holding b) && s.canTakePage b

/-- A page given to a burn channel, FILLING for the group it will cut next (R109). -/
def Burn.takePage (c : Burn) : Burn := { c with pages := c.pages ++ [{ group := c.cutGroup, full := false, got := [] }] }

/-! ### Channels -/

/-- The burn channel of a bay. -/
def State.burnOf (s : State) (b : BayNo) : Option Burn :=
  match (s.bay b).channel with
  | .burn c => some c
  | _ => none

/-- The verify channel of a bay. -/
def State.verifyOf (s : State) (b : BayNo) : Option Verify :=
  match (s.bay b).channel with
  | .verify c => some c
  | _ => none

/-- Write a bay's channel. -/
def setChannel (b : BayNo) (c : Channel) (s : State) : State := s.setBay b { s.bay b with channel := c }

/-- The write of signature entry `g` of a job (R111, R113). -/
def signatureWrite (j : Job) (g : Nat) (crc : BitVec 32) : PostedWrite :=
  plainWrite (j.signatureTable + 4 * g) (le 4 crc.toNat)

/-- A burn channel records a signature: the write is queued, or held by the channel while the queue is full (R113, R96). -/
def recordSignature (b : BayNo) (j : Job) (g : Nat) (crc : BitVec 32) (s : State) : State :=
  if s.room then post (signatureWrite j g crc) s
  else
    match s.burnOf b with
    | some c => waitForRoom [.signature b g] (setChannel b (.burn { c with held := c.held ++ [(g, crc)] }) s)
    | none => s

/-- Insert a number into an increasing list without repeats. -/
def insertNat (n : Nat) : List Nat → List Nat
  | [] => [n]
  | m :: t => if n < m then n :: m :: t else if n = m then m :: t else m :: insertNat n t

/-- The presented compare of entry `g` by a burn channel of job slot `j` at bay `b`: its age and CRC. -/
def State.heldCompare (s : State) (j : SlotNo) (g : Nat) (b : BayNo) : Option (Nat × BitVec 32) :=
  match s.burnOf b, (s.bay b).compare with
  | some c, some r =>
    if (s.docket c.docket).map (·.slot) = some j then
      (c.compares.find? fun e => e.group == g && e.phase == .presented).map fun e => (r.stamp, e.crc)
    else none
  | _, _ => none

/-- The first presented of those compares: least event, then lowest bay. -/
def State.firstHeldCompare (s : State) (j : SlotNo) (g : Nat) : Option (BayNo × Nat × BitVec 32) :=
  Config.allBays.foldl (fun best b =>
    match s.heldCompare j g b, best with
    | some (st, crc), none => some (b, st, crc)
    | some (st, crc), some (b0, st0, crc0) => if st < st0 then some (b, st, crc) else some (b0, st0, crc0)
    | none, best => best) none

/-- Entry `g` of a job whose held write was dropped becomes open, or is recorded by the channel whose held compare of it was
presented first (R116). -/
def openEntry (j : SlotNo) (g : Nat) (s : State) : State :=
  match s.job j with
  | none => s
  | some job =>
    match s.firstHeldCompare j g with
    | none => s.setJob j (some { job with openEntries := insertNat g job.openEntries })
    | some (b, _, crc) =>
      match s.burnOf b with
      | some c =>
        recordSignature b job g crc
          (setLine (.compare b) none
            (setChannel b (.burn { c with compares := c.compares.filter fun e => e.group != g }) s))
      | none => s

/-- The burst of a bay ends, and the pointer is set to it (R102). -/
def endBurstOf (b : BayNo) (s : State) : State :=
  match s.engine.burst with
  | some u => if u.bay = b then { s with engine := { s.engine with burst := none, pointer := b } } else s
  | none => s

/-- A thread that holds a signature write of bay `b`. -/
def isSignatureOf (b : BayNo) (t : Thread) : Bool :=
  match t with
  | .signature b' _ :: _ => b' == b
  | _ => false

/-- What every closing or discard of a bay's channel does (R90): pages, reserve, place in the list, requests and held writes
go, and outstanding fetches are orphaned. -/
def dropChannel (b : BayNo) (s : State) : State :=
  let s := s.setBay b { s.bay b with channel := .closed, image := none, extent := none, compare := none }
  let s := orphanLine (.image b) (orphanLine (.extent b) (orphanLine (.compare b) s))
  endBurstOf b
    { s with
      pageWaiters := s.pageWaiters.filter (· != b)
      engine := { s.engine with
        waiting := s.engine.waiting.filter fun t => !isSignatureOf b t
        agenda := s.engine.agenda.filter fun t => !isSignatureOf b t } }

/-- A channel is discarded (R90), and the entries of the writes it held become open (R116). -/
def discardChannel (b : BayNo) (s : State) : State :=
  match (s.bay b).channel with
  | .closed => s
  | .verify _ => dropChannel b s
  | .burn c =>
    let s' := dropChannel b s
    match s.docket c.docket with
    | some d => c.held.foldl (fun u h => openEntry d.slot h.1 u) s'
    | none => s'

/-- A burn channel enters ABORTING (R122): its ungranted requests and compares go. R122 drops the unpresented compares here and R115 has
the list go at the discard; a compare presented and not granted leaves with its request (DESIGN CHOICE, row 57). -/
def abortBurn (b : BayNo) (s : State) : State :=
  match (s.bay b).channel with
  | .burn c =>
    if c.state = .aborting then s
    else
      s.setBay b { s.bay b with
        image := none, extent := none, compare := none
        channel := .burn { c with state := .aborting, compares := c.compares.filter fun e => e.phase == .granted } }
  | _ => s

/-- A verify channel enters STOPPED (R132): its page request and ungranted block request go. -/
def stopVerify (b : BayNo) (s : State) : State :=
  match (s.bay b).channel with
  | .verify c =>
    if c.state = .stopped then s
    else
      { s.setBay b { s.bay b with compare := none, channel := .verify { c with state := .stopped } } with
        pageWaiters := s.pageWaiters.filter (· != b) }
  | _ => s

end Sys2Proof.Machine
end

