-- ==== Sys2Proof/Machine/Motion.lean ====
section
/-! DEFINITION. The arm: stations, the start and stop of motion, legs, tray asks, the end of an errand and a transport fault
(Chapter 3). -/

namespace Sys2Proof.Machine

/-! ### Stations (Table 3-1) -/

/-- The number of a station in the geometry region (Table 12-12). -/
def Station.index : Station → Fin 17
  | .input .a => 0
  | .input .b => 1
  | .output .good => 2
  | .output .reject => 3
  | .bay b => ⟨4 + b.val, by omega⟩
  | .printer => 16

/-- The swing side of a station. -/
def Station.side : Station → Side
  | .input _ => .bin
  | .output _ => .bin
  | .bay _ => .bay
  | .printer => .bay

/-- The end sensor of a swing side. -/
def Side.sensor : Side → Sensor
  | .bin => .swingBin
  | .bay => .swingBay

/-- The stack sensor of an input bin. -/
def InputBin.stack : InputBin → Sensor
  | .a => .stackA
  | .b => .stackB

/-- The calibration set in force. While none is held the transport makes no move (R43), and the zeros are never used. -/
def State.cal (s : State) : Calibration :=
  s.tower.calibration.getD
    { stations := Vector.replicate 17 0, floorA := 0, floorB := 0, startDuty := 0, cruiseDuty := 0, creepDuty := 0,
      rampStep := 0, braking := 0 }

/-- The lift position of a station (R43). -/
def State.position (s : State) (st : Station) : Nat := s.cal.stations.get st.index

/-- The floor position of an input bin (R43). -/
def State.floor (s : State) : InputBin → Nat
  | .a => s.cal.floorA
  | .b => s.cal.floorB

/-! ### Lift -/

/-- Write the lift axis. -/
def setLift (l : Lift) (s : State) : State := { s with transport := { s.transport with lift := l } }

/-- Write the phase of the arm. -/
def setPhase (p : Phase) (s : State) : State := { s with transport := { s.transport with phase := p } }

/-- Write the work in hand. -/
def setErrand (e : Option Errand) (s : State) : State := { s with transport := { s.transport with errand := e } }

/-- The remaining distance to a target (R46). -/
def Lift.distance (l : Lift) (target : Nat) : Nat := ((target : Int) - l.count).natAbs

/-- The duty at the start of a move (table of R46). -/
def startDuty (c : Calibration) (d : Nat) : Nat := if d ≤ 32 then c.creepDuty else min c.startDuty c.cruiseDuty

/-- The duty at a later millisecond of a move (table of R46). -/
def laterDuty (c : Calibration) (d duty : Nat) : Nat :=
  if d ≤ 32 then c.creepDuty
  else if d ≤ c.braking then max (duty - c.rampStep) c.creepDuty
  else min (duty + c.rampStep) c.cruiseDuty

/-- The stall timer as it starts with a duty above 0 (R48). -/
def stallStart (duty : Nat) : Timer := if duty = 0 then none else some 250

/-- The lift stands with its motor off. -/
def Lift.stop (l : Lift) : Lift :=
  { l with mode := .still, duty := 0, stallTimer := none, moveTimer := none, settleTimer := none, homeTimer := none }

/-- The lift axis as a move to a target starts (R46); a distance of 4 or less ends the move at once. -/
def Lift.moveTo (l : Lift) (c : Calibration) (target : Nat) : Lift :=
  let d := l.distance target
  if d ≤ 4 then l.stop
  else
    { l.stop with mode := .move target, duty := startDuty c d, up := decide (l.count < (target : Int)),
                  stallTimer := stallStart (startDuty c d), moveTimer := some 10000 }

/-- Start a move to a target (R46). -/
def startMove (target : Nat) (s : State) : State := setLift (s.transport.lift.moveTo s.cal target) s

/-- The lift axis as it starts to run at creep duty in a direction (R47, R49, R54). -/
def Lift.creep (l : Lift) (c : Calibration) (mode : LiftMode) (up : Bool) : Lift :=
  { l with mode := mode, duty := c.creepDuty, up := up, stallTimer := stallStart c.creepDuty, settleTimer := none }

/-- Stop the lift motor. -/
def stopLift (s : State) : State := setLift s.transport.lift.stop s

/-- Stop the lift and swing motors (R64). -/
def stopMotors (s : State) : State :=
  let s' := stopLift s
  { s' with transport := { s'.transport with swing := none, swingTimer := none } }

/-- Start homing (R49): step 1 where lift home is on, else step 2. -/
def startHoming (s : State) : State :=
  let l := s.transport.lift.stop
  if s.sensor .liftHome then
    setPhase .homeUp (setLift { l.creep s.cal .homeUp true with travel := 0 } s)
  else
    setPhase .homeDown (setLift { l.creep s.cal .homeDown false with travel := 0, homeTimer := some 60000 } s)

/-- A gripper command begins (R51); a RELEASE ends the carrying (R52). -/
def startGripper (c : GripCommand) (s : State) : State :=
  { s with transport := { s.transport with
      gripper := some c, gripTimer := some 150
      carrying := match c with | .grip => s.transport.carrying | .release => false } }

/-! ### Trays for the transport (R75, R76) -/

/-- The transport asks for TRAY_OPEN (R75). -/
def askTrayOpen (b : BayNo) (p : Purpose) (s : State) : State :=
  let r := s.bay b
  if r.tray = .open ∧ s.hasReq b .trayClose = false then
    if r.state = .absent then s else setBayState b .open s
  else
    let p' := if r.state = .absent then Purpose.absent else p
    let s' := sendReq b .trayOpen p' .trayOpen s
    if r.state = .absent then s' else setBayState b .opening s'

/-- The transport asks for TRAY_CLOSE (R76). -/
def askTrayClose (b : BayNo) (s : State) : State :=
  match (s.bay b).state with
  | .open => setBayState b .closing (sendReq b .trayClose .normal .trayClose s)
  | .opening => s.setBay b { s.bay b with heldClose := true }
  | _ => s

/-- A bay's reservation is released (R15, R16, R17): the docket ceases to be the bay's; a bay whose tray was not asked for
returns to IDLE, and of one whose tray was, TRAY_CLOSE is asked. A bay being reset is left to its reset. A bay that was reset during a
RELEASE and is HOLDING when that RELEASE faults stays HOLDING with no docket (DESIGN CHOICE, row 59). -/
def releaseBay (b : BayNo) (s : State) : State :=
  let s' := s.setBay b { s.bay b with docket := none }
  match (s.bay b).state with
  | .reserved => enterIdle b s'
  | .opening => askTrayClose b s'
  | .open => askTrayClose b s'
  | _ => s'

/-! ### Legs -/

/-- The station of a leg of the work in hand. -/
def Errand.station (e : Errand) : Leg → Option Station
  | .pick => e.source
  | .place => some e.dest

/-- A leg begins: the lift moves to its station (R53 step 1). -/
def beginLeg (leg : Leg) (s : State) : State :=
  match s.transport.errand with
  | none => s
  | some e =>
    match e.station leg with
    | none => s
    | some st => startMove (s.position st) (setPhase (.lift leg) s)

/-- The work in hand ends and the arm becomes free; a transport in SWEEPING goes on with the sweep (R59, R63, R67). A homing under
way, which a resume runs before the work goes on, runs to its end without it (R49, R66). Where a task is abandoned or a sweep move given up while
the lift or the swing is under way, both motors stop at once, with no settle: R62 and R67 say only that the arm becomes free (DESIGN CHOICE, row 77). -/
def endErrand (s : State) : State :=
  if s.transport.state = .homing then setErrand none s
  else
    let s1 := setPhase .none (setErrand none (stopMotors s))
    let s' := { s1 with transport := { s1.transport with gripper := none, gripTimer := none, placeTimer := none } }
    if s.transport.state = .busy then setTransport .free s' else s'

/-- The task in flight, with the destination it has now (R59, R62). -/
def State.taskInFlight (s : State) : Option Task :=
  match s.transport.errand with
  | some { work := .task t, dest := d, .. } => some { t with dest := d }
  | _ => none

/-- The bay a task has as its source or destination (R64). -/
def Task.bay (t : Task) : Option BayNo :=
  match t.source, t.dest with
  | .bay b, _ => some b
  | _, .bay b => some b
  | _, _ => none

/-- The transport halts on a fault that names a bay and a docket (R64): motors stop, the transport enters HALTED, the fault is
reported, the HALTED cause is set, and a RUNNING tower enters HALTED. A task whose docket is gone ends here. -/
def haltTransport (code : FaultCode) (bay : Option BayNo) (docket : Option DocketNo) (s : State) : State :=
  let s1 := setPhase .none (stopMotors s)
  let s2 := match s1.transport.errand with
    | some { work := .ended, .. } => setErrand none s1
    | _ => s1
  let s3 := { s2 with transport := { s2.transport with gripper := none, gripTimer := none, placeTimer := none } }
  let s4 := reportFault code bay docket s3
  let s5 := raiseAttention .halted (setTransport .halted s4)
  if s.tower.state = .running then setTower .halted s5 else s5

/-- The bay that an errand has as its source or destination. -/
def Errand.bay (e : Errand) : Option BayNo :=
  match e.source, e.dest with
  | some (.bay b), _ => some b
  | _, .bay b => some b
  | _, _ => none

/-- The bay a transport fault names (R64): that of the task in flight. A task whose docket is gone is in flight until the lift arrives
(R54), and its bay is named with no docket. A sweep move is no task, and no bay is named for it (row 12). -/
def State.faultBay (s : State) : Option BayNo :=
  match s.transport.errand with
  | some { work := .ended, source := src, dest := dst, held := h, misses := m } =>
    Errand.bay { work := .ended, source := src, dest := dst, held := h, misses := m }
  | _ => s.taskInFlight.bind Task.bay

/-- A transport fault (R64) names the bay and the docket of the task in flight. -/
def transportFault (code : FaultCode) (s : State) : State :=
  haltTransport code s.faultBay (s.taskInFlight.map (·.docket)) s

/-! ### The transport queue (R59, R62) -/

/-- Insert a task by its age. -/
def insertTask (t : Task) : List Task → List Task
  | [] => [t]
  | u :: l => if t.age < u.age then t :: u :: l else u :: insertTask t l

/-- Write the transport queue. -/
def setQueue (q : List Task) (s : State) : State := { s with transport := { s.transport with queue := q } }

/-- Queue a task (R59). The task a docket already has stands for the new one, with the new destination. -/
def queueTask (d : DocketNo) (kind : TaskKind) (source dest : Station) (s : State) : State :=
  if s.transport.queue.any fun t => t.docket == d then
    setQueue (s.transport.queue.map fun t => if t.docket = d then { t with dest := dest } else t) s
  else if (s.taskInFlight.map (·.docket)) = some d then
    setErrand (s.transport.errand.map fun e => { e with dest := dest }) s
  else
    { s with transport := { s.transport with
        queue := s.transport.queue ++ [{ docket := d, kind := kind, source := source, dest := dest, age := s.transport.nextAge }]
        nextAge := s.transport.nextAge + 1 } }

/-- A docket's task leaves the queue (R59). -/
def unqueueTask (d : DocketNo) (s : State) : State := setQueue (s.transport.queue.filter fun t => t.docket != d) s

/-- A queued task of a docket whose verdict becomes REJECT goes to the reject bin (R10, R62). -/
def rejectQueued (d : DocketNo) (s : State) : State :=
  setQueue (s.transport.queue.map fun t =>
    if t.docket = d ∧ (t.dest = .printer ∨ t.dest = .output .good) then { t with dest := .output .reject } else t) s

/-- The task in flight is abandoned and returned to the queue with the reject bin as destination; the arm becomes free
(R62, R65). -/
def returnTask (s : State) : State :=
  match s.transport.errand with
  | some { work := .task t, .. } =>
    endErrand (setQueue (insertTask { t with dest := .output .reject } s.transport.queue) s)
  | _ => s

/-- The lift leaves for the station position with the gripper open, after which the task ends (R54). A gripper that an earlier DROP or a missed
grip of the sweep left closed is not opened for it: the spec gives no step that opens it (DESIGN CHOICE, row 66). -/
def returnToEnd (s : State) : State :=
  match s.transport.errand with
  | some e =>
    match e.source with
    | some st => startMove (s.position st) (setPhase .returnEnd (setErrand (some { e with work := .ended }) (stopLift s)))
    | none => endErrand s
  | none => s

end Sys2Proof.Machine
end

