-- ==== Sys2Proof/Machine/Dockets.lean ====
section
/-! DEFINITION. What befalls a docket: creation, causes and HALT, landing and loss, dissolving and rerouting (Chapter 1), and what
the job table does in the same events (Chapter 2). -/

namespace Sys2Proof.Machine

/-! ### Creation (R1, R2) -/

/-- The free docket of lowest number (R1). -/
def State.freeDocket (s : State) : Option DocketNo := Config.allDockets.find? fun d => (s.docket d).isNone

/-- The values of a docket at creation (R2). -/
def newDocket (j : SlotNo) (job : Job) (bin : InputBin) (b logical : BayNo) : Docket :=
  { slot := j, ticket := job.ticket, ordinal := none, inputBin := bin, bay := b, logical := logical, place := none
    state := .reserved, verdict := none, cause := .none, groupsWritten := 0, links := 0, rereads := 0
    print := if job.bandCount = 0 then none else some { fired := 0, crowded := 0, dropped := 0, clipped := 0, slips := 0 }
    picked := none, burnStart := none, burnEnd := none, verdictTime := none, landed := none, outputBin := none }

/-! ### Causes (R7, R9, R82) -/

/-- A cause given to a docket whose cause is NONE is recorded, the verdict becomes REJECT and the verdict time is set; a later
cause is not taken (R9). -/
def Docket.giveCause (r : Docket) (c : Cause) (now : Nat) : Docket :=
  if r.cause = .none then { r with cause := c, verdict := some .reject, verdictTime := some now } else r

/-- HALT is sent to a drive, withdrawing the burn requests and setting the credits to 0 (R82). -/
def sendHalt (b : BayNo) (s : State) : State :=
  if s.hasReq b .halt ∨ (s.bay b).driveStopped then s
  else
    let s' := withdrawBurn b s
    sendReq b .halt .normal .halt (s'.setBay b { s'.bay b with credits := 0 })

/-- What a cause does to the channel and the drive of a disc in its bay: a burn channel aborts and its drive is halted where
`halt` says so, a verify channel stops (R7, R106, R132). -/
def stopWork (halt : Bool) (r : Docket) (s : State) : State :=
  match r.state with
  | .burning => if halt then sendHalt r.bay (abortBurn r.bay s) else abortBurn r.bay s
  | .finalizing => if halt then sendHalt r.bay (abortBurn r.bay s) else abortBurn r.bay s
  | .verifying => stopVerify r.bay s
  | _ => s

/-- A block gives a cause to a docket (R9). A queued task bound for the printer or the good bin is redirected (R10). `halt` is
false where a bay reset follows in the event, and where the drive has already stopped. -/
def giveCause (halt : Bool) (d : DocketNo) (c : Cause) (s : State) : State :=
  match s.docket d with
  | none => s
  | some r =>
    let s' := s.setDocket d (some (r.giveCause c s.tower.time))
    if r.cause = .none then stopWork halt r (rejectQueued d s') else s'

/-- The verdict GOOD (R6, R130). -/
def giveGood (d : DocketNo) (s : State) : State :=
  s.updDocket d fun r => { r with verdict := some .good, verdictTime := some s.tower.time }

/-- A docket enters a state. -/
def setDocketState (d : DocketNo) (st : DocketState) (s : State) : State := s.updDocket d fun r => { r with state := st }

/-- Where a GOOD disc goes from its bay (R6, R10). -/
def State.goodDest (s : State) (d : DocketNo) : Station :=
  match s.jobOf d with
  | some j => if j.bandCount = 0 then .output .good else .printer
  | none => .output .good

/-! ### The end of a job (R27, R28) -/

/-- The outcome a job's card is written with. -/
def JobOutcome.card : JobOutcome → CardOutcome
  | .done => .done
  | .failed => .failed
  | .cancelled => .cancelled

/-- The final card write of an ENDED job and the freeing of its slot (R28). -/
def State.finalWrite (s : State) (j : SlotNo) : Thread :=
  match s.job j with
  | some job =>
    finishCard s.boardAddr job.cardIndex ((job.outcome.map JobOutcome.card).getD .absent) job.failCause job.good job.reject
      ++ [.freeSlot j]
  | none => []

/-- A job enters ENDED: with no scan under way its final write is begun at once, otherwise the slot waits for the end of the
scan (R28). -/
def endJob (j : SlotNo) (s : State) : State :=
  let s' := s.updJob j fun job => { job with state := .ended }
  match s'.board.scan with
  | none => startThread (s'.finalWrite j) s'
  | some _ => s'

/-- A STOPPING job with no docket in flight ends (R27). -/
def endIfStopped (j : SlotNo) (s : State) : State :=
  match s.job j with
  | some job => if job.state = .stopping ∧ job.inFlight = 0 then endJob j s else s
  | none => s

/-! ### Landing and loss (R13, R15) -/

/-- A docket enters LANDED (R13): what follows is taken in order, waiting for room where it must. -/
def land (d : DocketNo) (place : Option Place) (bin : Option OutputBin) (s : State) : State :=
  match s.docket d with
  | none => s
  | some r =>
    let r' := { r with state := .landed, place := place, outputBin := bin, landed := some s.tower.time }
    let addr := match s.job r.slot with
      | some j => j.reportArea + 64 * (r.ordinal.getD 0 - 1)
      | none => 0
    startThread
      [.write { addr := addr, data := .bytes r'.report, docket := some d }, .counted d, .progress r.slot,
       .decide r.slot, .freeDocket d]
      (s.setDocket d (some r'))

/-- The counts of a landing (R22). -/
def Job.countLanding (j : Job) (good : Bool) : Job :=
  if good then { j with inFlight := j.inFlight - 1, good := j.good + 1 }
  else { j with inFlight := j.inFlight - 1, reject := j.reject + 1 }

/-- A disc is lost (R15): cause DROPPED in the transport's cases, its task and reservation end, and its docket lands LOST at
the place it was last held. -/
def loseDisc (dropped : Bool) (d : DocketNo) (place : Place) (s : State) : State :=
  match s.docket d with
  | none => s
  | some r =>
    let s1 := if dropped then giveCause false d .dropped s else s
    let s2 := unqueueTask d s1
    let s3 := if (s2.taskInFlight.map (·.docket)) = some d then endErrand s2 else s2
    let s4 :=
      if (s3.bay r.bay).docket = some d then
        if r.state = .inbound then releaseBay r.bay s3
        else s3.setBay r.bay { s3.bay r.bay with docket := none }
      else s3
    let s5 := if s4.printer.docket = some d then { s4 with printer := { s4.printer with docket := none } } else s4
    land d (some place) none s5

/-! ### Dissolving (R16, R26, R54) -/

/-- What the transport does when the docket of a LOAD in flight is dissolved before a grip has held (R54, R65). The return after a first
miss comes after the beginning of the descent, so the duty goes to 0 and the lift returns afresh. -/
def stopPick (s : State) : State :=
  if s.transport.state = .busy then
    match s.transport.phase with
    | .descend => returnToEnd s
    | .grip => setPhase .orphanGrip (setErrand (s.transport.errand.map fun e => { e with work := .ended }) s)
    | .openMiss => setErrand (s.transport.errand.map fun e => { e with work := .ended }) s
    | .returnRetry => returnToEnd s
    | _ => endErrand s
  else setErrand none s

/-- The docket is freed and the job told of the dissolve (R16, R26); the freeing is an event for the dispatcher. -/
def forgetDissolved (d : DocketNo) (j : SlotNo) (s : State) : State :=
  endIfStopped j
    (triggerRound ((s.setDocket d none).updJob j fun job => { job with inFlight := job.inFlight - 1 }))

/-- A RESERVED docket is dissolved (R16). -/
def dissolve (d : DocketNo) (s : State) : State :=
  match s.docket d with
  | none => s
  | some r =>
    let s1 := unqueueTask d s
    let s2 := if (s1.taskInFlight.map (·.docket)) = some d then stopPick s1 else s1
    let s3 := if (s2.bay r.bay).docket = some d then releaseBay r.bay s2 else s2
    forgetDissolved d r.slot s3

/-! ### Rerouting an INBOUND docket (R17, R18, R62) -/

/-- The place leg in hand is replaced by a leg to the reject bin (R62). A lift under way starts the new move at once, at the start
duty and with fresh timers: the spec does not say whether it first stops or settles (DESIGN CHOICE, row 48). A lift that is still raising the
disc out of the input bin finishes the raise and then begins the move to the reject bin (row 48). -/
def redirectArm (s : State) : State :=
  let s' := setErrand (s.transport.errand.map fun e => { e with dest := .output .reject }) s
  if s.transport.state = .busy then
    match s.transport.phase with
    | .lift .place => beginLeg .place s'
    | .turn .place => beginLeg .place (stopMotors s')
    | .ready .place => beginLeg .place s'
    | _ => s'
  else s'

/-- An INBOUND docket is given a cause and rerouted to the reject bin. A release that has begun at the bay runs to its end
first: the docket keeps its state and its bay (R62). -/
def reroute (d : DocketNo) (c : Cause) (s : State) : State :=
  let s1 := giveCause false d c s
  if s.transport.phase = .release ∧ s.transport.state = .busy then s1
  else
    match s1.docket d with
    | none => s1
    | some r =>
      let s2 := setDocketState d .rejectOutbound s1
      let s3 := if (s2.taskInFlight.map (·.docket)) = some d then redirectArm s2 else s2
      if (s3.bay r.bay).docket = some d then releaseBay r.bay s3 else s3

/-! ### The stopping of a job (R17, R30 to R34) -/

/-- The treatment of one docket of a stopping job, by its state (table of R17). -/
def stopDocket (c : Cause) (d : DocketNo) (s : State) : State :=
  match s.docket d with
  | none => s
  | some r =>
    match r.state with
    | .reserved => dissolve d s
    | .inbound => reroute d c s
    | .seated => giveCause true d c s
    | .burning => giveCause true d c s
    | .finalizing => giveCause true d c s
    | .verifying => giveCause true d c s
    | _ => s

/-- The dockets of a job in use, in increasing number. R17 and R33 have one stop treat all of them in one event and do not order them;
the model goes by docket number, which decides, say, which of two failing bays released by it retires first (DESIGN CHOICE, row 58). -/
def State.docketsOf (s : State) (j : SlotNo) : List DocketNo :=
  Config.allDockets.filter fun d => (s.docket d).map (·.slot) == some j

/-- An ACTIVE job goes to STOPPING with its outcome and fail cause; its dockets are treated, and it ends at once where none is
in flight (R17, R27, R30 to R32). A job that is already stopping keeps what it has (R34). -/
def stopJob (j : SlotNo) (outcome : JobOutcome) (fail : Cause) (given : Cause) (s : State) : State :=
  match s.job j with
  | none => s
  | some job =>
    if job.state = .active then
      let s1 := s.setJob j (some { job with state := .stopping, outcome := some outcome, failCause := fail })
      let s2 := (s1.docketsOf j).foldl (fun u d => stopDocket given d u) s1
      match s2.job j with
      | some j2 => if j2.state = .stopping ∧ j2.inFlight = 0 then endJob j s2 else s2
      | none => s2
    else s

/-- A job fault reported from a docket (R30): the docket takes the cause first, then an ACTIVE job fails. -/
def failJob (d : DocketNo) (c : Cause) (s : State) : State :=
  match s.docket d with
  | none => s
  | some r => stopJob r.slot .failed c .jobFailed (giveCause true d c s)

/-- The budget and completion tests of a landing (R25 steps 3 and 4). -/
def decideLanding (j : SlotNo) (s : State) : State :=
  match s.job j with
  | none => s
  | some job =>
    if job.state = .active ∧ job.maxRejects < job.reject then stopJob j .failed .jobFailed .jobFailed s
    else if job.state = .active ∧ job.good = job.copies ∧ job.inFlight = 0 then
      endJob j (s.setJob j (some { job with outcome := some .done, failCause := .none }))
    else endIfStopped j s

/-! ### The reject hand-off (R8) -/

/-- A docket enters REJECT_WAIT with place BAY, its burn end time set if it was burning, and its UNLOAD to the reject bin is
queued (R8, R18). -/
def toRejectWait (d : DocketNo) (s : State) : State :=
  match s.docket d with
  | none => s
  | some r =>
    let burning := r.state = .burning ∨ r.state = .finalizing
    let r' := { r with state := .rejectWait, place := some .bay
                       burnEnd := if burning ∧ r.burnEnd = none then some s.tower.time else r.burnEnd }
    queueTask d .unload (.bay r.bay) (.output .reject) (s.setDocket d (some r'))

/-- The docket of a bay waits for the reject hand-off: SEATED to VERIFYING with verdict REJECT, with no request outstanding,
in a bay that is not being reset (R8). -/
def State.handOffDue (s : State) (b : BayNo) : Option DocketNo :=
  match (s.bay b).docket with
  | none => none
  | some d =>
    match s.docket d with
    | none => none
    | some r =>
      let inBay := r.state = .seated ∨ r.state = .burning ∨ r.state = .finalizing ∨ r.state = .verifying
      let st := (s.bay b).state
      let working := st = .closing ∨ st = .probing ∨ st = .burning ∨ st = .finalizing ∨ st = .verifying
      if inBay ∧ working ∧ r.verdict = some .reject ∧ (s.bay b).reqs = [] then some d else none

/-- The reject hand-off: the channel is discarded, the docket enters REJECT_WAIT, and the bay HOLDING (R8, R82). -/
def handOff (b : BayNo) (d : DocketNo) (s : State) : State :=
  let s1 := discardChannel b s
  let s2 := s1.setBay b { s1.bay b with withdrawn := [], driveStopped := false }
  setBayState b .holding (toRejectWait d s2)

end Sys2Proof.Machine
end

