-- ==== Sys2Proof/Machine/Bays.lean ====
section
/-! DEFINITION. The bay controllers: bay reset, the drive's messages and the request timeouts (Chapter 4, with the parts of Chapters
6 and 7 that a message brings about). -/

namespace Sys2Proof.Machine

/-! ### Bay reset (R84, R18, R62) -/

/-- The transport's part in a bay reset (R62, R65, R67): an UNLOAD whose grip has not held returns to the queue; a sweep move
whose grip has not held is given up with the stranded mark set. -/
def resetErrand (b : BayNo) (s : State) : State :=
  match s.transport.errand with
  | none => s
  | some e =>
    if e.source = some (.bay b) ∧ e.held = false then
      match e.work with
      | .task _ => returnTask s
      | .sweep => endErrand (s.setBay b { s.bay b with stranded := true })
      | .ended => s
    else s

/-- The docket of a bay at the start of its reset (R18). -/
def resetDocket (b : BayNo) (s : State) : State :=
  match (s.bay b).docket with
  | none => s
  | some d =>
    match s.docket d with
    | none => s
    | some r =>
      match r.state with
      | .reserved => dissolve d s
      | .inbound => reroute d .bayReset s
      | _ => giveCause false d .bayReset s

/-- A bay record at the start of a reset: no requests, no held close, no credits, tray unknown (R84 steps 1 and 3). -/
def Bay.beginReset (r : Bay) : Bay :=
  { r with reqs := [], heldClose := false, credits := 0, tray := .unknown, withdrawn := [], driveStopped := false,
           sweepProbe := none }

/-- A bay reset begins (R84), unless the bay is RETIRED or already RESETTING. -/
def startReset (b : BayNo) (s : State) : State :=
  if (s.bay b).state = .retired ∨ (s.bay b).state = .resetting then s
  else
    let s1 := s.setBay b (s.bay b).beginReset
    let s2 := setBayState b .resetting (sendReq b .reset .normal .reset s1)
    resetDocket b (resetErrand b (discardChannel b s2))

/-! ### Discovery (R72, R73) -/

/-- IDENTIFY is sent and the bay enters DISCOVERING. -/
def discover (p : Purpose) (b : BayNo) (s : State) : State :=
  let s1 := sendReq b .identify p .identify s
  setBayState b .discovering (s1.setBay b { s1.bay b with identified := true })

/-- The drive record of an IDENTITY, with the clamps of R73. -/
def clampDrive (classes : DriveClasses) (maxSpeed maxCredits : Nat) (linkCapable : Bool) : Drive :=
  { classes := classes, maxSpeed := min 16 (max 1 maxSpeed), maxCredits := min 8 (max 1 maxCredits), linkCapable := linkCapable }

/-- The bay leaves DISCOVERING for the first state of R73 that applies; `takingOver` says that the IDENTIFY was sent for a spare takeover. A bay
designated again before the IDENTITY of its takeover is excepted from SPARE there, as R73 says, and stays designated (DEDUCED, row 49). -/
def leaveDiscovering (takingOver : Bool) (b : BayNo) (s : State) : State :=
  let r := s.bay b
  if r.docket.isSome then setBayState b .holding s
  else if r.stranded then setBayState b .probing (sendReq b .probe .completion .probe s)
  else if s.health.spare = some b ∧ takingOver = false then enterSpare b s
  else enterIdle b s

/-- IDENTITY (R73). -/
def onIdentity (b : BayNo) (drive : Drive) (s : State) : State :=
  if s.hasReq b .identify then
    let s1 := dropReq b .identify s
    let s2 := s1.setBay b { s1.bay b with drive := some drive }
    if (s.bay b).state = .discovering then leaveDiscovering (s.bay b).takingOver b s2 else s2
  else discardMsg b s

/-! ### Trays (R75, R76, R86) -/

/-- The docket of a bay, where its disc is in the bay. -/
def State.discInBay (s : State) (b : BayNo) : Option DocketNo :=
  match (s.bay b).docket with
  | some d => if (s.docket d).bind (·.place) = some .bay then some d else none
  | none => none

/-- TRAY_DONE open (R75, R86). -/
def onTrayOpen (b : BayNo) (s : State) : State :=
  if s.hasReq b .trayOpen then
    let s1 := dropReq b .trayOpen s
    let s2 := s1.setBay b { s1.bay b with tray := .open }
    match (s.bay b).state with
    | .opening =>
      let s3 := setBayState b .open s2
      if (s.bay b).heldClose then askTrayClose b (s3.setBay b { s3.bay b with heldClose := false }) else s3
    | .absent =>
      match s.discInBay b with
      | some d => toRejectWait d s2
      | none => s2
    | _ => s2
  else discardMsg b s

/-- The state a bay with no docket leaves CLOSING for (R76): SPARE where it is designated, else IDLE; RETIRED in place of either
where it is failing (R74, R138). So also after a move of the sweep: where the designation ended during the move, R179 names the state before
the move, SPARE, and R76 goes by the designation, as here (DESIGN CHOICE, row 75). -/
def bayEmptied (b : BayNo) (s : State) : State :=
  if s.health.spare = some b then enterSpare b s else enterIdle b s

/-- TRAY_DONE closed (R76). A SEATED docket with verdict REJECT is left to the reject hand-off, which nothing outstanding now
delays. -/
def onTrayClosed (b : BayNo) (s : State) : State :=
  if s.hasReq b .trayClose then
    let s1 := dropReq b .trayClose s
    let s2 := s1.setBay b { s1.bay b with tray := .closed }
    if (s.bay b).state = .closing then
      match (s.bay b).docket with
      | none => bayEmptied b s2
      | some d =>
        match s.docket d with
        | none => bayEmptied b s2
        | some r =>
          match r.state, r.verdict with
          | .seated, none => setBayState b .probing (sendReq b .probe .normal .probe s2)
          | .seated, some _ => s2
          | _, _ => setBayState b .holding s2
    else s2
  else discardMsg b s

/-! ### Probe and the start of a burn (R5, R78, R79, R85, R178) -/

/-- The drive record's value of a class. -/
def hasClass (d : DriveClasses) : MediaClass → Bool
  | .cd => d.cd
  | .dvd => d.dvd
  | .bd => d.bd

/-- A drive's max speed, max credits and link capability; a bay that burns has been identified. -/
def Bay.driveOr (r : Bay) : Drive :=
  r.drive.getD { classes := { cd := false, dvd := false, bd := false }, maxSpeed := 1, maxCredits := 1, linkCapable := false }

/-- A link is permitted at BURN_OPEN (R79). -/
def linkPermitted (j : Job) (d : Drive) : Bool :=
  match j.starvation with
  | .link _ => d.linkCapable
  | .abandon => false

/-- A burn channel as it opens (R105). -/
def newBurn (d : DocketNo) (j : Job) (link : Bool) : Burn :=
  { state := .opening, docket := d, groups := j.groups, cutGroup := 0, cutBytes := 0, complete := 0, send := 0
    extIndex := 0, extOffset := 0, cur := none, nxt := none, extReads := [], extAsk := 0, compares := [], held := []
    pages := [], linkPermitted := link }

/-- BURN_OPEN is sent (R79): speed and link permission, credits 0, burn start, the channel, and BURNING. -/
def openBurn (b : BayNo) (d : DocketNo) (j : Job) (s : State) : State :=
  let drive := (s.bay b).driveOr
  let link := linkPermitted j drive
  let s1 := sendReq b .burnOpen .normal (.burnOpen j.totalSectors (min j.speed drive.maxSpeed) link) s
  let s2 := s1.setBay b { s1.bay b with
    credits := 0, withdrawn := [], driveStopped := false, channel := .burn (newBurn d j link) }
  let s3 := s2.updDocket d fun r => { r with state := .burning, burnStart := some s.tower.time }
  setBayState b .burning s3

/-- MEDIA for a SEATED docket (R5, R78). -/
def mediaSeated (b : BayNo) (d : DocketNo) (r : Docket) (kind : MediaKind) (cls : MediaClass) (capacity : Nat)
    (s : State) : State :=
  match kind with
  | .blank =>
    match s.job r.slot with
    | none => s
    | some j =>
      if cls = j.mediaClass then
        if j.totalSectors ≤ capacity then (if r.verdict = none then openBurn b d j s else s)
        else failJob d .tooLarge s
      else giveCause true d .mediaUnsuitable s
  | .written => hardUp b (giveCause true d .mediaUnsuitable s)
  | .unsuitable => hardUp b (giveCause true d .mediaUnsuitable s)
  | .none => reportFault .noMedia (some b) (some d) (hardUp b (giveCause true d .mediaUnsuitable s))

/-- The bay of a sweep probe goes on the sweep's list (R178). -/
def listForSweep (b : BayNo) (s : State) : State :=
  if s.transport.sweepList.contains b then s
  else
    { s with transport := { s.transport with
        sweepList := Config.allBays.filter fun x => x == b || s.transport.sweepList.contains x } }

/-- The state a bay returns to after a sweep probe: the one it left (R178). -/
def endSweepProbe (b : BayNo) (s : State) : State :=
  let s1 := s.setBay b { s.bay b with sweepProbe := none }
  if (s.bay b).sweepProbe = some .spare then enterSpare b s1 else enterIdle b s1

/-- MEDIA (R78, R85, R178). -/
def onMedia (b : BayNo) (kind : MediaKind) (cls : MediaClass) (capacity : Nat) (s : State) : State :=
  if s.hasReq b .probe then
    let s1 := dropReq b .probe s
    match (s.bay b).docket with
    | some d =>
      match s.docket d with
      | some r => if r.state = .seated then mediaSeated b d r kind cls capacity s1 else s1
      | none => s1
    | none =>
      match (s.bay b).sweepProbe with
      | some _ =>
        let s2 := endSweepProbe b s1
        if kind = .none then s2 else listForSweep b s2
      | none =>
        if (s.bay b).stranded then
          if kind = .none then enterIdle b (s1.setBay b { s1.bay b with stranded := false })
          else setBayState b .absent s1
        else s1
  else discardMsg b s

/-! ### Messages of a burn (R80 to R82, R119 to R121) -/

/-- The bay is BURNING or FINALIZING. -/
def Bay.inBurn (r : Bay) : Bool := r.state == .burning || r.state == .finalizing

/-- A first CREDIT takes the channel out of OPENING (R106). -/
def Burn.firstCredit (c : Burn) : Burn :=
  if c.state = .opening then { c with state := if c.complete = c.groups then .draining else .streaming } else c

/-- CREDIT (R80): it ends an outstanding BURN_OPEN and raises the count up to the drive's cap, counting what is dropped. -/
def onCredit (b : BayNo) (n : Nat) (s : State) : State :=
  if (s.bay b).inBurn then
    if s.hasReq b .halt then s
    else
      let s1 :=
        if s.hasReq b .burnOpen then
          let u := dropReq b .burnOpen s
          match u.burnOf b with
          | some c => setChannel b (.burn c.firstCredit) u
          | none => u
        else s
      let cap := (s.bay b).driveOr.maxCredits
      let total := (s.bay b).credits + n
      let s2 := s1.setBay b { s1.bay b with credits := max (s.bay b).credits (min cap total) }
      if cap < total then linkError b s2 else s2
  else discardMsg b s

/-- A docket's groups written rises by 1, holding at 65,535 (R3). -/
def groupWritten (d : DocketNo) (s : State) : State :=
  s.updDocket d fun r => { r with groupsWritten := countUp 65535 r.groupsWritten }

/-- WRITTEN for group G−1 in DRAINING: BURN_CLOSE, and FINALIZING (R119, R6). -/
def closeBurn (b : BayNo) (d : DocketNo) (c : Burn) (s : State) : State :=
  setBayState b .finalizing
    (setDocketState d .finalizing
      (setChannel b (.burn { c with state := .closing }) (sendReq b .burnClose .normal .burnClose s)))

/-- WRITTEN (R70, R80, R81, R119). While HALT is outstanding each withdrawn GROUP takes one WRITTEN; a second for the same group is discarded and
counted as a link error, of which R80 does not speak (DESIGN CHOICE, row 67). -/
def onWritten (b : BayNo) (g : Nat) (s : State) : State :=
  match (s.bay b).docket with
  | none => discardMsg b s
  | some d =>
    if s.hasReq b .halt ∧ (s.bay b).inBurn then
      if (s.bay b).withdrawn.contains g then
        groupWritten d (s.setBay b { s.bay b with withdrawn := (s.bay b).withdrawn.erase g })
      else discardMsg b s
    else if (s.bay b).oldestGroup = some g then
      let s1 := groupWritten d (dropReq b (.group g) s)
      match s.burnOf b with
      | some c => if c.state = .draining ∧ g + 1 = c.groups then closeBurn b d c s1 else s1
      | none => s1
    else discardMsg b s

/-- The cause a STARVED linked gives, if any (table of R120). `links` is the count after the rise, before any holding. -/
def linkCause (permitted : Bool) (limit : Option Nat) (links : Nat) : Option Cause :=
  if permitted then (match limit with | some l => if l < links then some .linkLimit else none | none => none)
  else some .underrun

/-- The link limit of a job's starvation policy. -/
def Starvation.limit : Starvation → Option Nat
  | .link l => some l
  | .abandon => none

/-- STARVED linked (R120). -/
def onStarvedLinked (b : BayNo) (s : State) : State :=
  if s.hasReq b .halt ∧ (s.bay b).inBurn then s
  else if (s.bay b).state = .burning then
    match (s.bay b).docket, s.burnOf b with
    | some d, some c =>
      match s.docket d with
      | some r =>
        let s1 := s.setDocket d (some { r with links := countUp 255 r.links })
        match linkCause c.linkPermitted ((s.jobOf d).bind fun j => j.starvation.limit) (r.links + 1) with
        | some cause => giveCause true d cause s1
        | none => s1
      | none => s
    | _, _ => s
  else discardMsg b s

/-- STARVED failed (R121, R82): the drive has stopped, the burn requests are withdrawn, and no HALT is sent. -/
def onStarvedFailed (b : BayNo) (s : State) : State :=
  if s.hasReq b .halt ∧ (s.bay b).inBurn then s
  else if (s.bay b).state = .burning then
    match (s.bay b).docket with
    | some d =>
      let s1 := withdrawBurn b (giveCause false d .underrun s)
      s1.setBay b { s1.bay b with driveStopped := true }
    | none => s
  else discardMsg b s

/-- A verify channel as it opens (R124), its first signature block asked for. -/
def newVerify (d : DocketNo) (j : Job) : Verify :=
  { state := .reading, docket := d, groups := j.groups, check := 0, marks := [], block := none
    blockRead := some (0, Reading.start j.signatureTable (4 * min 64 j.groups)), pages := [] }

/-- The verdict GOOD in the bay: GOOD_WAIT, HOLDING, and the UNLOAD task (R6, R130). -/
def goodInBay (b : BayNo) (d : DocketNo) (s : State) : State :=
  let s1 := setDocketState d .goodWait (giveGood d s)
  queueTask d .unload (.bay b) (s1.goodDest d) (setBayState b .holding s1)

/-- CLOSED (R81, R6, R119, R124, R135). -/
def onClosed (b : BayNo) (s : State) : State :=
  if s.hasReq b .halt ∧ (s.bay b).inBurn then s
  else if s.hasReq b .burnClose then
    let s1 := dropReq b .burnClose s
    let s2 := dropChannel b (s1.setBay b { s1.bay b with credits := 0 })
    match (s.bay b).docket with
    | none => s2
    | some d =>
      let s3 := s2.updDocket d fun r => { r with burnEnd := some s.tower.time }
      match s.jobOf d with
      | none => s3
      | some j =>
        if j.verify then
          setBayState b .verifying (setDocketState d .verifying (setChannel b (.verify (newVerify d j)) s3))
        else goodInBay b d s3
  else discardMsg b s

/-- HALTED answers HALT; the reject hand-off follows when nothing else is outstanding (R82, R8). -/
def onHalted (b : BayNo) (s : State) : State :=
  if s.hasReq b .halt then dropReq b .halt s else discardMsg b s

/-! ### Messages of a read-back (R126, R129) -/

/-- The bytes of group `g` of an image of `sectors` sectors: 2,048 for each of up to 16 sectors (R109, R111). -/
def groupBytes (sectors g : Nat) : Nat := 2048 * min 16 (sectors - 16 * g)

/-- The pages of a list without that of group `g`. -/
def dropPage (g : Nat) (l : List Page) : List Page := l.filter fun p => p.group != g

/-- The page of group `g` becomes FULL with its data. -/
def fillPage (g : Nat) (data : List Byte) (l : List Page) : List Page :=
  l.map fun p => if p.group = g then { p with full := true, got := [(0, data)] } else p

/-- The length READ_DATA must have for the disc in the bay (R68); none where the bay holds no docket, so that the size of the group cannot
be told. -/
def State.readLength (s : State) (b : BayNo) (g : Nat) : Option Nat :=
  ((s.bay b).docket.bind s.jobOf).map fun j => groupBytes j.totalSectors g

/-- READ_DATA (R126). In a bay with no docket the frame is taken as one that passes its check and answers nothing (R70), not as a failed
frame (R68): the spec does not say which (DESIGN CHOICE, row 50). -/
def onReadData (b : BayNo) (g : Nat) (data : List Byte) (s : State) : State :=
  match s.readLength b g with
  | none => discardMsg b s
  | some n =>
    if data.length ≠ n then linkError b s
    else if s.hasReq b (.read g) then
      let s1 := dropReq b (.read g) s
      match s.verifyOf b with
      | some c =>
        match c.state with
        | .reading => setChannel b (.verify { c with pages := fillPage g data c.pages }) s1
        | .stopped => setChannel b (.verify { c with pages := dropPage g c.pages }) s1
      | none => s1
    else discardMsg b s

/-- READ_FAIL (R129). -/
def onReadFail (b : BayNo) (g : Nat) (s : State) : State :=
  if s.hasReq b (.read g) then
    let s1 := dropReq b (.read g) s
    match s.verifyOf b with
    | some c =>
      let c1 := { c with pages := dropPage g c.pages }
      match c.state with
      | .stopped => setChannel b (.verify c1) s1
      | .reading =>
        if c.marks.contains g then hardUp b (giveCause true c.docket .verify (setChannel b (.verify c1) s1))
        else setChannel b (.verify { c1 with marks := g :: c1.marks }) s1
    | none => s1
  else discardMsg b s

/-! ### FAULT and RESET_DONE (R83, R85) -/

/-- FAULT by the bay's state (table of R83). -/
def onFault (b : BayNo) (s : State) : State :=
  let d := (s.bay b).docket
  match (s.bay b).state with
  | .resetting => s
  | .retired => s
  | .discovering => reportFault .driveFault (some b) d s
  | .spare => reportFault .driveFault (some b) d s
  | .absent => reportFault .driveFault (some b) d s
  | .burning =>
    if s.hasReq b .halt then reportFault .driveFault (some b) d s
    else reportFault .driveFault (some b) d (hardUp b (match d with | some n => giveCause true n .writeFault s | none => s))
  | .finalizing =>
    if s.hasReq b .halt then reportFault .driveFault (some b) d s
    else reportFault .driveFault (some b) d (hardUp b (match d with | some n => giveCause true n .writeFault s | none => s))
  | _ => startReset b (reportFault .driveFault (some b) d (hardUp b s))

/-- A disc that a reset leaves in its bay is taken out: TRAY_OPEN, REJECT_WAIT and the UNLOAD (R18, R85). -/
def openAfterReset (b : BayNo) (p : Purpose) (d : DocketNo) (s : State) : State :=
  toRejectWait d (sendReq b .trayOpen p .trayOpen s)

/-- RESET_DONE (R85). -/
def onResetDone (b : BayNo) (s : State) : State :=
  if s.hasReq b .reset then
    let s1 := discover .completion b (dropReq b .reset s)
    match s.discInBay b with
    | some d => openAfterReset b .completion d s1
    | none => s1
  else discardMsg b s

/-- An INBOUND disc is released into a tray (R5, R56): the docket is SEATED and TRAY_CLOSE is asked. In a bay whose reset began
during the release the docket is treated as one in place BAY (R62, R18). -/
def seatDocket (b : BayNo) (d : DocketNo) (s : State) : State :=
  let s1 := s.updDocket d fun r => { r with state := .seated, place := some .bay }
  match (s.bay b).state with
  | .open => askTrayClose b s1
  | .resetting => s1
  | .absent => sendReq b .trayOpen .absent .trayOpen s1
  | _ => openAfterReset b .completion d s1

/-! ### Request timeouts (R71, R77, R85, R86, R178) -/

/-- The bay enters ABSENT, but for a RETIRED bay. -/
def goAbsent (b : BayNo) (s : State) : State :=
  if (s.bay b).state = .retired then s else setBayState b .absent s

/-- A tray that will not open after a reset, while ABSENT, or for a sweep move: ABSENT and stranded, the docket lost (R77). -/
def strand (b : BayNo) (s : State) : State :=
  let s1 := goAbsent b s
  let s2 := s1.setBay b { s1.bay b with stranded := true, heldClose := false }
  match (s.bay b).docket with
  | some d => loseDisc false d .bay s2
  | none =>
    match s2.transport.errand with
    | some e => if e.work = .sweep ∧ e.source = some (.bay b) ∧ e.held = false then endErrand s2 else s2
    | none => s2

/-- The RESET has timed out (R86). -/
def resetFailed (b : BayNo) (s : State) : State :=
  let s1 := goAbsent b s
  if (s.discInBay b).isSome then sendReq b .trayOpen .absent .trayOpen s1 else s1

/-- Step 4 of R71, or what replaces it. -/
def afterTimeout (b : BayNo) (o : Outstanding) (s : State) : State :=
  match o.req, o.purpose with
  | .reset, _ => resetFailed b s
  | .trayOpen, .completion => strand b s
  | .trayOpen, .absent => strand b s
  | .trayOpen, .sweep => strand b s
  | .identify, .completion => goAbsent b s
  | .probe, .completion => goAbsent b s
  | .probe, .sweep =>
    let s1 := goAbsent b s
    s1.setBay b { s1.bay b with stranded := true, sweepProbe := none }
  | _, _ => startReset b s

/-- An outstanding request's timer expires (R71). -/
def onTimeout (b : BayNo) (q : Request) (s : State) : State :=
  match (s.bay b).reqs.find? fun o => o.req == q with
  | none => s
  | some o =>
    let d := (s.bay b).docket
    let s1 := hardUp b (reportFault .timeout (some b) d (dropReq b q s))
    let s2 := match d with
      | some n => giveCause false n .bayTimeout s1
      | none => s1
    afterTimeout b o s2

end Sys2Proof.Machine
end

