-- ==== Sys2Proof/Machine/Flags.lean ====
section
/-! DEFINITION. The two check computations the spec gives: the group CRC and the frame check. -/

namespace Sys2Proof.Machine

/-- One bit of the group CRC, least significant bit first; EDB88320 hexadecimal is the generator of R111 with its
coefficients in that order. -/
def crc32Bit (c : BitVec 32) : BitVec 32 :=
  if c.getLsbD 0 then (c >>> 1) ^^^ 0xEDB88320#32 else c >>> 1

/-- One byte of the group CRC. -/
def crc32Byte (c : BitVec 32) (b : Byte) : BitVec 32 :=
  crc32Bit (crc32Bit (crc32Bit (crc32Bit (crc32Bit (crc32Bit (crc32Bit (crc32Bit (c ^^^ b.zeroExtend 32))))))))

/-- The group CRC, the signature of a group (R111). -/
def crc32 (bytes : List Byte) : BitVec 32 := ~~~ (bytes.foldl crc32Byte 0xFFFFFFFF#32)

/-- One bit of the frame check, most significant bit first (R68). -/
def crc16Bit (c : BitVec 16) : BitVec 16 :=
  if c.getLsbD 15 then (c <<< 1) ^^^ 0x1021#16 else c <<< 1

/-- One byte of the frame check. -/
def crc16Byte (c : BitVec 16) (b : Byte) : BitVec 16 :=
  crc16Bit (crc16Bit (crc16Bit (crc16Bit (crc16Bit (crc16Bit (crc16Bit (crc16Bit
    (c ^^^ (b.zeroExtend 16 <<< 8)))))))))

/-- The frame check over the kind and content bytes of a frame (R68). The byte encoding of the messages is not given, so
a frame that fails reaches the model as BAD_FRAME. -/
def frameCheck (bytes : List Byte) : BitVec 16 := bytes.foldl crc16Byte 0xFFFF#16

end Sys2Proof.Machine
end

