-- ==== Sys2Proof/Machine/Burn.lean ====
section
/-! DEFINITION. The burn streamer (Chapter 6): what a burn channel does in the first event that allows it, and what arrives for it. -/

namespace Sys2Proof.Machine

/-- A channel that cuts, completes and asks: OPENING, STREAMING or DRAINING (R117). -/
def Burn.live (c : Burn) : Bool := c.state == .opening || c.state == .streaming || c.state == .draining

/-- The job a burn channel works for. -/
def State.burnJob (s : State) (b : BayNo) : Option (Burn × Job) :=
  match s.burnOf b with
  | some c => (s.jobOf c.docket).map fun j => (c, j)
  | none => none

/-! ### Completion (R112 to R114) -/

/-- The page of group `g`. -/
def pageOf (g : Nat) (l : List Page) : Option Page := l.find? fun p => p.group == g

/-- The next group to complete has every byte in its page, and the channel is not held back (R112): its CRC. -/
def Burn.completable (c : Burn) (j : Job) : Option (BitVec 32) :=
  if c.live && decide (c.complete < c.groups) && c.held.isEmpty && decide (c.compares.length < 8) then
    match pageOf c.complete c.pages with
    | some p =>
      if piecesLength p.got = groupBytes j.totalSectors c.complete then some (crc32 (piecesData p.got)) else none
    | none => none
  else none

/-- The channel after the group completes (R112 steps 1 and 3). The page becomes FULL here, as R109 and R112 have it; R89 makes it FULL when its
last data is placed, which comes earlier where the channel is held back (DESIGN CHOICE, row 68). -/
def Burn.completed (c : Burn) : Burn :=
  { c with
    pages := c.pages.map fun p => if p.group = c.complete then { p with full := true } else p
    complete := c.complete + 1
    state := if c.complete + 1 = c.groups ∧ c.state = .streaming then .draining else c.state }

/-- The signature action of a completed group (R113, R114). -/
def signatureAction (b : BayNo) (slot : SlotNo) (j : Job) (g : Nat) (crc : BitVec 32) (s : State) : State :=
  if g = j.frontier then recordSignature b j g crc (s.setJob slot (some { j with frontier := j.frontier + 1 }))
  else if j.openEntries.contains g then
    recordSignature b j g crc (s.setJob slot (some { j with openEntries := j.openEntries.filter (· != g) }))
  else
    match s.burnOf b with
    | some c => setChannel b (.burn { c with compares := c.compares ++ [{ group := g, crc := crc, phase := .listed }] }) s
    | none => s

/-- Complete the next group of a bay's channel, if it can be. -/
def completeGroup (b : BayNo) (s : State) : Option State :=
  match s.burnJob b with
  | none => none
  | some (c, j) =>
    match c.completable j, s.docket c.docket with
    | some crc, some d => some (signatureAction b d.slot j c.complete crc (setChannel b (.burn c.completed) s))
    | _, _ => none

/-! ### Sending (R118) -/

/-- The next group can be sent (R118). -/
def Burn.sendable (c : Burn) (r : Bay) : Bool :=
  (c.state == .streaming || c.state == .draining) && decide (c.send < c.complete) && decide (1 ≤ r.credits)
    && decide (r.groupsOut < 8) && (c.send + 1 != c.groups || (c.compares.isEmpty && c.held.isEmpty))

/-- Send the next group: the GROUP request, one credit less, the page released (R118). -/
def sendGroup (b : BayNo) (s : State) : Option State :=
  match s.burnOf b with
  | none => none
  | some c =>
    if c.sendable (s.bay b) then
      match pageOf c.send c.pages with
      | some p =>
        let data := piecesData p.got
        let s1 := enterReq b (.group c.send) .normal (.group c.send (data.length / 2048) data) s
        some (s1.setBay b { s1.bay b with
          credits := (s1.bay b).credits - 1
          channel := .burn { c with pages := dropPage c.send c.pages, send := c.send + 1 } })
      | none => none
    else none

/-! ### Extents (R107, R108) -/

/-- The bytes of an extent. -/
def Extent.bytes (e : Extent) : Nat := e.sectors * 2048

/-- The cursor stands at the end of the current extent and the next record is held: it becomes the current record (R108). -/
def advanceExtent (b : BayNo) (s : State) : Option State :=
  match s.burnOf b with
  | none => none
  | some c =>
    match c.cur, c.nxt with
    | some e, some n =>
      if c.live ∧ c.extOffset = e.bytes then
        some (setChannel b (.burn { c with cur := some n, nxt := none, extIndex := c.extIndex + 1, extOffset := 0 }) s)
      else none
    | _, _ => none

/-- Advance the read under a key of a list of reads. -/
def advanceRead {α : Type} [BEq α] (k : α) (n : Nat) (l : List (α × Reading)) : List (α × Reading) :=
  l.map fun p => if p.1 == k then (p.1, p.2.advance n) else p

/-- The first read of a list with a piece not yet cut. -/
def nextPiece {α : Type} (l : List (α × Reading)) : Option (α × Nat × Nat × Nat) :=
  l.findSome? fun p => p.2.next.map fun q => (p.1, q)

/-- Present the next piece of an extent record, or ask for the next record: record 0 at opening, record 1 when record 0 has been
granted, and each later one when the cursor enters the extent before it (R108). -/
def presentExtent (b : BayNo) (s : State) : Option State :=
  match s.burnJob b with
  | none => none
  | some (c, j) =>
    if c.live ∧ (s.bay b).extent = none then
      match nextPiece c.extReads with
      | some (i, addr, len, off) =>
        some (present (.extent b) addr len (.extent i off)
          (setChannel b (.burn { c with extReads := advanceRead i len c.extReads }) s))
      | none =>
        if c.extAsk ≤ c.extIndex + 1 ∧ c.extAsk < j.extentCount then
          some (setChannel b (.burn { c with
            extReads := c.extReads ++ [(c.extAsk, Reading.start (j.extentTable + 16 * c.extAsk) 16)]
            extAsk := c.extAsk + 1 }) s)
        else none
    else none

/-! ### Pages and pieces (R91, R109, R110, R117) -/

/-- Ask the pool for the page of the next group to cut (R91, R109). The page of a later group is asked for in the event that cuts the last
piece of the group before it, and no further ahead (DESIGN CHOICE, row 32). -/
def askBurnPage (b : BayNo) (s : State) : Option State :=
  match s.burnOf b with
  | none => none
  | some c =>
    if c.live ∧ c.cutGroup < c.groups ∧ c.cutBytes = 0 ∧ pageOf c.cutGroup c.pages = none
        ∧ s.pageWaiters.contains b = false ∧ c.pages.length < 8 then
      if s.canTakePage b then some (setChannel b (.burn c.takePage) s)
      else some { s with pageWaiters := s.pageWaiters ++ [b] }
    else none

/-- The length of the piece at the cursor (R109). -/
def Burn.pieceAt (c : Burn) (e : Extent) (sectors : Nat) : Nat :=
  min (pieceLen (e.addr + c.extOffset) (e.bytes - c.extOffset)) (groupBytes sectors c.cutGroup - c.cutBytes)

/-- The channel after a piece of `n` bytes is cut. -/
def Burn.cutBy (c : Burn) (n sectors : Nat) : Burn :=
  if c.cutBytes + n = groupBytes sectors c.cutGroup then
    { c with extOffset := c.extOffset + n, cutGroup := c.cutGroup + 1, cutBytes := 0 }
  else { c with extOffset := c.extOffset + n, cutBytes := c.cutBytes + n }

/-- The extents do not cover the image, found in the event in which a piece is cut (R110). `c` is the channel before the
piece, `e` its current extent, `n` the piece's length. -/
def Burn.mismatch (c : Burn) (e : Extent) (j : Job) (n : Nat) : Bool :=
  let atEnd := c.extOffset + n == e.bytes
  let lastExtent := c.extIndex + 1 == j.extentCount
  let groupDone := c.cutBytes + n == groupBytes j.totalSectors c.cutGroup
  (atEnd && lastExtent && !groupDone) || (groupDone && c.cutGroup + 1 == c.groups && !(atEnd && lastExtent))

/-- Cut and present the next image piece (R109, R117), or find that the extents end early or overrun (R110). -/
def cutPiece (b : BayNo) (s : State) : Option State :=
  match s.burnJob b with
  | none => none
  | some (c, j) =>
    match c.cur with
    | none => none
    | some e =>
      if c.live ∧ c.cutGroup < c.groups ∧ (s.bay b).image = none then
        if c.extOffset = e.bytes then
          if c.extIndex + 1 = j.extentCount then some (failJob c.docket .extentMismatch s) else none
        else if (pageOf c.cutGroup c.pages).isSome then
          let n := c.pieceAt e j.totalSectors
          if c.mismatch e j n then some (failJob c.docket .extentMismatch s)
          else
            some (present (.image b) (e.addr + c.extOffset) n (.image c.cutGroup c.cutBytes)
              (setChannel b (.burn (c.cutBy n j.totalSectors)) s))
        else none
      else none

/-- Present the next listed compare on the compare line (R114). -/
def presentCompare (b : BayNo) (s : State) : Option State :=
  match s.burnJob b with
  | none => none
  | some (c, j) =>
    if c.live ∧ (s.bay b).compare = none then
      match c.compares.find? fun e => e.phase == .listed with
      | some e =>
        some (present (.compare b) (j.signatureTable + 4 * e.group) 4 (.compare e.group)
          (setChannel b (.burn { c with compares := c.compares.map fun x =>
            if x.group = e.group then { x with phase := .presented } else x }) s))
      | none => none
    else none

/-! ### Arrivals (R107, R109, R115) -/

/-- Image data is placed in its group's page (R109). -/
def Burn.placeImage (c : Burn) (g off : Nat) (data : List Byte) : Burn :=
  { c with pages := c.pages.map fun p => if p.group = g then { p with got := insertPiece off data p.got } else p }

/-- Place a piece in the read under a key. -/
def placeRead {α : Type} [BEq α] (k : α) (off : Nat) (data : List Byte) (l : List (α × Reading)) : List (α × Reading) :=
  l.map fun p => if p.1 == k then (p.1, p.2.place off data) else p

/-- The read under a key, whole. -/
def wholeRead {α : Type} [BEq α] (k : α) (l : List (α × Reading)) : Option (List Byte) :=
  (l.find? fun p => p.1 == k).bind fun p => p.2.data

/-- An extent record whose every piece has arrived is tested and becomes the current or next record (R107). -/
def takeExtent (b : BayNo) (c : Burn) (i : Nat) (record : List Byte) (s : State) : State :=
  let e := parseExtent record
  let c1 := { c with extReads := c.extReads.filter fun p => p.1 != i }
  if c.live then
    if e.addr % 4 ≠ 0 ∨ e.sectors = 0 then failJob c.docket .extentMismatch (setChannel b (.burn c1) s)
    else if i = 0 then setChannel b (.burn { c1 with cur := some e }) s
    else setChannel b (.burn { c1 with nxt := some e }) s
  else setChannel b (.burn c1) s

/-- Data of an extent fetch (R107). -/
def arriveExtent (b : BayNo) (i off : Nat) (data : List Byte) (s : State) : State :=
  match s.burnOf b with
  | none => s
  | some c =>
    let c1 := { c with extReads := placeRead i off data c.extReads }
    match wholeRead i c1.extReads with
    | some record => takeExtent b c1 i record (setChannel b (.burn c1) s)
    | none => setChannel b (.burn c1) s

/-- A trailing compare ends (R115). -/
def arriveCompare (b : BayNo) (g : Nat) (data : List Byte) (s : State) : State :=
  match s.burnOf b with
  | none => s
  | some c =>
    match c.compares.find? fun e => e.group == g with
    | none => s
    | some e =>
      let s1 := setChannel b (.burn { c with compares := c.compares.filter fun x => x.group != g }) s
      if BitVec.ofNat 32 (fromLe data) = e.crc then s1 else failJob c.docket .sourceChanged s1

end Sys2Proof.Machine
end

