-- ==== Sys2Proof/Machine/Verify.lean ====
section
/-! DEFINITION. The verifier (Chapter 7): what a verify channel does in the first event that allows it, and what arrives for it. -/

namespace Sys2Proof.Machine

/-- The lowest group of the read window that has no page (R125). -/
def Verify.wanted (c : Verify) : Option Nat :=
  if c.check < c.groups ∧ pageOf c.check c.pages = none then some c.check
  else if c.check + 1 < c.groups ∧ pageOf (c.check + 1) c.pages = none then some (c.check + 1)
  else none

/-- A page is given: it is FILLING for the group, and its READ is sent (R125). -/
def takeRead (b : BayNo) (c : Verify) (s : State) : State :=
  match c.wanted with
  | none => s
  | some g =>
    enterReq b (.read g) .normal (.read g)
      (setChannel b (.verify { c with pages := c.pages ++ [{ group := g, full := false, got := [] }] }) s)

/-- Ask for the page of the next READ, and issue it where the page is given (R125). -/
def issueRead (b : BayNo) (s : State) : Option State :=
  match s.verifyOf b with
  | none => none
  | some c =>
    if c.state = .reading ∧ c.wanted.isSome ∧ s.pageWaiters.contains b = false then
      if s.canTakePage b then some (takeRead b c s) else some { s with pageWaiters := s.pageWaiters ++ [b] }
    else none

/-- Present the next piece of the signature block (R127). -/
def presentBlock (b : BayNo) (s : State) : Option State :=
  match s.verifyOf b with
  | none => none
  | some c =>
    match c.blockRead with
    | none => none
    | some (n, r) =>
      if c.state = .reading ∧ (s.bay b).compare = none then
        match r.next with
        | some (addr, len, off) =>
          some (present (.compare b) addr len (.block n off)
            (setChannel b (.verify { c with blockRead := some (n, r.advance len) }) s))
        | none => none
      else none

/-- The entry of group c, where the cache holds its block (R127). -/
def Verify.entry (c : Verify) : Option (BitVec 32) :=
  match c.block with
  | some (n, entries) => if n = c.check / 64 then entries[c.check % 64]? else none
  | none => none

/-- The channel after c matches (R128): the page goes, c advances, and a block that does not hold the new c is dropped and the
next asked for (R127). -/
def Verify.advance (c : Verify) (signatureTable : Nat) : Verify :=
  let n := c.check + 1
  let c1 := { c with check := n, pages := dropPage c.check c.pages, marks := c.marks.filter (· != c.check) }
  if n < c.groups ∧ n % 64 = 0 then
    { c1 with block := none
              blockRead := some (n / 64, Reading.start (signatureTable + 256 * (n / 64)) (4 * min 64 (c.groups - n))) }
  else c1

/-- Every group has matched: the channel is closed and the verdict is GOOD (R130). -/
def verdictGood (b : BayNo) (d : DocketNo) (s : State) : State := goodInBay b d (dropChannel b s)

/-- The compare of group c, with the CRC of its page and its entry (table of R128). -/
def compareGroup (b : BayNo) (c : Verify) (j : Job) (crc entry : BitVec 32) (s : State) : State :=
  let marked := c.marks.contains c.check
  if crc = entry then
    let c1 := c.advance j.signatureTable
    let s1 := setChannel b (.verify c1) s
    let s2 :=
      if marked then
        softUp b (s1.updDocket c.docket fun r => { r with rereads := countUp 255 r.rereads })
      else s1
    if c1.check = c.groups then verdictGood b c.docket s2 else s2
  else
    let c1 := { c with pages := dropPage c.check c.pages }
    if marked then hardUp b (giveCause true c.docket .verify (setChannel b (.verify c1) s))
    else setChannel b (.verify { c1 with marks := c.check :: c1.marks }) s

/-- Make the compare of group c, if it can be made (R128). -/
def makeCompare (b : BayNo) (s : State) : Option State :=
  match s.verifyOf b with
  | none => none
  | some c =>
    if c.state = .reading then
      match pageOf c.check c.pages, c.entry, s.jobOf c.docket with
      | some p, some entry, some j => if p.full then some (compareGroup b c j (crc32 (piecesData p.got)) entry s) else none
      | _, _, _ => none
    else none

/-- Data of a signature block fetch (R127); after STOPPED it goes no further. -/
def arriveBlock (b : BayNo) (n off : Nat) (data : List Byte) (s : State) : State :=
  match s.verifyOf b with
  | none => s
  | some c =>
    match c.state, c.blockRead with
    | .reading, some (m, r) =>
      if m = n then
        let r1 := r.place off data
        match r1.data with
        | some bytes =>
          setChannel b (.verify { c with block := some (n, parseEntries (r.len / 4) bytes), blockRead := none }) s
        | none => setChannel b (.verify { c with blockRead := some (m, r1) }) s
      else s
    | _, _ => s

/-! ### Pages offered to waiting channels (R92) -/

/-- A free page is taken by the waiting channel that qualifies first, which leaves the list and proceeds (R92). -/
def offerPage (s : State) : Option State :=
  match s.pageTaker with
  | none => none
  | some b =>
    let s1 := { s with pageWaiters := s.pageWaiters.filter (· != b) }
    match (s.bay b).channel with
    | .burn c => some (setChannel b (.burn c.takePage) s1)
    | .verify c => some (takeRead b c s1)
    | .closed => some s1

end Sys2Proof.Machine
end

