-- ==== Sys2Proof/Machine/Arbiter.lean ====
section
/-! DEFINITION. The fetch arbiter: classes, order, bursts, ageing, and the writes that hold a fetch back (R97, R100 to R103). -/

namespace Sys2Proof.Machine

/-- The classes of urgency, highest first (R100). -/
inductive FetchClass where
  | urgent | print | burn | check | board
  deriving DecidableEq, Repr

/-- A burn channel is below low water (R100, R117): fewer than 2 pages, and a piece of the image still to be cut. -/
def Burn.lowWater (c : Burn) : Bool := decide (c.pages.length < 2) && decide (c.cutGroup < c.groups)

/-- The class of a presented request, by the state at the decision (R100). -/
def State.classOf (s : State) (id : LineId) (r : FetchReq) : FetchClass :=
  match id with
  | .image b => match s.burnOf b with
    | some c => if c.lowWater then .urgent else .burn
    | none => .burn
  | .print => .print
  | .compare _ => .check
  | .extent _ => if r.aged then .print else .board
  | .board => if r.aged then .print else .board

/-- Every request line. -/
def allLines : List LineId :=
  (Config.allBays.map LineId.image) ++ (Config.allBays.map LineId.extent) ++ (Config.allBays.map LineId.compare)
    ++ [.print, .board]

/-- The presented requests, with their classes. -/
def State.presented (s : State) : List (LineId × FetchReq × FetchClass) :=
  allLines.filterMap fun id => (s.line id).map fun r => (id, r, s.classOf id r)

/-! ### Writes that hold a fetch back (R97) -/

/-- Two runs of bytes share a byte. -/
def overlaps (a n b m : Nat) : Bool := decide (a < b + m) && decide (b < a + n)

/-- The bytes a step of a block that waits for room will write. -/
def State.todoRange (s : State) : Todo → Option (Nat × Nat)
  | .write w => some (w.addr, w.length)
  | .tally base => some (base + 16, 4)
  | .progress j => (s.job j).map fun job => (cardAddr s.boardAddr job.cardIndex + 116, 4)
  | .signature b g =>
    match s.burnJob b with
    | some (_, j) => some (j.signatureTable + 4 * g, 4)
    | none => none
  | .status => s.board.statusAddr.map fun a => (a, 512)
  | _ => none

/-- A step of a waiting block will write a byte of the request. -/
def State.stepOverlaps (s : State) (r : FetchReq) (x : Todo) : Bool :=
  match s.todoRange x with
  | some (a, n) => overlaps a n r.addr r.len
  | none => false

/-- A fetch waits while a write that overlaps it is queued, waits for room or is held by a channel (R97). Of a block that waits for room, the
write it waits with and those of its rule that come after it all count (DEDUCED, row 33). -/
def State.heldBack (s : State) (r : FetchReq) : Bool :=
  s.engine.posted.any (fun w => overlaps w.addr w.length r.addr r.len)
    || (s.engine.waiting ++ s.engine.agenda).any fun t => t.any (s.stepOverlaps r)

/-! ### Order within a class (R101) -/

/-- How far a bay stands after the pointer in the rotation; the pointer's own bay comes last (R101, R102). -/
def rotation (pointer b : BayNo) : Nat := (b.val + 11 - pointer.val) % 12

/-- Rank among requests presented at one event: print line, board line, then by lower bay (R101). -/
def lineRank : LineId → Nat
  | .print => 0
  | .board => 1
  | .image b => 2 + b.val
  | .extent b => 2 + b.val
  | .compare b => 2 + b.val

/-- The key by which a class orders its requests, least first (R101). -/
def orderKey (s : State) (c : FetchClass) (id : LineId) (r : FetchReq) : Nat :=
  match c, id with
  | .urgent, .image b => rotation s.engine.pointer b
  | .burn, .image b => rotation s.engine.pointer b
  | _, _ => r.stamp * 16 + lineRank id

/-- The requests of a class that are not held back. -/
def State.ready (s : State) (c : FetchClass) : List (LineId × FetchReq) :=
  s.presented.filterMap fun p => if p.2.2 = c ∧ s.heldBack p.2.1 = false then some (p.1, p.2.1) else none

/-- The first request of a class in its order. -/
def State.firstOf (s : State) (c : FetchClass) : Option (LineId × FetchReq) :=
  (s.ready c).foldl (fun best p =>
    match best with
    | none => some p
    | some q => if orderKey s c p.1 p.2 < orderKey s c q.1 q.2 then some p else best) none

/-! ### Bursts (R102) -/

/-- The lines whose presented request is of URGENT or PRINT class. -/
def State.highLines (s : State) : List LineId :=
  s.presented.filterMap fun p => if p.2.2 = .urgent ∨ p.2.2 = .print then some p.1 else none

/-- A burst ends when a request is presented or becomes URGENT or PRINT while it is under way; the lines that were so already
are remembered until they cease to be (R102). -/
def cutBurst (s : State) : Option State :=
  match s.engine.burst with
  | none => none
  | some u =>
    let high := s.highLines
    if high.any fun l => !u.high.contains l then
      some { s with engine := { s.engine with burst := none, pointer := u.bay } }
    else if u.high.any fun l => !high.contains l then
      some { s with engine := { s.engine with burst := some { u with high := u.high.filter fun l => high.contains l } } }
    else none

/-- The group an image request belongs to. -/
def targetGroup : Target → Nat
  | .image g _ => g
  | _ => 0

/-- The request that continues the burst under way (R102 step 1). -/
def State.burstRequest (s : State) : Option (LineId × FetchReq) :=
  match s.engine.burst with
  | none => none
  | some u =>
    if u.count < 8 then
      (s.ready .burn).find? fun p => p.1 == .image u.bay && targetGroup p.2.target == u.group
    else none

/-! ### Grants (R94, R101) -/

/-- The free fetch slot of lowest number; fewer than 8 fetches are outstanding when there is one. -/
def State.freeSlot (s : State) : Option FetchNo := Config.allFetches.find? fun k => (s.engine.slots.get k).isNone

/-- The engine issues a fetch: its slot, its 50 ms timer, and the line may present its next request (R94). A compare's entry
is marked granted (R115). -/
def issueFetch (k : FetchNo) (id : LineId) (r : FetchReq) (s : State) : State :=
  let f : Fetch := { line := id, addr := r.addr, len := r.len, target := r.target, timer := 50, orphan := false, stale := false }
  let s1 := setLine id none s
  let s2 := { s1 with engine := { s1.engine with
    slots := s1.engine.slots.set k (some f)
    burst := s1.engine.burst.map fun u => { u with high := u.high.filter (· != id) } } }
  let s3 := emit (.hostRead k r.addr r.len) s2
  match id, r.target with
  | .compare b, .compare g =>
    match s3.burnOf b with
    | some c =>
      setChannel b (.burn { c with compares := c.compares.map fun e => if e.group = g then { e with phase := .granted } else e }) s3
    | none => s3
  | _, _ => s3

/-- A BURN class grant by step 2 of R102: the burst that was under way ends, and a new one begins. -/
def grantBurn (k : FetchNo) (s : State) : Option State :=
  let s1 := match s.engine.burst with
    | some u => { s with engine := { s.engine with burst := none, pointer := u.bay } }
    | none => s
  match s1.firstOf .burn with
  | some (.image b, r) =>
    let u : Burst := { bay := b, group := targetGroup r.target, count := 1, high := s1.highLines }
    some (issueFetch k (.image b) r { s1 with engine := { s1.engine with burst := some u } })
  | _ => none

/-- One grant decision (R101): the first request of the highest class that has one not held back. -/
def grantFetch (s : State) : Option State :=
  match s.freeSlot with
  | none => none
  | some k =>
    match s.firstOf .urgent with
    | some (id, r) => some (issueFetch k id r s)
    | none =>
      match s.firstOf .print with
      | some (id, r) => some (issueFetch k id r s)
      | none =>
        match s.burstRequest with
        | some (id, r) =>
          let s1 := { s with engine := { s.engine with burst := s.engine.burst.map fun u => { u with count := u.count + 1 } } }
          some (issueFetch k id r s1)
        | none =>
          match grantBurn k s with
          | some s' => some s'
          | none =>
            match s.firstOf .check with
            | some (id, r) => some (issueFetch k id r s)
            | none => (s.firstOf .board).map fun p => issueFetch k p.1 p.2 s

end Sys2Proof.Machine
end

