-- ==== Sys2Proof/Machine/Print.lean ====
section
/-! DEFINITION. The print engine (Chapter 9). -/

namespace Sys2Proof.Machine

/-- Write the print engine's record. -/
def setPrinterRec (p : Printer) (s : State) : State := { s with printer := p }

/-- `a` is later than `b` on the wrapping print time base, for times less than half a wrap apart (R149). -/
def later (a b : PrintTime) : Bool := decide ((a - b) ≠ 0) && decide ((a - b).toNat < 2 ^ 31)

/-- Raise the print counters of a docket, the dot counters holding at 16,777,215 (R161). -/
def updPrint (d : Option DocketNo) (f : PrintCounters → PrintCounters) (s : State) : State :=
  match d with
  | some n => s.updDocket n fun r => { r with print := r.print.map f }
  | none => s

/-- A dot counter raised by `n`, holding at 16,777,215. -/
def dotsUp (n count : Nat) : Nat := min 16777215 (count + n)

/-! ### Band loads (R151) -/

/-- The load of band `n` into the shadow store begins. -/
def beginLoad (j : Job) (n : Nat) (p : Printer) : Printer :=
  { p with shadow := some { band := n, record := none, dots := [] }
           load := [(.record, Reading.start (j.bandTable + 144 * n) 144)] }

/-- Present the next piece of the band load on the print line, one request at a time (R151, R94). -/
def presentBand (s : State) : Option State :=
  if s.engine.print = none then
    match nextPiece s.printer.load with
    | some (part, addr, len, off) =>
      some (present .print addr len (.band part off)
        (setPrinterRec { s.printer with load := advanceRead part len s.printer.load } s))
    | none => none
  else none

/-- The band load ends and the presented request is withdrawn (R147, R159). -/
def endLoad (s : State) : State := setLine .print none { s with printer := { s.printer with load := [] } }

/-- The outstanding fetches of the print line go no further (R159 step 3). -/
def staleBand (s : State) : State :=
  { s with engine := { s.engine with
      slots := s.engine.slots.map (·.map fun f => if f.line = .print then { f with stale := true } else f) } }

/-- The spindle is braked and the printer enters SPINDOWN; the carriage stops where it stands (R152, R158 to R160). The 200 ms without an edge
are counted afresh from here, also where no edge has arrived for longer: R160 does not say from when (DESIGN CHOICE, row 63). -/
def enterSpindown (s : State) : State :=
  setPrinter .spindown { s with printer := { s.printer with
    carriageTarget := none, clampTimer := none, spinupTimer := none, settleTimer := none
    spindownTimer := some 10000, quietTimer := some 200 } }

/-- A lane that has stopped, its waiting dots gone; its last fire stays. -/
def Lane.stop (l : Lane) : Lane := { l with enabled := false, waiting := [], due := false }

/-- A print is aborted (R159), while its docket is PRINTING. -/
def abortPrint (cause : Cause) (code : Option FaultCode) (s : State) : State :=
  match s.printer.docket with
  | none => s
  | some d =>
    if (s.docket d).map (·.state) = some .printing then
      let s1 := match code with
        | some c => reportFault c none (some d) s
        | none => s
      let s2 := giveCause false d cause s1
      let s3 := staleBand (endLoad { s2 with printer := { s2.printer with
        lanes := s2.printer.lanes.map Lane.stop, active := none, shadow := none } })
      let s4 := enterSpindown s3
      queueTask d .printerOut .printer (.output .reject)
        (s4.updDocket d fun r => { r with state := .rejectWait, place := some .printer })
    else s

/-- The dot data read of a lane (R151). -/
def dotRead (e : RingEntry) (lane : LaneNo) : BandPart × Reading :=
  (.dots lane, Reading.start e.addr (4 * ((e.dots + 31) / 32)))

/-- A band record has arrived: it is clamped, the addresses of the enabled lanes are tested, and their dot data is asked for
(R151). -/
def takeRecord (bytes : List Byte) (s : State) : State :=
  let rec_ := parseBand bytes
  let enabled := Config.allLanes.filter fun j => (rec_.lanes.get j).enabled
  let s1 := { s with printer := { s.printer with
    shadow := s.printer.shadow.map fun st => { st with record := some rec_ }
    load := enabled.map fun j => dotRead (rec_.lanes.get j) j } }
  if enabled.any fun j => (rec_.lanes.get j).addr % 4 ≠ 0 then abortPrint .printStarved (some .badBand) s1 else s1

/-- Data of a print line fetch (R151). -/
def arriveBand (part : BandPart) (off : Nat) (data : List Byte) (s : State) : State :=
  let load := placeRead part off data s.printer.load
  let s1 := { s with printer := { s.printer with load := load } }
  match wholeRead part load with
  | none => s1
  | some bytes =>
    match part with
    | .record => takeRecord bytes s1
    | .dots lane =>
      { s with printer := { s.printer with
          load := load.filter fun p => p.1 != part
          shadow := s.printer.shadow.map fun st => { st with dots := st.dots ++ [(lane, bytes)] } } }

/-- The record of the band next to print, where it is in the shadow store. -/
def Printer.nextRecord (p : Printer) : Option BandRecord :=
  match p.shadow with
  | some st => if st.band = p.nextBand then st.record else none
  | none => none

/-! ### Carriage (R152) -/

/-- The carriage begins its move to the next band's ring in the first event that allows it (R152). -/
def startCarriage (s : State) : Option State :=
  if (s.printer.state = .settling ∨ s.printer.state = .stepping) ∧ s.printer.carriageTarget = none
      ∧ s.printer.homingSteps = 0 then
    match s.printer.nextRecord with
    | some r =>
      if r.ring ≠ s.printer.position then some { s with printer := { s.printer with carriageTarget := some r.ring } }
      else none
    | none => none
  else none

/-- One ring toward a target. -/
def stepToward (target pos : Nat) : Nat := if pos < target then pos + 1 else pos - 1

/-- A millisecond of the carriage (R152): a step of its homing, or one ring toward its target. -/
def stepCarriage (p : Printer) : Printer :=
  if 0 < p.homingSteps then
    { p with homingSteps := p.homingSteps - 1, position := if p.homingSteps = 1 then 0 else p.position - 1 }
  else
    match p.carriageTarget with
    | none => p
    | some t =>
      if p.position = t then { p with carriageTarget := none }
      else
        let pos := stepToward t p.position
        { p with position := pos, carriageTarget := if pos = t then none else some t }

/-! ### Placing dots (R154 to R156) -/

/-- The accumulator set at the index that starts a revolution (R154). -/
def Lane.begin (l : Lane) (e : RingEntry) : Lane :=
  { l with enabled := e.enabled, k := 0, target := e.phase, err := 0, waiting := [], due := false }

/-- From dot k to dot k+1 (R154 steps 1 to 3). -/
def Lane.nextDot (l : Lane) (e : RingEntry) : Lane :=
  if e.dots ≤ l.err + e.r then { l with k := l.k + 1, target := l.target + e.q + 1, err := l.err + e.r - e.dots }
  else { l with k := l.k + 1, target := l.target + e.q, err := l.err + e.r }

/-- The own time of a dot due at an edge at time `t` with interval `i` (R155). -/
def ownTime (t : PrintTime) (i target : Nat) : PrintTime := t + BitVec.ofNat 32 (((target % 256) * i + 128) / 256)

/-- The dots of a lane due at edge `e` (R154): set dots join the waiting list, or are dropped where it holds 16 (R156). The
result is the lane and the number dropped. -/
def takeDue (ring : RingEntry) (data : List Byte) (e i : Nat) (t : PrintTime) : Nat → Lane → Nat → Lane × Nat
  | 0, l, dropped => (l, dropped)
  | fuel + 1, l, dropped =>
    if l.k < ring.dots ∧ l.target / 256 = e then
      if dotBit data l.k then
        if l.waiting.length < 16 then
          takeDue ring data e i t fuel
            (({ l with waiting := l.waiting ++ [{ edge := e, own := ownTime t i l.target, clipped := false }] } : Lane).nextDot ring)
            dropped
        else takeDue ring data e i t fuel (l.nextDot ring) (dropped + 1)
      else takeDue ring data e i t fuel (l.nextDot ring) dropped
    else (l, dropped)

/-- The dot data of a lane in a store. -/
def BandStore.dotsOf (st : BandStore) (lane : LaneNo) : List Byte :=
  ((st.dots.find? fun p => p.1 == lane).map (·.2)).getD []

/-- The ring entry of a lane in the active store. -/
def Printer.ring (p : Printer) (lane : LaneNo) : Option (BandStore × RingEntry) :=
  match p.active with
  | some st => st.record.map fun r => (st, r.lanes.get lane)
  | none => none

/-- One lane at an edge or index of a print revolution. -/
def laneDue (e i : Nat) (t : PrintTime) (lane : LaneNo) (s : State) : State :=
  let l := s.printer.lanes.get lane
  match s.printer.ring lane with
  | none => s
  | some (st, ring) =>
    if l.enabled then
      let res := takeDue ring (st.dotsOf lane) e i t ring.dots l 0
      updPrint s.printer.docket (fun c => { c with dropped := dotsUp res.2 c.dropped })
        { s with printer := { s.printer with lanes := s.printer.lanes.set lane res.1 } }
    else s

/-- Every lane takes its due dots. -/
def takeAllDue (e i : Nat) (t : PrintTime) (s : State) : State :=
  Config.allLanes.foldl (fun u lane => laneDue e i t lane u) s

/-- A waiting dot when the edge after its own arrives at `t`: clipped where its own time has not come (R155). -/
def Dot.clip (e : Nat) (t : PrintTime) (x : Dot) : Dot :=
  if x.edge + 1 = e ∧ later x.own t then { x with own := t, clipped := true } else x

/-- The dots of a lane that an edge clips. -/
def Lane.clipCount (e : Nat) (t : PrintTime) (l : Lane) : Nat :=
  (l.waiting.filter fun x => decide (x.edge + 1 = e) && later x.own t).length

/-- Every lane's waiting dots are clipped at an edge (R155). -/
def clipAll (e : Nat) (t : PrintTime) (s : State) : State :=
  let n := (s.printer.lanes.toList.map (Lane.clipCount e t)).sum
  updPrint s.printer.docket (fun c => { c with clipped := dotsUp n c.clipped })
    { s with printer := { s.printer with
        lanes := s.printer.lanes.map fun l => { l with waiting := l.waiting.map (Dot.clip e t) } } }

/-- The end of the recovery that the head dot of a lane waits for: the dot is crowded (R156). The recovery is under way, or it has ended
at this tick with the dot due. -/
def Lane.crowds (l : Lane) (x : Dot) : Option PrintTime :=
  match l.lastFire with
  | some f => if (l.recovering ∨ l.due) ∧ later (f + 1000) x.own then some (f + 1000) else none
  | none => none

/-- The lane after the dot at the head of its list has fired: a new recovery begins, and the end of one still to be reported is the
older's. -/
def Lane.fired (l : Lane) (rest : List Dot) (at_ : PrintTime) : Lane :=
  { l with waiting := rest, lastFire := some at_, recovering := true, due := false, stale := l.stale || l.recovering }

/-- A lane fires the dot at the head of its list at its fire time (R156, R161). -/
def fireDot (lane : LaneNo) (s : State) : State :=
  let l := s.printer.lanes.get lane
  match l.waiting with
  | [] => s
  | x :: rest =>
    let late := l.crowds x
    let l' := l.fired rest (late.getD x.own)
    updPrint s.printer.docket
      (fun c => { c with fired := dotsUp 1 c.fired, crowded := dotsUp late.isSome.toNat c.crowded })
      { s with printer := { s.printer with lanes := s.printer.lanes.set lane l' } }

/-- The head dot of a recovering lane is crowded. -/
def Lane.headCrowded (l : Lane) : Bool :=
  match l.waiting with
  | x :: _ => (l.crowds x).isSome
  | [] => false

/-- The lane at the end of a recovery: that of an older recovery, of which a crowded dot has fired already, or that of the recovery
under way, with the head dot due where it is crowded (R156). A lane that is not recovering has no end to come (row 40). -/
def Lane.recovered (l : Lane) : Lane :=
  if l.stale then { l with stale := false }
  else if l.recovering then { l with recovering := false, due := l.headCrowded }
  else l

/-- A lane's recovery ends (R156). -/
def endRecovery (lane : LaneNo) (s : State) : State :=
  { s with printer := { s.printer with lanes := s.printer.lanes.set lane (s.printer.lanes.get lane).recovered } }

/-! ### Arrival, settling and revolutions (R148 to R153, R157, R158) -/

/-- A disc placed at the printer is taken (R148, R12). -/
def takeDisc (d : DocketNo) (s : State) : State :=
  let s1 := s.updDocket d fun r => { r with state := .printing, place := some .printer }
  let p := { s1.printer with
    docket := some d, nextBand := 0, active := none, shadow := none, load := []
    lanes := s1.printer.lanes.map Lane.stop, clamped := true, clampTimer := some 300 }
  let p := match s1.jobOf d with
    | some j => beginLoad j 0 p
    | none => p
  setPrinter .seating (setPrinterRec p s1)

/-- The clamp has closed: the spindle is driven and SPINUP begins, the capture fresh (R148 to R150). -/
def enterSpinup (s : State) : State :=
  setPrinter .spinup { s with printer := { s.printer with
    clampTimer := none, spinupTimer := some 3000, edge := none, edgeTime := none, interval := none } }

/-- SETTLING begins, with its own 5 s; `breached` says that the revolution under way does not count (R150). -/
def enterSettling (breached : Bool) (s : State) : State :=
  setPrinter .settling { s with printer := { s.printer with
    spinupTimer := none, settleTimer := some 5000, clean := 0, breached := breached } }

/-- The band count of the label on the printer. -/
def State.bandCount (s : State) : Nat :=
  match s.printer.docket.bind s.jobOf with
  | some j => j.bandCount
  | none => 0

/-- A slip: the slip count rises, and the fifth aborts the print (R153). -/
def slip (s : State) : State :=
  let s1 := updPrint s.printer.docket (fun c => { c with slips := c.slips + 1 }) s
  let slips : Option Nat := ((s1.printer.docket.bind s1.docket).bind (·.print)).map (·.slips)
  if slips.getD 0 < 5 then s1 else abortPrint .printStarved (some .starved) s1

/-- Band n starts at an index at `t` with interval `i` (R153, R154): the stores change places, the lanes begin, the load of
band n+1 begins, and the dots due at the index are taken. -/
def startBand (r : BandRecord) (i : Nat) (t : PrintTime) (s : State) : State :=
  let p := { s.printer with
    active := s.printer.shadow, shadow := none, load := []
    lanes := Vector.ofFn fun j : Fin 8 => (s.printer.lanes.get j).begin (r.lanes.get j) }
  let p := match s.printer.docket.bind s.jobOf with
    | some j => if p.nextBand + 1 < j.bandCount then beginLoad j (p.nextBand + 1) p else p
    | none => p
  takeAllDue 0 i t (setPrinter .printing (setPrinterRec p s))

/-- The test at an index taken in STEPPING (table of R153). -/
def testBand (i : Nat) (t : PrintTime) (s : State) : State :=
  match s.printer.nextRecord with
  | none => slip s
  | some r =>
    if s.printer.position ≠ r.ring ∨ s.printer.carriageTarget ≠ none then s
    else if s.printer.load ≠ [] then slip s
    else startBand r i t s

/-- The label is complete (R158). -/
def completeLabel (s : State) : State :=
  match s.printer.docket with
  | none => enterSpindown s
  | some d =>
    enterSpindown
      (queueTask d .printerOut .printer (.output .good) (setDocketState d .printedWait s))

/-- A print revolution ends at an index (R157). -/
def endRevolution (i : Nat) (t : PrintTime) (s : State) : State :=
  let n := (s.printer.lanes.toList.map fun l => l.waiting.length).sum
  let s1 := updPrint s.printer.docket (fun c => { c with dropped := dotsUp n c.dropped }) s
  let s2 := { s1 with printer := { s1.printer with
    lanes := s1.printer.lanes.map Lane.stop, active := none, nextBand := s1.printer.nextBand + 1 } }
  if s2.printer.nextBand = s2.bandCount then completeLabel s2
  else testBand i t (setPrinter .stepping s2)

/-! ### Edges, indexes and breaches (R149, R150) -/

/-- An interval outside the spindle window (R149). -/
def badInterval (i : Option PrintTime) : Bool :=
  match i with
  | some x => decide (x.toNat < 2000) || decide (50000 < x.toNat)
  | none => false

/-- The capture takes an edge (R149); while the spindle is braked the wait for its stop starts afresh. -/
def Printer.captureEdge (p : Printer) (e : Option Nat) (t : PrintTime) : Printer :=
  { p with edge := e, edgeTime := some t, interval := p.edgeTime.map fun x => t - x
           quietTimer := if p.state = .spindown ∨ p.state = .fault then some 200 else p.quietTimer }

/-- A breach by the printer's state (R150, R153, R157). `atIndex` says that the revolution after it is a fresh one. -/
def breach (atIndex : Bool) (s : State) : State :=
  match s.printer.state with
  | .settling => { s with printer := { s.printer with clean := 0, breached := !atIndex } }
  | .stepping => enterSettling (!atIndex) s
  | .printing => abortPrint .printSpindle (some .spindle) s
  | _ => s

/-- A spindle encoder edge (R149, R154, R155). An edge that is a breach aborts the print first, so that it clips no dot and drops none: the spec
does not order the two (DESIGN CHOICE, row 71). -/
def onEdge (t : PrintTime) (s : State) : State :=
  let e := s.printer.edge.map (· + 1)
  let s1 := setPrinterRec (s.printer.captureEdge e t) s
  if badInterval s1.printer.interval ∨ e = some 2048 then breach false s1
  else if s.printer.state = .printing then
    match e, s1.printer.interval with
    | some n, some i => takeAllDue n i.toNat t (clipAll n t s1)
    | _, _ => s1
  else s1

/-- An index (R149, R150, R153, R157). An index that ends a print revolution and is a breach aborts the print first, so that the dots still
waiting are discarded and none is counted as dropped: no rule orders R157 and R159 there (DESIGN CHOICE, row 71). -/
def onIndex (t : PrintTime) (s : State) : State :=
  let s1 := setPrinterRec (s.printer.captureEdge (some 0) t) s
  let lost : Bool := match s.printer.edge with
    | some n => decide (n < 2047)
    | none => false
  let i := (s1.printer.interval.map (·.toNat)).getD 0
  if s.printer.state = .spinup then enterSettling false s1
  else if badInterval s1.printer.interval = true ∨ lost = true then breach true s1
  else
    match s.printer.state with
    | .settling =>
      if s.printer.breached then { s1 with printer := { s1.printer with breached := false } }
      else if s.printer.clean + 1 < 2 then { s1 with printer := { s1.printer with clean := s.printer.clean + 1 } }
      else
        testBand i t (setPrinter .stepping { s1 with printer := { s1.printer with clean := 0, settleTimer := none } })
    | .stepping => testBand i t s1
    | .printing => endRevolution i t s1
    | _ => s1

/-! ### The tray and the way out (R148, R160) -/

/-- The printer leaves READY_OUT for EMPTY when it holds no docket and tray-present is off (R160). -/
def printerEmpties (s : State) : Option State :=
  if s.printer.state = .readyOut ∧ s.printer.docket = none ∧ s.sensor .trayPresent = false then
    some (setPrinter .empty s)
  else none

/-- A place at the printer is under way (R148): from the start of its RELEASE to the end of its wait. A RELEASE that faults ends the place,
though its wait never began (DESIGN CHOICE, row 64). -/
def State.placingAtPrinter (s : State) : Bool :=
  match s.transport.errand with
  | some e => e.dest == .printer && (s.transport.phase == .release || s.transport.phase == .awaitTray)
  | none => false

/-- A grip by the arm at the printer is under way (R160). A GRIP at a bay or an input bin cannot lift the disc off the tray and is not counted,
though R160 does not say at which station (DESIGN CHOICE, row 85). -/
def State.grippingAtPrinter (s : State) : Bool :=
  match s.transport.errand with
  | some e => e.source == some .printer && s.transport.gripper == some .grip
  | none => false

/-- Tray-present asserts on an EMPTY printer with no place under way: READY_OUT, and FOREIGN_DISC while RUNNING (R148). -/
def trayOn (s : State) : State :=
  if s.printer.state = .empty ∧ s.placingAtPrinter = false then
    let s1 := setPrinter .readyOut s
    if s.tower.state = .running then reportFault .foreignDisc none none s1 else s1
  else s

/-- Tray-present falls while the printer holds a docket and no grip is under way (R160). -/
def trayOff (s : State) : State :=
  match s.printer.docket with
  | some d => if s.grippingAtPrinter then s else reportFault .trayLost none (some d) s
  | none => s

/-- The print engine at a tower or link reset (R147). A homing of the carriage under way goes on: R152 stops a move under way and does not say
what becomes of the homing (DESIGN CHOICE, row 65). The lanes' accumulators become 0, and the band next to print, the spindle capture and the
count of clean revolutions stay: R147 names none of them at a reset (DESIGN CHOICE, row 81). -/
def resetPrinter (s : State) : State :=
  let driven := s.printer.state = .spinup ∨ s.printer.state = .settling ∨ s.printer.state = .stepping
    ∨ s.printer.state = .printing
  let s1 := orphanLine .print (endLoad { s with printer := { s.printer with
    docket := none, active := none, shadow := none, carriageTarget := none, clampTimer := none, spinupTimer := none
    settleTimer := none, spindownTimer := none, quietTimer := none
    lanes := Vector.replicate 8 Lane.reset } })
  if driven then enterSpindown s1
  else setPrinter (if s.sensor .trayPresent then .readyOut else .empty) s1

end Sys2Proof.Machine
end

