-- ==== Sys2Proof/Machine/Transport.lean ====
section
/-! DEFINITION. The transport at work: grants, the arm's steps, the commands that end a motion, the sensors, the end of homing and
the recovery sweep (Chapter 3; R178 and R179 of Chapter 11). -/

namespace Sys2Proof.Machine

/-! ### Grants (R60, R61) -/

/-- The destination of an UNLOAD or PRINTER_OUT can take the disc (R60). -/
def State.destReady (s : State) : Station → Bool
  | .printer => s.printer.state == .empty
  | .output o => s.outBin o == .available
  | _ => false

/-- A task is eligible for grant (R60). -/
def State.eligible (s : State) (t : Task) : Bool :=
  match t.kind, t.source, t.dest with
  | .load, .input i, .bay b => (s.bins.input i).state != .open && (s.bay b).state == .reserved
  | .unload, .bay b, dest =>
    ((s.bay b).state == .holding || ((s.bay b).state == .absent && (s.bay b).tray == .open)) && s.destReady dest
  | .printerOut, .printer, dest => s.printer.state == .readyOut && s.destReady dest
  | _, _, _ => false

/-- The older of the oldest task so far and another. -/
def Task.older (best : Option Task) (t : Task) : Option Task :=
  match best with
  | none => some t
  | some u => if t.age < u.age then some t else some u

/-- The oldest eligible task of a kind (R61). -/
def State.oldestEligible (s : State) (k : TaskKind) : Option Task :=
  (s.transport.queue.filter fun t => t.kind == k && s.eligible t).foldl Task.older none

/-- The task to grant: the oldest eligible task of the highest class (R61). -/
def State.nextTask (s : State) : Option Task :=
  match s.oldestEligible .printerOut with
  | some t => some t
  | none =>
    match s.oldestEligible .unload with
    | some t => some t
    | none => s.oldestEligible .load

/-- TRAY_OPEN is asked of a station that is a bay (R53, R67). -/
def askAt (st : Station) (p : Purpose) (s : State) : State :=
  match st with
  | .bay b => askTrayOpen b p s
  | _ => s

/-- TRAY_CLOSE is asked of a station that is a bay (R55). -/
def closeAt (st : Station) (s : State) : State :=
  match st with
  | .bay b => askTrayClose b s
  | _ => s

/-- A LOAD whose input bin is EMPTY (R61). -/
def State.emptyLoad (s : State) (t : Task) : Bool :=
  match t.kind, t.source with
  | .load, .input i => (s.bins.input i).state == .empty
  | _, _ => false

/-- A task is granted (R61): it leaves the queue, TRAY_OPEN is asked of its bay, and its pick leg begins. A LOAD from an EMPTY
bin ends at once. -/
def grantTask (t : Task) (s : State) : State :=
  let s1 := unqueueTask t.docket s
  if s.emptyLoad t then dissolve t.docket s1
  else
    let s2 := setErrand (some { work := .task t, source := some t.source, dest := t.dest, held := false, misses := 0 })
      (setTransport .busy s1)
    beginLeg .pick (askAt t.source .normal (askAt t.dest .normal s2))

/-- A grant, while the transport is FREE and an eligible task waits (R61). -/
def grant (s : State) : Option State :=
  if s.transport.state = .free then s.nextTask.map fun t => grantTask t s else none

/-! ### Swing and gripper (R50, R51) -/

/-- The swing motor is driven toward an end (R50). -/
def driveSwing (side : Side) (s : State) : State :=
  { s with transport := { s.transport with swing := some side, swingTimer := some 3000 } }

/-- The swing motor stops. -/
def stopSwing (s : State) : State := { s with transport := { s.transport with swing := none, swingTimer := none } }

/-- The turn to a side: at its end, the phase that follows; else the motor is driven (R50). -/
def turnStep (side : Side) (done : State → State) (s : State) : Option State :=
  if s.sensor side.sensor then some (done (stopSwing s))
  else if s.transport.swing = some side then none
  else some (driveSwing side s)

/-! ### Drops (R52, R55, R56, R64) -/

/-- The docket of the task in flight is lost by a drop, then the transport halts with DROP (R15, R64). A drop of no docket halts
the transport only. -/
def dropFault (place : Option Place) (s : State) : State :=
  match s.taskInFlight with
  | none => transportFault .drop s
  | some t =>
    let place := place.getD (((s.docket t.docket).bind (·.place)).getD .arm)
    haltTransport .drop t.bay (some t.docket) (loseDisc true t.docket place (stopMotors s))

/-! ### The pick from an input bin (R54) -/

/-- A pick finds its bin empty: the bin becomes EMPTY, unless its door stands open, and the docket is dissolved (R54). -/
def pickEmpty (i : InputBin) (s : State) : State :=
  let s1 := if (s.bins.input i).state = .loaded then setInput i .empty s else s
  match s1.taskInFlight with
  | some t => dissolve t.docket s1
  | none => endErrand s1

/-- The descent toward the floor of an input bin begins (R54). A lift within 4 counts of the floor takes its compare stop at once.
The descent has no 10 s timer: R48 names the stall case for it and does not say whether the long-move case covers it too (DESIGN CHOICE, row 80). -/
def startDescent (i : InputBin) (s : State) : State :=
  let l := s.transport.lift.stop
  let f := s.floor i
  if l.distance f ≤ 4 then setPhase .descend (setLift l s)
  else setPhase .descend (setLift (l.creep s.cal (.descend f) (decide (l.count < (f : Int)))) s)

/-- The input bin of the work in hand. -/
def State.pickBin (s : State) : Option InputBin :=
  match s.transport.errand with
  | some { source := some (.input i), .. } => some i
  | _ => none

/-! ### What the arm does when its phase allows it (R49, R53 to R56) -/

/-- Stack-present is read: the descent begins, or the bin is found empty (R54). -/
def readStack (i : InputBin) (s : State) : State := if s.sensor i.stack then startDescent i s else pickEmpty i s

/-- The pick at the station (R54, R55). Before the first descent the arm waits while the bin's door is open (R57). -/
def readyPick (s : State) : Option State :=
  match s.transport.errand with
  | some { source := some (.input i), .. } => if (s.bins.input i).state = .open then none else some (readStack i s)
  | some { source := some (.bay b), .. } =>
    if (s.bay b).tray = .open ∧ ((s.bay b).state = .open ∨ (s.bay b).state = .absent) then
      some (setPhase .grip (startGripper .grip s))
    else none
  | some { source := some .printer, .. } =>
    if s.printer.state = .readyOut then some (setPhase .grip (startGripper .grip s)) else none
  | _ => none

/-- The destination lets the disc be released (table of R56). -/
def State.placeReady (s : State) : Station → Bool
  | .bay b => (s.bay b).tray == .open && (s.bay b).state == .open
  | .printer => s.printer.state == .empty
  | .output o => s.outBin o == .available
  | .input _ => false

/-- The place at the station (R56). -/
def readyPlace (s : State) : Option State :=
  match s.transport.errand with
  | some e => if s.placeReady e.dest then some (setPhase .release (startGripper .release s)) else none
  | none => none

/-- The next work of a resumed errand (R66): the place leg again where the disc is still held, else the pick leg. -/
def resumeErrand (p : Purpose) (e : Errand) (s : State) : State :=
  if e.held then
    beginLeg .place (askAt e.dest p { s with transport := { s.transport with carrying := true } })
  else
    beginLeg .pick (askAt e.dest p (match e.source with | some st => askAt st p s | none => s))

/-- The task in flight at the end of a resume's homing (R66). -/
def resumeTask (t : Task) (e : Errand) (s : State) : State :=
  let s1 := setTransport .busy s
  if e.held ∧ s.sensor .discPresent = false then loseDisc true t.docket .arm s1 else resumeErrand .normal e s1

/-- The sweep goes on at the end of a resume's homing: an interrupted move is finished (R66, R67). -/
def resumeSweep (s : State) : State :=
  let s1 := setTransport .sweeping s
  match s.transport.errand with
  | some e => if e.held ∧ s.sensor .discPresent = false then endErrand s1 else resumeErrand .sweep e s1
  | none =>
    if s.transport.stage = .arm then
      { s1 with transport := { s1.transport with armDisc := s.sensor .discPresent } }
    else s1

/-- The bay is discovered as the tower enters DISCOVERING (R178): installed and not sent IDENTIFY since power-up. A bay being reset is
left to the IDENTIFY that follows its RESET_DONE; one whose reset failed before is sent IDENTIFY, although R86 would leave it ABSENT
(DESIGN CHOICE, row 51). -/
def Bay.undiscovered (r : Bay) : Bool := r.installed && !r.identified && r.state != .resetting

/-- The tower enters DISCOVERING: each installed bay not yet sent IDENTIFY sends it (R178). -/
def enterDiscovering (s : State) : State :=
  Config.allBays.foldl (fun u b => if (u.bay b).undiscovered then discover .normal b u else u) (setTower .discovering s)

/-- Homing is complete, and the count is trusted (R45). -/
def trustCount (s : State) : State := setLift { s.transport.lift with trusted := true } s

/-- Homing completes, and the transport goes on as the event that started it requires (R49, R66, R175, R178, R181). Where no work is left
and disc-present is on, a disc that belongs to no docket, the transport is FREE with it in the gripper and goes on granting: the spec
gives no move for a disc left by the RELEASE fault of a dissolved LOAD (DESIGN CHOICE, row 52). A tower that has reached RUNNING makes no sweep
after a CALIBRATE that leaves UNCALIBRATED: so R175 and R181, while R179 lists that sweep (DESIGN CHOICE, row 74). -/
def finishHoming (s : State) : State :=
  let s1 := setPhase .none (trustCount s)
  match s.transport.errand with
  | some { work := .task t, source := src, dest := dst, held := h, misses := m } =>
    resumeTask t { work := .task t, source := src, dest := dst, held := h, misses := m } s1
  | _ =>
    match s.tower.state with
    | .homing =>
      if s.tower.reachedRunning then setTower .running (setTransport .free s1)
      else
        enterDiscovering (setTransport .sweeping
          { s1 with transport := { s1.transport with stage := .arm, armDisc := s.sensor .discPresent } })
    | .discovering => resumeSweep s1
    | .sweeping => resumeSweep s1
    | _ => setTransport .free s1

/-- Lift home asserts in the homing approach: the count is set to 0 and the swing follows (R49 steps 2 and 3). -/
def homeReached (s : State) : State :=
  setPhase .homeSwing (setLift { s.transport.lift.stop with count := 0 } s)

/-- Step 2 of homing begins. -/
def homeDownFrom (s : State) : State :=
  setPhase .homeDown
    (setLift { s.transport.lift.stop.creep s.cal .homeDown false with travel := 0, homeTimer := some 60000 } s)

/-- A disc has been taken by the printer: the place is complete (R56, R148). -/
def placedAtPrinter (s : State) : State :=
  match s.taskInFlight with
  | some t => endErrand (takeDisc t.docket s)
  | none => endErrand s

/-- The arm takes its next step where its phase allows it. -/
def armStep (s : State) : Option State :=
  if s.transport.state = .homing ∨ s.transport.state = .sweeping ∨ s.transport.state = .busy then
    match s.transport.phase with
    | .homeUp => if s.sensor .liftHome then none else some (homeDownFrom s)
    | .homeDown => if s.sensor .liftHome then some (homeReached s) else none
    | .homeSwing => turnStep .bin finishHoming s
    | .raise => if s.transport.lift.mode = .still then some (beginLeg .place s) else none
    | .lift leg => if s.transport.lift.mode = .still then some (setPhase (.turn leg) s) else none
    | .turn leg =>
      match s.transport.errand.bind fun e => e.station leg with
      | some st => turnStep st.side (setPhase (.ready leg)) s
      | none => none
    | .ready .pick => readyPick s
    | .ready .place => readyPlace s
    | .descend =>
      if s.sensor .contact then some (setPhase .grip (startGripper .grip (stopLift s)))
      else if s.transport.lift.mode = .still then s.pickBin.map fun i => pickEmpty i s
      else none
    | .returnRetry => if s.transport.lift.mode = .still then s.pickBin.map fun i => readStack i s else none
    | .returnEnd => if s.transport.lift.mode = .still then some (endErrand s) else none
    | .awaitTray => if s.sensor .trayPresent then some (placedAtPrinter s) else none
    | .none => none
    | .grip => none
    | .openMiss => none
    | .orphanGrip => none
    | .orphanRelease => none
    | .release => none
  else none

/-! ### The lift's own events (R45 to R49) -/

/-- The count after an edge (R45). -/
def Lift.count' (l : Lift) (up : Bool) : Int := if up then l.count + 1 else l.count - 1

/-- The travel of a homing step: edges in the direction of the step (R49). -/
def Lift.travel' (l : Lift) (up : Bool) : Nat :=
  match l.mode with
  | .homeUp => if up then l.travel + 1 else l.travel
  | .homeDown => if up then l.travel else l.travel + 1
  | _ => l.travel

/-- The compare stop of a move: the duty goes to 0 and the settle of 50 ms begins (R46, R47). -/
def Lift.compareStop (l : Lift) (target : Nat) (corrected : Bool) : Lift :=
  { l with mode := .settling target corrected, duty := 0, stallTimer := none, settleTimer := some 50 }

/-- The lift axis after an encoder edge (R45, R46, R48, R54). -/
def Lift.edge (l : Lift) (up : Bool) : Lift :=
  let l1 := { l with count := l.count' up, travel := l.travel' up, stallTimer := stallStart l.duty }
  match l.mode with
  | .move t => if l1.distance t ≤ 4 then l1.compareStop t false else l1
  | .correct t => if l1.distance t ≤ 4 then l1.compareStop t true else l1
  | .descend t => if l1.distance t ≤ 4 then l1.stop else l1
  | _ => l1

/-- The duty revised at a millisecond of a move (R46). -/
def Lift.revise (l : Lift) (c : Calibration) : Lift :=
  match l.mode with
  | .move t => { l with duty := laterDuty c (l.distance t) l.duty }
  | _ => l

/-- The settle of 50 ms ends (R47): the move is complete, one correction begins, or POSITION. -/
def settleLift (s : State) : State :=
  let l := s.transport.lift
  match l.mode, l.settleTimer with
  | .settling t corrected, some _ =>
    if l.distance t ≤ 4 then stopLift s
    else if corrected then transportFault .position s
    else setLift (l.creep s.cal (.correct t) (decide (l.count < (t : Int)))) s
  | _, _ => s

/-- A homing step has made its limit of travel without the sensor (R49). -/
def Lift.homeOverrun (l : Lift) : Bool :=
  match l.mode with
  | .homeUp => decide (2000 ≤ l.travel)
  | .homeDown => decide (210000 ≤ l.travel)
  | _ => false

/-! ### The end of a GRIP (R51, R4, R11, R12, R54, R55) -/

/-- A pick succeeds at an input bin (R4): the docket takes its ordinal and becomes INBOUND, and the lift begins its way back, so
its place becomes ARM in the same event (R54). -/
def pickSuccess (t : Task) (s : State) : State :=
  match s.docket t.docket with
  | none => s
  | some r =>
    match s.job r.slot with
    | none => s
    | some j =>
      (s.setDocket t.docket (some { r with
        state := .inbound, ordinal := some j.nextOrdinal, place := some .arm, picked := some s.tower.time })).setJob r.slot
          (some { j with nextOrdinal := j.nextOrdinal + 1 })

/-- A disc is gripped out of its bay or off the printer (R11, R12). -/
def gripOut (t : Task) (s : State) : State :=
  let s1 := s.updDocket t.docket fun r =>
    { r with place := some .arm
             state := match r.state with | .rejectWait => .rejectOutbound | _ => .outbound }
  match t.source with
  | .bay b => askTrayClose b (s1.setBay b { s1.bay b with docket := none })
  | .printer => { s1 with printer := { s1.printer with docket := none } }
  | _ => s1

/-- The pick has held. -/
def markHeld (s : State) : State := setErrand (s.transport.errand.map fun e => { e with held := true }) s

/-- A GRIP reads a hold. -/
def gripHold (s : State) : State :=
  let s1 := markHeld { s with transport := { s.transport with carrying := true } }
  match s.transport.errand with
  | some { work := .task t, source := some (.input i), .. } =>
    startMove (s.position (.input i)) (setPhase .raise (pickSuccess t s1))
  | some { work := .task t, .. } => beginLeg .place (gripOut t s1)
  | some { work := .sweep, source := some st, .. } => beginLeg .place (closeAt st s1)
  | _ => s1

/-- A GRIP at a bay or the printer for a task finds no disc: a drop (R55). -/
def missDrop (t : Task) (s : State) : State :=
  match t.source with
  | .bay b => askTrayClose b (dropFault (some .bay) s)
  | .printer => dropFault (some .printer) s
  | _ => s

/-- A GRIP reads a miss (R54, R55, R67). -/
def gripMiss (s : State) : State :=
  match s.transport.errand with
  | some { work := .task t, source := some (.input i), dest := dst, held := h, misses := m } =>
    let s1 := setPhase .openMiss (startGripper .release
      (setErrand (some { work := .task t, source := some (.input i), dest := dst, held := h, misses := m + 1 }) s))
    if m + 1 < 2 then s1 else pickEmpty i s1
  | some { work := .task t, .. } => missDrop t s
  | some { work := .sweep, source := some st, .. } => endErrand (closeAt st s)
  | _ => s

/-- The 150 ms of a GRIP end, and disc-present is read (R51). -/
def endGrip (s : State) : State :=
  let s1 := { s with transport := { s.transport with gripper := none, gripTimer := none, gripperClosed := true } }
  match s.transport.phase with
  | .grip => if s.sensor .discPresent then gripHold s1 else gripMiss s1
  | .orphanGrip => setPhase .orphanRelease (startGripper .release s1)
  | _ => s1

/-! ### The end of a RELEASE (R51, R54, R56) -/

/-- The place completes (R56, R13, R67). A LOAD ends before its docket is seated, so that the UNLOAD of a docket whose bay was reset
during the release is queued as a task of its own (R18, R62). -/
def placeDone (s : State) : State :=
  match s.transport.errand with
  | some { work := .task t, dest := .bay b, .. } => seatDocket b t.docket (endErrand s)
  | some { work := .task _, dest := .printer, .. } =>
    setPhase .awaitTray { s with transport := { s.transport with placeTimer := some 500 } }
  | some { work := .task t, dest := .output o, .. } =>
    endErrand (land t.docket (some (match o with | .good => .goodBin | .reject => .rejectBin)) (some o) (binUp o s))
  | some { work := .sweep, dest := .output o, .. } => endErrand (binUp o s)
  | _ => endErrand s

/-- A disc has not come free (R51). An INBOUND docket that was given a cause while the RELEASE ran at its bay is rerouted now, since
no release is left to run to its end (R62). -/
def releaseFault (s : State) : State :=
  let s1 := transportFault .release s
  match s.taskInFlight with
  | none => s1
  | some t =>
    match s1.docket t.docket with
    | some r => if r.state = .inbound ∧ r.verdict = some .reject then reroute t.docket r.cause s1 else s1
    | none => s1

/-- The 150 ms of a RELEASE end, and disc-present is read (R51). -/
def endRelease (s : State) : State :=
  let s1 := { s with transport := { s.transport with gripper := none, gripTimer := none, gripperClosed := false } }
  if s.sensor .discPresent then releaseFault s1
  else
    match s.transport.phase with
    | .openMiss =>
      match s.transport.errand with
      | some { work := .task _, source := some st, .. } => startMove (s.position st) (setPhase .returnRetry s1)
      | _ => returnToEnd s1
    | .orphanRelease => returnToEnd s1
    | .release => placeDone s1
    | _ => s1

/-! ### Sensors (R44, R52, R57, R58) -/

/-- The disc the arm carries belongs to the docket of the task in flight, or to the sweep move: the pick of that work has held (R52). -/
def State.carriesForErrand (s : State) : Bool := s.transport.errand.any (·.held)

/-- Disc-present falls (R52). A drop of a disc that belongs to no docket loses none: a task in flight whose own pick has not held keeps its
docket, and is begun again at the resume (DESIGN CHOICE, row 84). A HALTED transport takes no drop. A STOPPED one faults with DROP and stays STOPPED, since only HOMING,
SWEEPING and BUSY lead to HALTED and an UNCALIBRATED tower keeps it STOPPED (R63, R177; row 16). -/
def discFalls (s : State) : State :=
  if s.transport.carrying then
    match s.transport.state with
    | .halted => s
    | .stopped => reportFault .drop none none (stopMotors { s with transport := { s.transport with carrying := false } })
    | _ =>
      let s1 : State := { s with transport := { s.transport with carrying := false } }
      if s.carriesForErrand then dropFault none s1 else transportFault .drop s1
  else s

/-- The door of an input bin (R57). -/
def inputDoor (i : InputBin) (on : Bool) (s : State) : State :=
  if on then setInput i .open s else triggerRound (setInput i .loaded s)

/-- The door of an output bin (R58); its state is derived from the sensor. -/
def outputDoor (o : OutputBin) (on : Bool) (s : State) : State :=
  if on then reportStatus s else reportStatus { s with bins := s.bins.setCount 0 o }

/-- What a change of a filtered sensor does at once. The sensors the arm waits on act through `armStep`. -/
def sensorActs (x : Sensor) (on : Bool) (s : State) : State :=
  match x with
  | .discPresent => if on then s else discFalls s
  | .doorA => inputDoor .a on s
  | .doorB => inputDoor .b on s
  | .doorGood => outputDoor .good on s
  | .doorReject => outputDoor .reject on s
  | .trayPresent => if on then trayOn s else trayOff s
  | .liftHome => s
  | .swingBin => s
  | .swingBay => s
  | .contact => s
  | .stackA => s
  | .stackB => s

/-- The filtered value of a sensor changes (R44). -/
def changeSensor (x : Sensor) (on : Bool) (s : State) : State :=
  sensorActs x on (s.setFilter x { on := on, agree := 0 })

/-- The filter of a sensor (R44). -/
def State.filter (s : State) (x : Sensor) : Filter := s.sensors.get (sensorIndex x)

/-! ### The recovery sweep (R67, R178, R179) -/

/-- A bay as the sweep probes begin: an IDLE or SPARE bay is probed, an ABSENT one is stranded (R178). A bay that is still
OPENING or CLOSING after a CALIBRATE ended its move is neither, and keeps its disc: R178 does not name those states (DESIGN CHOICE, row 76). One that
is still PROBING since before a CALIBRATE is not asked again: the probe outstanding stands for the new sweep's (DESIGN CHOICE, row 83). -/
def beginProbe (b : BayNo) (s : State) : State :=
  let r := s.bay b
  if r.installed then
    match r.state with
    | .idle => setBayState b .probing (sendReq b .probe .sweep .probe (s.setBay b { r with sweepProbe := some .idle }))
    | .spare => setBayState b .probing (sendReq b .probe .sweep .probe (s.setBay b { r with sweepProbe := some .spare }))
    | .absent => s.setBay b { r with stranded := true }
    | _ => s
  else s

/-- No installed bay is DISCOVERING or RESETTING (R175). -/
def State.discovered (s : State) : Bool :=
  Config.allBays.all fun b =>
    !((s.bay b).installed && ((s.bay b).state == .discovering || (s.bay b).state == .resetting))

/-- DISCOVERING ends: the tower enters SWEEPING and the sweep probes begin (R175, R178). -/
def endDiscovering (s : State) : Option State :=
  if s.tower.state = .discovering ∧ s.discovered then
    let s1 := setTower .sweeping { s with transport := { s.transport with stage := .arm, sweepList := [] } }
    some (Config.allBays.foldl (fun u b => beginProbe b u) s1)
  else none

/-- A sweep move to the reject bin (R67). -/
def sweepErrand (source : Option Station) (held : Bool) : Errand :=
  { work := .sweep, source := source, dest := .output .reject, held := held, misses := 0 }

/-- Write the stage of the sweep. -/
def setStage (st : SweepStage) (s : State) : State := { s with transport := { s.transport with stage := st } }

/-- The next bay of the sweep's list: a bay being reset is left stranded and passed over; one that has RETIRED since its probe is passed
over with its disc (row 28); any other is asked for its tray and the move begins (R67, R179). -/
def sweepBay (b : BayNo) (rest : List BayNo) (s : State) : State :=
  let s1 := { s with transport := { s.transport with sweepList := rest } }
  match (s.bay b).state with
  | .retired => s1
  | .resetting => s1.setBay b { s1.bay b with stranded := true }
  | .discovering => s1.setBay b { s1.bay b with stranded := true }
  | _ => beginLeg .pick (askTrayOpen b .sweep (setErrand (some (sweepErrand (some (.bay b)) false)) s1))

/-- The sweep's next move, or its end (R67, R179). The disc found on the arm counts as carried from the start of its move, although no GRIP
has read a hold since power-up (R52; DESIGN CHOICE, row 53). -/
def sweepStep (s : State) : Option State :=
  if s.tower.state = .sweeping ∧ s.transport.state = .sweeping ∧ s.transport.errand = none then
    match s.transport.stage with
    | .arm =>
      if s.transport.armDisc then
        some (beginLeg .place (setErrand (some (sweepErrand none true))
          (setStage .printer { s with transport := { s.transport with carrying := true } })))
      else some (setStage .printer s)
    | .printer =>
      if s.sensor .trayPresent then
        some (beginLeg .pick (setErrand (some (sweepErrand (some .printer) false)) (setStage .bays s)))
      else some (setStage .bays s)
    | .bays =>
      if Config.allBays.any fun b => (s.bay b).sweepProbe.isSome then none
      else
        match s.transport.sweepList with
        | [] => some (setTower .running (setTransport .free s))
        | b :: rest => some (sweepBay b rest s)
  else none

end Sys2Proof.Machine
end

