-- ==== Sys2Proof/Machine/Scanner.lean ====
section
/-! DEFINITION. The scan: its request, its reading of the board, and its end (R167, R168). -/

namespace Sys2Proof.Machine

/-- A scan begins: its first read is the anchor (R168). -/
def beginScan (s : State) : State :=
  { s with board := { s.board with
      scan := some { base := s.boardAddr, statusAddr := 0, count := 0, phase := .anchor (Reading.start s.boardAddr 64) } } }

/-- A scan is requested (R167): dropped while the board address is 0 (R163), started at once, or left pending. -/
def requestScan (s : State) : State :=
  if s.boardAddr = 0 then s
  else
    match s.board.scan with
    | none => beginScan s
    | some _ => { s with board := { s.board with scanPending := true } }

/-- Write the scan under way. -/
def setScan (c : Option Scan) (s : State) : State := { s with board := { s.board with scan := c } }

/-- The scan timer as it starts with an interval; 0 is off (R167). -/
def scanStart (interval : Nat) : Timer := if interval = 0 then none else some interval

/-- The scan timer expires: it restarts, and a scan is requested (R167). -/
def scanTimerEnds (s : State) : State :=
  match s.board.scanTimer with
  | none => s
  | some _ => requestScan { s with board := { s.board with scanTimer := scanStart s.board.scanInterval } }

/-- Advance the read of a scan. -/
def ScanPhase.advance (p : ScanPhase) (n : Nat) : ScanPhase :=
  match p with
  | .anchor r => .anchor (r.advance n)
  | .table r => .table (r.advance n)
  | .acting acts => .acting acts

/-- The read a scan is making. -/
def ScanPhase.reading : ScanPhase → Option Reading
  | .anchor r => some r
  | .table r => some r
  | .acting _ => none

/-- Present the next piece of the anchor or the card table on the board line (R168, R94). -/
def presentBoard (s : State) : Option State :=
  match s.board.scan with
  | none => none
  | some c =>
    if s.engine.board = none then
      match c.phase.reading.bind Reading.next with
      | some (addr, len, off) =>
        some (present .board addr len (.board off) (setScan (some { c with phase := c.phase.advance len }) s))
      | none => none
    else none

/-- A scan is abandoned (R168): it acts on no card, its board fetches are orphaned, and it ends as any scan ends. -/
def abandonScan (s : State) : State :=
  match s.board.scan with
  | none => s
  | some c =>
    startThread [.endScan false]
      (orphanLine .board (setLine .board none (setScan (some { c with phase := .acting [] }) s)))

/-- The anchor is tested: a card count outside 1..64 or a status block address that is no multiple of 4 is bad (R168). -/
def anchorBad (count statusAddr : Nat) : Bool := count = 0 || 64 < count || statusAddr % 4 != 0

/-- The anchor has arrived (R168). -/
def takeAnchor (c : Scan) (bytes : List Byte) (s : State) : State :=
  let count := field bytes 0 2
  let addr := field bytes 8 8
  if anchorBad count addr then abandonScan (reportFault .badAnchor none none s)
  else
    setScan (some { c with count := count, statusAddr := addr
                           phase := .table (Reading.start (c.base + 64) (128 * count)) }) s

/-- Data of a board line fetch (R168). -/
def arriveBoard (off : Nat) (data : List Byte) (s : State) : State :=
  match s.board.scan with
  | none => s
  | some c =>
    match c.phase with
    | .anchor r =>
      let r1 := r.place off data
      match r1.data with
      | some bytes => takeAnchor c bytes s
      | none => setScan (some { c with phase := .anchor r1 }) s
    | .table r => setScan (some { c with phase := .table (r.place off data) }) s
    | .acting _ => s

/-- A thread that will free this slot is at work or waits for room. -/
def State.freeing (s : State) (j : SlotNo) : Bool :=
  (s.engine.waiting ++ s.engine.agenda).any fun t => t.contains (.freeSlot j)

/-- The final writes of the jobs that ended while the scan was under way (R28), those that ended while its last writes waited for room
among them. Where several slots are ENDED they go by slot number, each slot freed before the writes of the next: R28 and R168 give no
order (DESIGN CHOICE, row 62). -/
def State.finalWrites (s : State) : Thread :=
  Config.allSlots.flatMap fun j =>
    if (s.job j).map (·.state) = some .ended ∧ s.freeing j = false then s.finalWrite j else []

/-- The status block address of a complete snapshot comes into use, and a rewrite is queued at the first complete scan and at a
change of the address (R168, R172). Where a rewrite for the address is queued already, none is added: R172 says so of a reported change alone
(DESIGN CHOICE, row 86). -/
def adoptStatus (c : Scan) (s : State) : State :=
  let fresh := s.board.scanned = false ∨ s.board.statusAddr ≠ some c.statusAddr
  let s1 := { s with board := { s.board with statusAddr := some c.statusAddr, scanned := true } }
  if fresh then queueStatus s1 else s1

/-- The scan is over: a pending one starts (R167). -/
def nextScan (s : State) : State :=
  let s1 := setScan none s
  if s.board.scanPending then requestScan { s1 with board := { s1.board with scanPending := false } } else s1

end Sys2Proof.Machine
end

