-- ==== Sys2Proof/Machine/Startup.lean ====
section
/-! DEFINITION. The configuration load, the resets of the whole tower, the resume and the recalibration (Chapter 11; R63, R66, R99,
R147, R168). -/

namespace Sys2Proof.Machine

/-! ### The configuration memory (R176, R177) -/

/-- Report a CONFIG fault: no bay and no docket (R176). -/
def configFault (code : FaultCode) (s : State) : State := reportFault code none none s

/-- Write the calibration set. -/
def setCalibration (c : Option Calibration) (s : State) : State := { s with tower := { s.tower with calibration := c } }

/-- The signature of the configuration memory is right (R176). -/
def signatureOk (m : List Byte) : Bool := field m 0 2 == 0x5B3C

/-- The region count, a count above 4 taken as 4 (R176). -/
def regionCount (m : List Byte) : Nat := min 4 (field m 2 1)

/-- The regions that can be read: none where the memory does not answer or the signature is wrong, with the fault it makes
(R176). -/
def openConfig (mem : ConfigRead) : Option FaultCode × Nat × List Byte :=
  match mem with
  | .noAnswer => (some .noMemory, 0, [])
  | .image m => if signatureOk m then (none, regionCount m, m) else (some .badSignature, 0, m)

/-- The geometry region becomes the calibration set, or none is held (R177). -/
def loadGeometry (n : Nat) (m : List Byte) (s : State) : State :=
  if 1 ≤ n then
    if (parseGeometry m).plausible then setCalibration (some (parseGeometry m)) s
    else configFault .badGeometry (setCalibration none s)
  else configFault .noGeometry (setCalibration none s)

/-- A bay as the plant gives it: one that is not installed is ABSENT, with nothing asked of it (R72, R176). -/
def Bay.plant (installed : Bool) (r : Bay) : Bay :=
  if installed then { r with installed := true }
  else { r with installed := false, state := .absent, reqs := [], heldClose := false, sweepProbe := none }

/-- The bay plant region (R176); without one the spare designation is none. A bay that a reset during the load has already brought to IDLE
stays IDLE where it is named the spare: the spec gives the entry into SPARE at an IDENTITY alone (DESIGN CHOICE, row 69). One that a
DESIGNATE_SPARE card taken during the load has made SPARE stays SPARE where the region does not name it (DESIGN CHOICE, row 69). -/
def loadPlant (n : Nat) (m : List Byte) (s : State) : State :=
  if 2 ≤ n then
    match plantSpare m with
    | some sp => setSpare sp { s with bays := Vector.ofFn fun b : BayNo => (s.bay b).plant (plantInstalled m b) }
    | none => configFault .badRegion (setSpare none s)
  else setSpare none s

/-- A bins region holds classes and capacities in range (R176). -/
def binsRegion (m : List Byte) : Option (MediaClass × MediaClass × Nat × Nat) :=
  match mediaClassOf (field m 96 1), mediaClassOf (field m 97 1) with
  | some a, some b =>
    let good := field m 98 2
    let reject := field m 100 2
    if 1 ≤ good ∧ good ≤ 300 ∧ 1 ≤ reject ∧ reject ≤ 300 then some (a, b, good, reject) else none
  | _, _ => none

/-- The bins region (R176). -/
def loadBins (n : Nat) (m : List Byte) (s : State) : State :=
  if 3 ≤ n then
    match binsRegion m with
    | some (a, b, good, reject) =>
      { s with bins := { a := { s.bins.a with cls := a }, b := { s.bins.b with cls := b }
                         good := { s.bins.good with capacity := good }, reject := { s.bins.reject with capacity := reject } } }
    | none => configFault .badRegion s
  else s

/-- The health region (R176). Limits it lowers are tested at once (R138): a bay can have been reset, and its counters have risen, while
the tower was LOADING (R180). Where no region is applied, limits and a drain interval that a card has set during the load stay, and the defaults do
not come back: R176 does not say which (DESIGN CHOICE, row 82). -/
def loadHealth (n : Nat) (m : List Byte) (s : State) : State :=
  if 4 ≤ n then
    let soft := field m 104 1
    let hard := field m 105 1
    let drain := field m 106 2
    if soft ≤ 15 ∧ hard ≤ 15 ∧ 1 ≤ drain ∧ drain ≤ 1440 then
      Config.allBays.foldl (fun u b => testLimits b u)
        { s with health := { s.health with softLimit := soft, hardLimit := hard, drainMinutes := drain } }
    else configFault .badRegion s
  else s

/-- The bay map at the end of the load: number n to each installed bay n other than the spare (R88), a bay that the limits of this
load have retired among them (row 55), and one left in SPARE without the designation (DESIGN CHOICE, row 69). -/
def buildMap (s : State) : State :=
  Config.allBays.foldl (fun u b =>
    setLogical b (if (u.bay b).installed ∧ u.health.spare ≠ some b then some b else none) u) s

/-- The drain interval in milliseconds (R141). -/
def Health.drainStart (h : Health) : Timer := some (h.drainMinutes * 60000)

/-- The drain timer is started (R141). -/
def startDrain (s : State) : State := { s with health := { s.health with drainTimer := s.health.drainStart } }

/-- The tower enters HOMING and the transport homes, where a calibration set is held; else UNCALIBRATED (R175, R178). -/
def towerHomes (s : State) : State :=
  match s.tower.calibration with
  | some _ => startHoming (setTransport .homing (setTower .homing s))
  | none => setTower .uncalibrated s

/-- The loader has done. -/
def loaderIdle (s : State) : State := { s with tower := { s.tower with loader := .idle } }

/-- The whole load of power-up (R176). -/
def loadWhole (mem : ConfigRead) (s : State) : State :=
  let (fault, n, m) := openConfig mem
  let s0 := match fault with
    | some c => configFault c s
    | none => s
  let s1 := loadHealth n m (loadBins n m (loadPlant n m (loadGeometry n m s0)))
  let s2 := startDrain (buildMap s1)
  let s3 := { s2 with printer := { s2.printer with homingSteps := 520 } }
  towerHomes (loaderIdle s3)

/-- The geometry read of a CALIBRATE (R181). -/
def loadAgain (mem : ConfigRead) (s : State) : State :=
  let (fault, n, m) := openConfig mem
  let s0 := match fault with
    | some c => configFault c s
    | none => s
  towerHomes (loaderIdle (loadGeometry n m s0))

/-- The configuration read ends (R176, R181). -/
def configEnds (mem : ConfigRead) (s : State) : State :=
  match s.tower.loader with
  | .idle => s
  | .whole => loadWhole mem s
  | .geometry => loadAgain mem s

/-! ### CALIBRATE and RESUME_TRANSPORT (R181, R66) -/

/-- The arm still carries a disc as the transport goes on: while it was HALTED disc-present was not watched, and its value is read afresh
(R52, R66). -/
def State.stillCarried (s : State) : Bool :=
  s.transport.carrying && (s.transport.state != .halted || s.sensor .discPresent)

/-- The transport is stopped: motors off, the work in hand dropped, the gripper command with it (R63). The gripper and the disc it
holds are left as they are. Where the transport was HALTED, disc-present is read afresh, as at a resume: R52 names the resume alone, and a reset
or a CALIBRATE ends the halt without one (DESIGN CHOICE, row 84). -/
def stopTransport (s : State) : State :=
  let s1 := setPhase .none (setErrand none (stopMotors s))
  setTransport .stopped { s1 with transport := { s1.transport with
    gripper := none, gripTimer := none, placeTimer := none, carrying := s.stillCarried } }

/-- The tray a sweep move has had opened is closed when the move is dropped (R53). -/
def closeSweepTray (s : State) : State :=
  match s.transport.errand with
  | some { work := .sweep, source := some (.bay b), held := false, .. } => askTrayClose b s
  | _ => s

/-- An accepted CALIBRATE (R181): nothing more in LOADING; else the transport stops, and the loader reads the geometry again.
The sweep probes still outstanding are left so: R181 does not name them (DESIGN CHOICE, row 83). -/
def calibrate (s : State) : State :=
  if s.tower.state = .loading then s
  else
    let s1 := stopTransport (closeSweepTray s)
    setTower .loading { s1 with tower := { s1.tower with loader := .geometry } }

/-- An accepted RESUME_TRANSPORT (R66): the transport homes, disc-present is read afresh, and a HALTED tower returns to RUNNING. -/
def resumeTransport (s : State) : State :=
  let s1 := setTransport .homing
    { s with transport := { s.transport with carrying := s.stillCarried } }
  let s2 := startHoming s1
  if s.tower.state = .halted then setTower .running s2 else s2

/-! ### Tower reset and link reset (R180, R99, R147, R168) -/

/-- A step of the board scanner's own, kept through a tower reset while it waits for room (R99). The landing steps of cleared dockets,
the progress rewrites of cleared jobs, and the acts of the scan that ends are dropped. -/
def Todo.keptByTowerReset : Todo → Bool
  | .write w => w.docket.isNone
  | .tally _ => true
  | .status => true
  | _ => false

/-- A thread that frees a job slot: the final writes of jobs that have ended. -/
def isFinal (t : Thread) : Bool := t.any fun x => match x with | .freeSlot _ => true | _ => false

/-- What a tower reset leaves of a thread that waits for room. The final writes of cleared jobs are not made (R21), but the tally of a
card whose FINISHED has been queued is (R164). -/
def keptThread (t : Thread) : Thread :=
  if isFinal t then
    match t with
    | .tally base :: _ => [.tally base]
    | _ => []
  else t.filter Todo.keptByTowerReset

/-- The requests presented on the lines of the engine are withdrawn; those of the bays go with their channels (R99). -/
def withdrawLines (s : State) : State :=
  { s with
    bays := s.bays.map fun r => { r with image := none, extent := none, compare := none }
    engine := { s.engine with print := none, board := none } }

/-- The engine at a tower reset (R99). -/
def engineTowerReset (s : State) : State :=
  let s1 := withdrawLines s
  { s1 with engine := { s1.engine with
      slots := s1.engine.slots.map (·.map fun f => { f with orphan := true })
      waiting := (s1.engine.waiting.map keptThread).filter fun t => !t.isEmpty
      agenda := [] } }

/-- The engine at a link reset (R99). -/
def engineLinkReset (s : State) : State :=
  let s1 := withdrawLines s
  { s1 with engine := { s1.engine with
      slots := Vector.replicate 8 none, posted := [], waiting := [], agenda := [], issued := [], pointer := 0, burst := none } }

/-- Jobs, dockets, channels and the transport's queue are cleared, a scan under way ends, and the lift's count is no longer trusted (R180,
R21, R1, R168, R45). A RETIRED bay keeps its tray with its state (R72), although Table 4-3 makes every tray UNKNOWN (DESIGN CHOICE,
row 56). -/
def clearWork (s : State) : State :=
  let s1 := stopTransport (setQueue [] s)
  { s1 with
    jobs := Vector.replicate 8 none
    dockets := Vector.replicate 16 none
    roundDue := false
    pageWaiters := []
    bays := s1.bays.map fun r => { r with docket := none, stranded := false, channel := .closed }
    board := { s1.board with scan := none, scanPending := false, scanned := false }
    tower := { s1.tower with reachedRunning := false }
    transport := { s1.transport with
      stage := .arm, armDisc := false, sweepList := [], lift := { s1.transport.lift with trusted := false } } }

/-- Every installed bay that is not RETIRED starts a reset, in increasing number; one already RESETTING goes on with it (R72, R84). -/
def resetBays (s : State) : State :=
  Config.allBays.foldl (fun u b => if (u.bay b).installed then startReset b u else u) s

/-- The tower state a reset leads to: HOMING or UNCALIBRATED; a tower that is LOADING carries its read on (R180). -/
def restartTower (s : State) : State := if s.tower.state = .loading then s else towerHomes s

/-- The burst of a cleared channel ends with the pointer at its bay (R102, R90). -/
def endBurst (s : State) : State :=
  match s.engine.burst with
  | some u => { s with engine := { s.engine with burst := none, pointer := u.bay } }
  | none => s

/-- A tower reset (R180). A scan asked for while one ran starts now that it has ended (R167, R168). -/
def towerReset (s : State) : State :=
  let s1 := engineTowerReset (endBurst (clearWork s))
  let s2 := if s.board.scan.isSome ∧ s.board.scanPending then requestScan s1 else s1
  restartTower (resetBays (resetPrinter s2))

/-- The register window at a link reset (R180): also the tally, the generation count and the status block address. R180 does not name the last;
the model sets it to none, as after power-up, until the first complete scan brings one into use (DESIGN CHOICE, row 79). -/
def clearWindow (s : State) : State :=
  { s with regs := Regs.reset, board := { s.board with tally := 0, generation := 0, statusAddr := none } }

/-- A link reset (R180). -/
def linkReset (s : State) : State :=
  let s1 := clearWindow (engineLinkReset (clearWork s))
  restartTower (resetBays (resetPrinter s1))

/-- Power is applied (R176): every block at its power-up state. The queue of commands is the outside's, and what has been sent
has been sent. -/
def powerUp (s : State) : State := { State.reset with pending := s.pending, out := s.out }

end Sys2Proof.Machine
end

