-- ==== Sys2Proof/Machine/Services.lean ====
section
/-! DEFINITION. The service commands (R171 and the rules it names), and the validation and acceptance of a COPY card (R170, R20). -/

namespace Sys2Proof.Machine

/-- What a service answers: the refusal reason, `none` for OK, and the state after. -/
abbrev Answer := Reason × State

/-- A scan interval is allowed (R167). -/
def scanIntervalOk (n : Nat) : Bool := n = 0 || (50 ≤ n && n ≤ 10000)

/-- A drain interval is allowed (R141). -/
def drainOk (n : Nat) : Bool := 1 ≤ n && n ≤ 1440

/-- A present scan interval is set and its timer restarted (R167). -/
def setScanInterval (n : Option Nat) (s : State) : State :=
  match n with
  | some v => { s with board := { s.board with scanInterval := v, scanTimer := scanStart v } }
  | none => s

/-- A present drain interval is set and its timer restarted (R141). -/
def setDrain (n : Option Nat) (s : State) : State :=
  match n with
  | some v => startDrain { s with health := { s.health with drainMinutes := v } }
  | none => s

/-- SET_TIMERS (R171). -/
def svcSetTimers (scan drain : Option Nat) (s : State) : Answer :=
  if scan.all scanIntervalOk ∧ drain.all drainOk then (.none, setDrain drain (setScanInterval scan s)) else (.badService, s)

/-- SET_LIMITS (R142): both limits are set, and every bay is tested, marked and retired in increasing number, one after another. A SPARE bay
that reaches a new limit itself is thus still in SPARE when an IDLE bay of lower number retires, and takes its number over; it is then
DISCOVERING when it is marked, and retires at its IDENTITY (DEDUCED, row 60). -/
def svcSetLimits (soft hard : Nat) (s : State) : Answer :=
  if soft ≤ 15 ∧ hard ≤ 15 then
    (.none, Config.allBays.foldl (fun u b => testLimits b u)
      { s with health := { s.health with softLimit := soft, hardLimit := hard } })
  else (.badService, s)

/-- A bay state from RESERVED to HOLDING (R143). -/
def BayState.working : BayState → Bool
  | .reserved | .opening | .open | .closing | .probing | .burning | .finalizing | .verifying | .holding => true
  | .absent | .discovering | .idle | .resetting | .spare | .retired => false

/-- DESIGNATE_SPARE naming a bay: the rows of R143. A bay in SPARE that is not designated, whose designation ended while its sweep probe was
out (row 28) or which the load did not name (row 69), fits none of them: the card is accepted and the bay keeps SPARE (DESIGN CHOICE, row 78). -/
def svcDesignate (b : BayNo) (s : State) : Answer :=
  let r := s.bay b
  if r.installed = false then (.notInstalled, s)
  else if r.state = .retired ∨ r.failing then (.badService, s)
  else if s.health.spare = some b then (.none, s)
  else if s.health.spare.isSome then (.inUse, s)
  else if r.docket.isSome ∨ r.channel.isOpen ∨ r.stranded ∨ r.state.working then (.busy, s)
  else
    let s1 := setSpare (some b) (setLogical b none s)
    (.none, if r.state = .idle then setBayState b .spare s1 else s1)

/-- Another bay holds the logical number equal to this bay's physical number. -/
def State.numberTaken (s : State) (b : BayNo) : Bool :=
  Config.allBays.any fun x => x != b && (s.bay x).logical == some b

/-- DESIGNATE_SPARE naming no bay: the rows of R144. -/
def svcDesignateNone (s : State) : Answer :=
  match s.health.spare with
  | none => (.none, s)
  | some sp =>
    if s.numberTaken sp then (.inUse, s)
    else
      let s1 := setSpare none (setLogical sp (some sp) s)
      (.none, if (s.bay sp).state = .spare then enterIdle sp s1 else s1)

/-- The number or role of a reinstated bay (R145 step 2). It is SPARE at its IDENTITY only where it is designated here, so a designation
that a stranded bay kept through its retirement (row 36) is ended first. A RETIRED bay that still holds its own number counts as a holder of
it, and keeps it (DESIGN CHOICE, row 70). -/
def reinstateRole (b : BayNo) (s : State) : State :=
  let s1 := endDesignation b s
  if Config.allBays.any fun x => (s1.bay x).logical == some b then
    if s1.health.spare = none then setSpare (some b) s1 else s1
  else setLogical b (some b) s1

/-- REINSTATE_BAY (R145). -/
def svcReinstate (b : BayNo) (s : State) : Answer :=
  let r := s.bay b
  if r.installed = false then (.notInstalled, s)
  else if r.state = .retired then
    let s1 := reportStatus (s.setBay b { r with soft := 0, hard := 0, failing := false })
    (.none, discover .normal b (reinstateRole b s1))
  else (.badService, s)

/-- RESET_BAY (R87). -/
def svcResetBay (b : BayNo) (s : State) : Answer :=
  let r := s.bay b
  if r.installed = false then (.notInstalled, s)
  else if r.state = .retired then (.badService, s)
  else (.none, startReset b s)

/-- RESUME_TRANSPORT (R66). -/
def svcResume (s : State) : Answer :=
  if s.transport.state = .halted then (.none, resumeTransport s) else (.notHalted, s)

/-- CLEAR_FAULTS (R173). -/
def svcClearFaults (s : State) : Answer :=
  (.none, if s.faults = FaultRecord.clear then s else reportStatus { s with faults := FaultRecord.clear })

/-- CALIBRATE (R171, R181). -/
def svcCalibrate (s : State) : Answer := if s.anyDocket then (.busy, s) else (.none, calibrate s)

/-- A service that names a bay: a number outside 0..11 is refused (R171). -/
def onBay (n : Nat) (f : BayNo → State → Answer) (s : State) : Answer :=
  if h : n < 12 then f ⟨n, h⟩ s else (.badService, s)

/-- A SERVICE card is executed by its code (Table 12-1, R171). -/
def runService (c : ServiceCard) (s : State) : Answer :=
  match c.code with
  | 0 => svcSetTimers c.scan c.drain s
  | 1 => svcSetLimits c.soft c.hard s
  | 2 => if c.bay = 255 then svcDesignateNone s else onBay c.bay svcDesignate s
  | 3 => onBay c.bay svcReinstate s
  | 4 => onBay c.bay svcResetBay s
  | 5 => svcResume s
  | 6 => svcClearFaults s
  | 7 => svcCalibrate s
  | _ => (.badService, s)

/-- The writes that answer a service card (R171, R164). -/
def answerCard (base : Nat) (i : Fin 64) (r : Reason) : Thread :=
  match r with
  | .none => finishCard base i .ok .none 0 0
  | reason => refuseCard base i reason

/-- The board whose cards are being acted on: that of the scan under way, else the one at the board address (R163). -/
def State.cardBase (s : State) : Nat :=
  match s.board.scan with
  | some c => c.base
  | none => s.boardAddr

/-- A service command: it is executed, and its answer is written to its card, also where a job slot holds the card's index, which in a scan is
step 3 of R169 (DESIGN CHOICE, row 73). -/
def serve (i : Fin 64) (f : State → Answer) (s : State) : State :=
  startThread (answerCard s.cardBase i (f s).1) (f s).2

/-! ### COPY cards (R170, R20) -/

/-- The starvation policy of a card (Table 12-1). -/
def starvationOf (policy limit : Nat) : Option Starvation :=
  match policy with
  | 0 => some (.link limit)
  | 1 => some .abandon
  | _ => none

/-- An image the tests of BAD_IMAGE refuse. -/
def badImage (c : CopyCard) : Bool :=
  c.totalSectors = 0 || 16777216 < c.totalSectors || c.extentCount = 0 || c.speed = 0 || 16 < c.speed
    || 1 < c.policy || 15 < c.linkLimit

/-- An address that is no multiple of 4; the band table's is tested for a labelled job only. -/
def badAlign (c : CopyCard) : Bool :=
  c.extentTable % 4 != 0 || c.signatureTable % 4 != 0 || c.reportArea % 4 != 0
    || (c.bandCount != 0 && c.bandTable % 4 != 0)

/-- The first failing test of R170, `none` where the card passes. -/
def refusal (c : CopyCard) (s : State) : Reason :=
  if c.copies = 0 ∨ 9999 < c.copies then .badCopies
  else if mediaClassOf c.mediaClass = none then .badClass
  else if c.mask = 0 ∨ 4095 < c.mask.toNat then .badMask
  else if badImage c then .badImage
  else if badAlign c then .badAlign
  else if 64 < c.bandCount then .badLabel
  else if s.tower.state = TowerState.uncalibrated then Reason.uncalibrated
  else .none

/-- The job an accepted card becomes (R20). The class and the policy have passed their tests. -/
def newJob (i : Fin 64) (c : CopyCard) : Job :=
  { cardIndex := i, ticket := c.ticket, priority := c.priority, copies := c.copies, maxRejects := c.maxRejects
    mediaClass := (mediaClassOf c.mediaClass).getD .cd, mask := c.mask.truncate 12, speed := c.speed
    starvation := (starvationOf c.policy c.linkLimit).getD .abandon, verify := c.verify != 0
    totalSectors := c.totalSectors, groups := (c.totalSectors + 15) / 16, extentTable := c.extentTable
    extentCount := c.extentCount, signatureTable := c.signatureTable, bandTable := c.bandTable
    bandCount := c.bandCount, reportArea := c.reportArea, state := .active, good := 0, reject := 0, inFlight := 0
    nextOrdinal := 1, frontier := 0, openEntries := [], outcome := none, failCause := .none }

/-- The FREE slot of lowest number (R20). -/
def State.freeJobSlot (s : State) : Option SlotNo := Config.allSlots.find? fun j => (s.job j).isNone

/-- The slot that holds a card index (R169). -/
def State.slotOfCard (s : State) (i : Fin 64) : Option SlotNo :=
  Config.allSlots.find? fun j => (s.job j).map (·.cardIndex) == some i

/-- A card that has passed its tests: accepted while a slot is FREE, else left POSTED (R170). The writes and the state after. -/
def acceptCard (base : Nat) (i : Fin 64) (c : CopyCard) (s : State) : Thread × State :=
  match s.freeJobSlot with
  | some j => (takeCard base i, triggerRound (s.setJob j (some (newJob i c))))
  | none => ([], s)

/-- A POSTED COPY card on its own (R170). A card whose index a slot holds is written TAKEN again (R169 step 3). -/
def copyOne (base : Nat) (i : Fin 64) (c : CopyCard) (s : State) : Thread × State :=
  if (s.slotOfCard i).isSome then (retakeCard base i, s)
  else
    match refusal c s with
    | .none => acceptCard base i c s
    | reason => (refuseCard base i reason, s)

/-- The COPY_CARD command. -/
def copyCommand (i : Fin 64) (c : CopyCard) (s : State) : State :=
  startThread (copyOne s.cardBase i c s).1 (copyOne s.cardBase i c s).2

end Sys2Proof.Machine
end

