-- ==== Sys2Proof/Machine/Settle.lean ====
section
/-! DEFINITION. What comes about inside an event: the acts of a snapshot, the steps of blocks that may wait for room, and the rules
that act in the first event that allows them, run until none can act. -/

namespace Sys2Proof.Machine

/-! ### The acts of a snapshot (R169) -/

/-- Insert by a key, before the first larger one. -/
def insertBy {α : Type} (key : α → Nat) (x : α) : List α → List α
  | [] => [x]
  | y :: t => if key x < key y then x :: y :: t else y :: insertBy key x t

/-- Sort by a key; equal keys keep their order. -/
def sortBy {α : Type} (key : α → Nat) (l : List α) : List α := l.foldl (fun acc x => insertBy key x acc) []

/-- The acts of classes 1 to 4 for one card (R169); the first class that fits. -/
def State.cardAct (s : State) (c : Card) : Nat × Option ScanAct :=
  if c.state = cardTaken then
    match s.slotOfCard c.index with
    | some j => (1, if c.cancel then some (.cancelJob j) else none)
    | none => (2, some (.orphan c.index c.good c.reject))
  else if c.state = 1 then
    match s.slotOfCard c.index with
    | some _ => (3, some (.retake c.index))
    | none =>
      if c.cancel then (4, some (.cancelPosted c.index))
      else if c.kind = 2 then (6, none)
      else if c.kind = 1 then (7, none)
      else (5, some (.badKind c.index))
  else (8, none)

/-- The acts of one class, in card-index order: R169 gives that order for the cards of unknown kind alone, and the model takes it for the
TAKEN cards, the orphans, the cards written TAKEN again and the cancelled POSTED cards too (DESIGN CHOICE, row 61). -/
def State.classActs (s : State) (cards : List Card) (n : Nat) : List ScanAct :=
  cards.filterMap fun c => if (s.cardAct c).1 = n then (s.cardAct c).2 else none

/-- The cards of one class. -/
def State.classCards (s : State) (cards : List Card) (n : Nat) : List Card := cards.filter fun c => (s.cardAct c).1 == n

/-- Everything a complete snapshot is acted on with, in the order of R169. -/
def State.scanActs (s : State) (cards : List Card) : List ScanAct :=
  s.classActs cards 1 ++ s.classActs cards 2 ++ s.classActs cards 3 ++ s.classActs cards 4 ++ s.classActs cards 5
    ++ ((sortBy (fun c : Card => c.copy.ticket * 64 + c.index.val) (s.classCards cards 6)).map
          fun c => .service c.index c.service)
    ++ [.copies ((s.classCards cards 7).map fun c => (c.index, c.copy))]

/-- The snapshot is complete, and the scan acts on it (R168, R169). -/
def snapshotEnds (s : State) : State :=
  match s.board.scan with
  | some { phase := .table r, base := base, statusAddr := addr, count := count } =>
    match r.data with
    | some bytes =>
      startThread [.nextAct] (setScan (some { base := base, statusAddr := addr, count := count,
                                              phase := .acting (s.scanActs (parseTable bytes count)) }) s)
    | none => s
  | _ => s

/-- The ranking of COPY cards that pass: priority 3 first, then lower ticket, then lower index (R170). -/
def rankKey (c : Fin 64 × CopyCard) : Nat := ((3 - c.2.priority) * 2 ^ 32 + c.2.ticket) * 64 + c.1.val

/-- One act of a scan: the writes it makes, in order, the acts it adds in front, and the state after (R169, R170). Of the COPY cards, those
that fail are written REFUSED in card-index order, all before the first of the others is accepted: R170 ranks only the cards that pass
(DESIGN CHOICE, row 61). -/
def runAct (base : Nat) (a : ScanAct) (s : State) : Thread × List ScanAct × State :=
  match a with
  | .cancelJob j => ([], [], stopJob j .cancelled .cancelled .cancelled s)
  | .orphan i good reject => (finishCard base i .abandoned .none good reject, [], s)
  | .retake i => (retakeCard base i, [], s)
  | .cancelPosted i => (finishCard base i .cancelled .none 0 0, [], s)
  | .badKind i => (refuseCard base i .badKind, [], s)
  | .service i c => (answerCard base i (runService c s).1, [], (runService c s).2)
  | .copies cards =>
    (cards.flatMap fun c => match refusal c.2 s with | .none => [] | reason => refuseCard base c.1 reason,
     (sortBy rankKey (cards.filter fun c => refusal c.2 s == .none)).map fun c => .accept c.1 c.2, s)
  | .accept i c => ((acceptCard base i c s).1, [], (acceptCard base i c s).2)

/-- The scan's next act, or its end (R167, R169). -/
def nextAct (s : State) : Thread × State :=
  match s.board.scan with
  | some { phase := .acting (a :: rest), base := base, statusAddr := addr, count := count } =>
    let (writes, more, s1) := runAct base a
      (setScan (some { base := base, statusAddr := addr, count := count, phase := .acting rest }) s)
    let s2 := match s1.board.scan with
      | some c => setScan (some { c with phase := .acting (more ++ rest) }) s1
      | none => s1
    (writes ++ [.nextAct], s2)
  | some { phase := .acting [], .. } => ([.endScan true], s)
  | _ => ([], s)

/-! ### Steps that may wait for room (R96) -/

/-- A step that puts a write in the posted write queue. -/
def Todo.needsRoom : Todo → Bool
  | .write _ | .tally _ | .progress _ | .signature _ _ | .status => true
  | .counted _ | .decide _ | .freeDocket _ | .freeSlot _ | .nextAct | .endScan _ | .nextScan => false

/-- The tally write of the board at `base` (R164). -/
def writeTally (base : Nat) (s : State) : State :=
  let n := s.board.tally + 1
  raiseAttention .cardDone (post (plainWrite (base + 16) (le 4 n.toNat)) { s with board := { s.board with tally := n } })

/-- The progress rewrite of a job (R29). It goes to the board at the board address: of a job accepted by a scan of another board the spec
does not say which board is meant (DESIGN CHOICE, row 54). -/
def writeProgress (j : SlotNo) (s : State) : State :=
  match s.job j with
  | some job => post (plainWrite (cardAddr s.boardAddr job.cardIndex + 116) (le 2 job.good ++ le 2 job.reject)) s
  | none => s

/-- A landing is counted (R22): good where the disc landed in the good bin. -/
def countDocket (d : DocketNo) (s : State) : State :=
  match s.docket d with
  | some r => s.updJob r.slot fun j => j.countLanding (r.outputBin == some .good)
  | none => s

/-- The held signature write of a burn channel is queued (R96). -/
def writeHeld (b : BayNo) (g : Nat) (s : State) : State :=
  match s.burnJob b with
  | some (c, j) =>
    match c.held.find? fun h => h.1 == g with
    | some h =>
      post (signatureWrite j g h.2) (setChannel b (.burn { c with held := c.held.filter fun x => x.1 != g }) s)
    | none => s
  | none => s

/-- A slot is freed, which requests a scan (R28, R167). Of a job that ends with no scan under way R167 lists the entry into ENDED as a request
too; the model makes this one request for both (DESIGN CHOICE, row 72). -/
def freeSlot (j : SlotNo) (s : State) : State := requestScan (s.setJob j none)

/-- One step of a block's rule: the steps it puts before the rest, and the state after. At the end of a scan the status rewrite of R172 is
queued first and the final writes of the ENDED jobs after it, being the last acts of the scan (R28) (DEDUCED, row 30). -/
def runTodo (x : Todo) (s : State) : Thread × State :=
  match x with
  | .write w => ([], post w s)
  | .tally base => ([], writeTally base s)
  | .progress j => ([], writeProgress j s)
  | .counted d => ([], countDocket d s)
  | .decide j => ([], decideLanding j s)
  | .freeDocket d => ([], triggerRound (s.setDocket d none))
  | .freeSlot j => ([], freeSlot j s)
  | .signature b g => ([], writeHeld b g s)
  | .status => ([], queueStatus s)
  | .nextAct => nextAct s
  | .endScan complete =>
    let s1 := match s.board.scan with
      | some c => if complete then adoptStatus c s else s
      | none => s
    (s1.finalWrites ++ [.nextScan], s1)
  | .nextScan => if s.finalWrites = [] then ([], nextScan s) else (s.finalWrites ++ [.nextScan], s)

/-- Write the blocks at work. -/
def setAgenda (l : List Thread) (s : State) : State := { s with engine := { s.engine with agenda := l } }

/-- Write the blocks waiting for room. -/
def setWaiting (l : List Thread) (s : State) : State := { s with engine := { s.engine with waiting := l } }

/-- Room has appeared: the block that has waited longest takes it, and goes on with the steps after its write (R96). -/
def roomStep (s : State) : Option State :=
  match s.engine.waiting with
  | [] => none
  | [] :: rest => some (setWaiting rest s)
  | (x :: more) :: rest =>
    if s.room then
      let (extra, s1) := runTodo x (setWaiting rest s)
      some (setAgenda (s1.engine.agenda ++ [extra ++ more]) s1)
    else none

/-- The block at work takes its next step, or begins to wait for room (R96). -/
def threadStep (s : State) : Option State :=
  match s.engine.agenda with
  | [] => none
  | [] :: rest => some (setAgenda rest s)
  | (x :: more) :: rest =>
    let s0 := setAgenda rest s
    if x.needsRoom ∧ s.room = false then some (waitForRoom (x :: more) s0)
    else
      let (extra, s1) := runTodo x s0
      some (setAgenda ((extra ++ more) :: s1.engine.agenda) s1)

/-! ### The rules that act in the first event that allows them -/

/-- The first bay, in increasing number, whose rule can act. -/
def bayRule (f : BayNo → State → Option State) (s : State) : Option State := Config.allBays.findSome? fun b => f b s

/-- The reject hand-off of a bay (R8). -/
def handOffRule (b : BayNo) (s : State) : Option State := (s.handOffDue b).map fun d => handOff b d s

/-- The rules, in the order in which they are tried (row 3). -/
def rules : List (State → Option State) :=
  [roomStep, threadStep, offerPage, bayRule completeGroup, bayRule makeCompare, bayRule sendGroup, bayRule handOffRule,
   bayRule advanceExtent, bayRule presentExtent, bayRule presentCompare, bayRule cutPiece, bayRule askBurnPage,
   bayRule issueRead, bayRule presentBlock, presentBand, startCarriage, presentBoard, cutBurst, grantFetch,
   endDiscovering, sweepStep, printerEmpties, armStep, grant]

/-- The first rule that can act, acting. -/
def settleStep (s : State) : Option State := rules.findSome? fun r => r s

/-- Rules act until none can, or `fuel` acts have been made. -/
def settle : Nat → State → State
  | 0, s => s
  | fuel + 1, s =>
    match settleStep s with
    | some s' => settle fuel s'
    | none => s

/-- The acts one event may hold. More than any event brings about (row 3). -/
def settleFuel : Nat := 10000

/-- The event runs to its end, and the next event has the next number (R101). -/
def conclude (s : State) : State :=
  let s1 := settle settleFuel s
  { s1 with event := s1.event + 1 }

end Sys2Proof.Machine
end

