-- ==== Sys2Proof/Machine/Memory.lean ====
section
/-! DEFINITION. The events of the host-memory engine: fetches that end, requests that age, posted writes that are issued or fail
(R94 to R98, R103, R104, R172), and the drain of the health unit (R141). -/

namespace Sys2Proof.Machine

/-- The bay a line belongs to. -/
def lineBay : LineId → Option BayNo
  | .image b => some b
  | .extent b => some b
  | .compare b => some b
  | .print => none
  | .board => none

/-- The docket of a channel. -/
def Channel.docket : Channel → Option DocketNo
  | .closed => none
  | .burn c => some c.docket
  | .verify c => some c.docket

/-- A fetch slot is freed (R94). -/
def freeFetch (k : FetchNo) (s : State) : State :=
  { s with engine := { s.engine with slots := s.engine.slots.set k none } }

/-- The fetch outstanding in a slot. -/
def State.fetch (s : State) (k : FetchNo) : Option Fetch := s.engine.slots.get k

/-- Image data arrives (R109). -/
def arriveImage (b : BayNo) (g off : Nat) (data : List Byte) (s : State) : State :=
  match s.burnOf b with
  | some c => setChannel b (.burn (c.placeImage g off data)) s
  | none => s

/-- The data of a fetch that is not orphaned is placed in its target (R95). A stale one goes no further (R159). -/
def deliver (f : Fetch) (data : List Byte) (s : State) : State :=
  match f.line, f.target with
  | .image b, .image g off => arriveImage b g off data s
  | .extent b, .extent i off => arriveExtent b i off data s
  | .compare b, .compare g => arriveCompare b g data s
  | .compare b, .block n off => arriveBlock b n off data s
  | .print, .band part off => if f.stale then s else arriveBand part off data s
  | .board, .board off => arriveBoard off data s
  | _, _ => s

/-- An outstanding fetch completes with all its data (R95). Data that is not the whole of the fetch completes nothing. -/
def fetchEnds (k : FetchNo) (data : List Byte) (s : State) : State :=
  match s.fetch k with
  | none => s
  | some f =>
    if data.length = f.len then
      if f.orphan then freeFetch k s else deliver f data (freeFetch k s)
    else s

/-- A trailing compare whose fetch has failed ends, and its entry leaves the list (R114, R115). -/
def endCompare (b : BayNo) (target : Target) (s : State) : State :=
  match target, s.burnOf b with
  | .compare g, some c => setChannel b (.burn { c with compares := c.compares.filter fun e => e.group != g }) s
  | _, _ => s

/-- What the requester of a failed fetch does (table of R104). -/
def requesterFails (f : Fetch) (s : State) : State :=
  match f.line with
  | .print => if f.stale then s else abortPrint .printStarved none s
  | .board => abandonScan s
  | .image b => burnFails b s
  | .extent b => burnFails b s
  | .compare b => burnFails b (endCompare b f.target s)
where
  /-- A burn channel's docket fails its job with HOST_READ; a verify channel's docket is given the cause. -/
  burnFails (b : BayNo) (s : State) : State :=
    match (s.bay b).channel with
    | .burn c => failJob c.docket .hostRead s
    | .verify c => giveCause true c.docket .hostRead s
    | .closed => s

/-- An outstanding fetch fails (R95, R104). -/
def fetchFails (code : FaultCode) (k : FetchNo) (s : State) : State :=
  match s.fetch k with
  | none => s
  | some f =>
    let s1 := freeFetch k s
    if f.orphan then s1
    else
      let bay := lineBay f.line
      requesterFails f (reportFault code bay (bay.bind fun b => (s1.bay b).channel.docket) s1)

/-- The presented request of an ageing line reaches 100 ms (R103). -/
def ageLine (id : LineId) (s : State) : State :=
  match s.line id with
  | some r => if lineAges id then setLine id (some { r with aged := true, ageTimer := none }) s else s
  | none => s

/-- The pieces in which a run of bytes is issued: two where it crosses a 4 KiB boundary, the lower first (R96). -/
def issuePieces (addr : Nat) (bytes : List Byte) : List (Nat × List Byte) :=
  let n := 4096 - addr % 4096
  if bytes.length ≤ n then [(addr, bytes)] else [(addr, bytes.take n), (addr + n, bytes.drop n)]

/-- A run of bytes leaves for host memory. -/
def issueBytes (addr : Nat) (bytes : List Byte) (s : State) : State :=
  (issuePieces addr bytes).foldl (fun u p => emit (.hostWrite p.1 p.2) u) s

/-- The generation count is raised by 1 and its piece issued (R172). -/
def issueGeneration (addr : Nat) (s : State) : State :=
  let n := s.board.generation + 1
  issueBytes addr (le 4 n.toNat) { s with board := { s.board with generation := n } }

/-- A status block rewrite is issued as its three pieces, and STATUS_NEW is set (R172). -/
def issueStatus (addr : Nat) (s : State) : State :=
  let s1 := issueGeneration addr s
  let s2 := issueBytes (addr + 4) (statusBody s1) s1
  raiseAttention .statusNew (issueGeneration addr s2)

/-- The oldest posted write is issued, and its place is free (R96). -/
def issueOldest (s : State) : State :=
  match s.engine.posted with
  | [] => s
  | w :: rest =>
    let s1 := { s with engine := { s.engine with posted := rest, issued := s.engine.issued ++ [w] } }
    match w.data with
    | .bytes l => issueBytes w.addr l s1
    | .fields codes counts => issueBytes (w.addr + 4) counts (issueBytes w.addr codes s1)
    | .status => issueStatus w.addr s1

/-- The host link reports the n-th of the issued writes as failed (R98); the write is not repeated. -/
def writeFails (n : Nat) (s : State) : State :=
  match s.engine.issued[n]? with
  | some w =>
    reportFault .writeError none w.docket { s with engine := { s.engine with issued := s.engine.issued.eraseIdx n } }
  | none => s

/-- A bay's counters after a drain expiry; a RETIRED bay's are frozen (R141). -/
def Bay.drained (r : Bay) : Bay :=
  if r.state = .retired then r else { r with soft := r.soft - 1, hard := r.hard - 1 }

/-- A counter changes at this drain expiry. -/
def Bay.drains (r : Bay) : Bool := r.state != .retired && (r.soft != 0 || r.hard != 0)

/-- The drain timer expires: it starts again, and the counters fall, reported together (R141, R136). -/
def drain (s : State) : State :=
  match s.health.drainTimer with
  | none => s
  | some _ =>
    let s1 := startDrain { s with bays := s.bays.map Bay.drained }
    if Config.allBays.any fun b => (s.bay b).drains then reportStatus s1 else s1

end Sys2Proof.Machine
end

