-- ==== Sys2Proof/Machine/Rounds.lean ====
section
/-! DEFINITION. The dispatch round (R36 to R42). -/

namespace Sys2Proof.Machine

/-- The demand of a job (R23). -/
def Job.demand (j : Job) : Nat := j.copies - j.good - j.inFlight

/-- A job is eligible for an idle bay of logical number `n` (R39). -/
def jobEligible (j : Job) (r : Bay) (n : BayNo) : Bool :=
  j.state == .active && decide (0 < j.demand) && decide (j.reject ≤ j.maxRejects)
    && (match r.drive with | some d => hasClass d.classes j.mediaClass | none => false)
    && j.mask.getLsbD n.val

/-- The order in which eligible jobs are tried: priority, then ticket, then slot (R39). -/
def jobKey (p : SlotNo × Job) : Nat := ((3 - p.2.priority) * 2 ^ 32 + p.2.ticket) * 8 + p.1.val

/-- The eligible jobs of a bay, in the order in which they are tried. -/
def State.candidates (s : State) (r : Bay) (n : BayNo) : List (SlotNo × Job) :=
  sortBy jobKey (Config.allSlots.filterMap fun k =>
    match s.job k with
    | some j => if jobEligible j r n then some (k, j) else none
    | none => none)

/-- The input bin for a media class: A before B, LOADED and of that class (R40). -/
def State.binFor (s : State) (cls : MediaClass) : Option InputBin :=
  if s.bins.a.state = .loaded ∧ s.bins.a.cls = cls then some .a
  else if s.bins.b.state = .loaded ∧ s.bins.b.cls = cls then some .b
  else none

/-- The pairing of a bay: the first candidate for which a bin can be chosen (R39, R40). -/
def State.pairing (s : State) (r : Bay) (n : BayNo) : Option (SlotNo × Job × InputBin) :=
  (s.candidates r n).findSome? fun p => (s.binFor p.2.mediaClass).map fun i => (p.1, p.2, i)

/-- A docket is created for a pairing (R41). -/
def createDocket (d : DocketNo) (k : SlotNo) (j : Job) (i : InputBin) (b n : BayNo) (s : State) : State :=
  let s1 := s.setDocket d (some (newDocket k j i b n))
  let s2 := setBayState b .reserved (s1.setBay b { s1.bay b with docket := some d })
  let s3 := s2.setJob k (some { j with inFlight := j.inFlight + 1 })
  queueTask d .load (.input i) (.bay b) s3

/-- A bay is idle for the dispatcher (R38). -/
def Bay.idle (r : Bay) : Bool := r.state == .idle && !r.failing

/-- The round considers a logical number (R38 to R41). With no free docket nothing is created for this bay or any later one, as
the end of the round has it (R41). -/
def considerBay (n : BayNo) (s : State) : State :=
  match s.bayOfLogical n with
  | none => s
  | some b =>
    if (s.bay b).idle then
      match s.pairing (s.bay b) n, s.freeDocket with
      | some (k, j, i), some d => createDocket d k j i b n s
      | _, _ => s
    else s

/-- A round may be run (R36). -/
def State.mayDispatch (s : State) : Bool := (s.tower.state == .running || s.tower.state == .halted) && s.regs.run

/-- A dispatch round that has been started is run (R36, R38). -/
def dispatchRound (s : State) : State :=
  if s.roundDue then
    let s1 := { s with roundDue := false }
    if s.mayDispatch then Config.allBays.foldl (fun u n => considerBay n u) s1 else s1
  else s

end Sys2Proof.Machine
end

