-- ==== Sys2Proof/Machine/ExecHost.lean ====
section
/-! DEFINITION. The meanings of the power, reset, register, scan and dispatch commands. -/

namespace Sys2Proof.Machine

/-- What a command answers. -/
abbrev Result := Host.Outcome State Fault Refusal

/-- POWER_UP (R176). -/
def execPowerUp (s : State) : Result := .next (powerUp s)

/-- CONFIG_LOAD_END (R176, R177, R181). -/
def execConfigLoadEnd (mem : ConfigRead) (s : State) : Result := .next (conclude (configEnds mem s))

/-- TOWER_RESET (R180, R165). -/
def execTowerReset (s : State) : Result := .next (conclude (towerReset s))

/-- LINK_RESET (R180). -/
def execLinkReset (s : State) : Result := .next (conclude (linkReset s))

/-- RUN (R37): going from clear to set starts a round. -/
def execRun (on : Bool) (s : State) : Result :=
  let s1 := { s with regs := { s.regs with run := on } }
  .next (if on && !s.regs.run then triggerRound s1 else s1)

/-- A cause is set. -/
def Regs.anyAttention (r : Regs) : Bool := r.cardDone || r.statusNew || r.halted

/-- IRQ_EN (R166): the write that sets it while a cause is set sends one MSI. -/
def execIrqEn (on : Bool) (s : State) : Result :=
  let s1 := { s with regs := { s.regs with irqEn := on } }
  .next (if on && !s.regs.irqEn && s.regs.anyAttention then emit .msi s1 else s1)

/-- BOARD_LOW (R163): ignored while a slot is not FREE; the two lowest bits read as 0. -/
def execBoardLow (value : BitVec 32) (s : State) : Result :=
  .next (if s.occupied = 0 then { s with regs := { s.regs with boardLow := value &&& 0xFFFFFFFC#32 } } else s)

/-- BOARD_HIGH (R163): ignored while a slot is not FREE. -/
def execBoardHigh (value : BitVec 32) (s : State) : Result :=
  .next (if s.occupied = 0 then { s with regs := { s.regs with boardHigh := value } } else s)

/-- SCAN (R165, R167): any value requests a scan. -/
def execScan (_value : BitVec 32) (s : State) : Result := .next (conclude (requestScan s))

/-- ATTENTION_CLEAR (R166): a written 1 clears its cause (section 12.2). -/
def execAttentionClear (value : BitVec 32) (s : State) : Result :=
  .next { s with regs := { s.regs with
    cardDone := s.regs.cardDone && !value.getLsbD 0
    statusNew := s.regs.statusNew && !value.getLsbD 1
    halted := s.regs.halted && !value.getLsbD 2 } }

/-- REGISTER_WRITE_OTHER (R165, section 12.2): ignored. -/
def execRegisterWriteOther (_offset : Nat) (_value : BitVec 32) (s : State) : Result := .next s

/-- SCAN_TIMER_EXPIRY (R167). -/
def execScanTimerExpiry (s : State) : Result := .next (conclude (scanTimerEnds s))

/-- SNAPSHOT_COMPLETE (R168, R169). -/
def execSnapshotComplete (s : State) : Result := .next (conclude (snapshotEnds s))

/-- DISPATCH_ROUND (R36, R38). -/
def execDispatchRound (s : State) : Result := .next (conclude (dispatchRound s))

end Sys2Proof.Machine
end

