-- ==== Sys2Proof/Machine/ExecBays.lean ====
section
/-! DEFINITION. The meanings of the bay link messages and the request timeouts. -/

namespace Sys2Proof.Machine

/-- BAD_FRAME (R68): the frame is discarded and counted. -/
def execBadFrame (bay : BayNo) (s : State) : Result := .next (linkError bay s)

/-- IDENTITY (R73). -/
def execIdentity (bay : BayNo) (classes : DriveClasses) (maxSpeed maxCredits : Nat) (linkCapable : Bool) (s : State) : Result :=
  .next (conclude (onIdentity bay (clampDrive classes maxSpeed maxCredits linkCapable) s))

/-- TRAY_DONE open (R75, R86). -/
def execTrayDoneOpen (bay : BayNo) (s : State) : Result := .next (conclude (onTrayOpen bay s))

/-- TRAY_DONE closed (R76). -/
def execTrayDoneClosed (bay : BayNo) (s : State) : Result := .next (conclude (onTrayClosed bay s))

/-- MEDIA (R78, R85, R178). -/
def execMedia (bay : BayNo) (kind : MediaKind) (cls : MediaClass) (capacity : Nat) (s : State) : Result :=
  .next (conclude (onMedia bay kind cls capacity s))

/-- CREDIT (R80). -/
def execCredit (bay : BayNo) (n : Nat) (s : State) : Result := .next (conclude (onCredit bay n s))

/-- WRITTEN (R81, R119). -/
def execWritten (bay : BayNo) (group : Nat) (s : State) : Result := .next (conclude (onWritten bay group s))

/-- STARVED linked (R120). -/
def execStarvedLinked (bay : BayNo) (s : State) : Result := .next (conclude (onStarvedLinked bay s))

/-- STARVED failed (R121). -/
def execStarvedFailed (bay : BayNo) (s : State) : Result := .next (conclude (onStarvedFailed bay s))

/-- CLOSED (R81, R119). -/
def execClosed (bay : BayNo) (s : State) : Result := .next (conclude (onClosed bay s))

/-- READ_DATA (R126). -/
def execReadData (bay : BayNo) (group : Nat) (data : List Byte) (s : State) : Result :=
  .next (conclude (onReadData bay group data s))

/-- READ_FAIL (R129). -/
def execReadFail (bay : BayNo) (group : Nat) (s : State) : Result := .next (conclude (onReadFail bay group s))

/-- FAULT (R83); the drive's code is not acted on. -/
def execFault (bay : BayNo) (_code : Nat) (s : State) : Result := .next (conclude (onFault bay s))

/-- HALTED (R82). -/
def execHalted (bay : BayNo) (s : State) : Result := .next (conclude (onHalted bay s))

/-- RESET_DONE (R85). -/
def execResetDone (bay : BayNo) (s : State) : Result := .next (conclude (onResetDone bay s))

/-- REQUEST_TIMEOUT (R71). -/
def execRequestTimeout (bay : BayNo) (req : Request) (s : State) : Result := .next (conclude (onTimeout bay req s))

end Sys2Proof.Machine
end

