-- ==== Sys2Proof/Machine/ExecCards.lean ====
section
/-! DEFINITION. The meanings of the card commands. -/

namespace Sys2Proof.Machine

/-- COPY_CARD (R170, R20). -/
def execCopyCard (index : Fin 64) (card : CopyCard) (s : State) : Result := .next (conclude (copyCommand index card s))

/-- SET_TIMERS (R171, R167, R141). -/
def execSetTimers (index : Fin 64) (scan drain : Option Nat) (s : State) : Result :=
  .next (conclude (serve index (svcSetTimers scan drain) s))

/-- SET_LIMITS (R142). -/
def execSetLimits (index : Fin 64) (soft hard : Nat) (s : State) : Result :=
  .next (conclude (serve index (svcSetLimits soft hard) s))

/-- DESIGNATE_SPARE naming a bay (R143). -/
def execDesignateSpare (index : Fin 64) (bay : Nat) (s : State) : Result :=
  .next (conclude (serve index (onBay bay svcDesignate) s))

/-- DESIGNATE_SPARE naming no bay (R144). -/
def execDesignateSpareNone (index : Fin 64) (s : State) : Result := .next (conclude (serve index svcDesignateNone s))

/-- REINSTATE_BAY (R145). -/
def execReinstateBay (index : Fin 64) (bay : Nat) (s : State) : Result :=
  .next (conclude (serve index (onBay bay svcReinstate) s))

/-- RESET_BAY (R87). -/
def execResetBay (index : Fin 64) (bay : Nat) (s : State) : Result :=
  .next (conclude (serve index (onBay bay svcResetBay) s))

/-- RESUME_TRANSPORT (R66). -/
def execResumeTransport (index : Fin 64) (s : State) : Result := .next (conclude (serve index svcResume s))

/-- CLEAR_FAULTS (R173). -/
def execClearFaults (index : Fin 64) (s : State) : Result := .next (conclude (serve index svcClearFaults s))

/-- CALIBRATE (R171, R181). -/
def execCalibrate (index : Fin 64) (s : State) : Result := .next (conclude (serve index svcCalibrate s))

end Sys2Proof.Machine
end

