-- ==== Sys2Proof/Machine/ExecMemory.lean ====
section
/-! DEFINITION. The meanings of the host-memory events and of the drain. -/

namespace Sys2Proof.Machine

/-- FETCH_COMPLETE (R95). -/
def execFetchComplete (slot : FetchNo) (data : List Byte) (s : State) : Result := .next (conclude (fetchEnds slot data s))

/-- FETCH_ERROR (R95, R104). -/
def execFetchError (slot : FetchNo) (s : State) : Result := .next (conclude (fetchFails .readError slot s))

/-- FETCH_TIMEOUT (R95, R104). -/
def execFetchTimeout (slot : FetchNo) (s : State) : Result := .next (conclude (fetchFails .readTimeout slot s))

/-- FETCH_LATE_DATA (R95): the slot was already freed, and what arrives is discarded. -/
def execFetchLateData (_slot : FetchNo) (s : State) : Result := .next s

/-- REQUEST_AGED (R103). -/
def execRequestAged (line : LineId) (s : State) : Result := .next (conclude (ageLine line s))

/-- POSTED_WRITE_ISSUE (R96, R172). -/
def execPostedWriteIssue (s : State) : Result := .next (conclude (issueOldest s))

/-- POSTED_WRITE_FAILED (R98): the n-th of the writes issued and not yet reported, from 0. -/
def execPostedWriteFailed (n : Nat) (s : State) : Result := .next (conclude (writeFails n s))

/-- DRAIN_TIMER_EXPIRY (R141). -/
def execDrainTimerExpiry (s : State) : Result := .next (conclude (drain s))

end Sys2Proof.Machine
end

