-- ==== Sys2Proof/Machine/ExecPrint.lean ====
section
/-! DEFINITION. The meanings of the print engine's events. -/

namespace Sys2Proof.Machine

/-- CLAMP_TIMER_EXPIRY (R148): the 300 ms of the clamp end, and SPINUP begins. -/
def execClampTimerExpiry (s : State) : Result :=
  if s.printer.clampTimer.isSome ∧ s.printer.state = .seating then .next (conclude (enterSpinup s)) else .next s

/-- SPINDLE_EDGE (R149, R154, R155). -/
def execSpindleEdge (time : PrintTime) (s : State) : Result := .next (conclude (onEdge time s))

/-- SPINDLE_INDEX (R149, R150, R153, R157). -/
def execSpindleIndex (time : PrintTime) (s : State) : Result := .next (conclude (onIndex time s))

/-- MISSING_EDGE (R149): 50,000 ticks after the latest edge or index. -/
def execMissingEdge (s : State) : Result :=
  if s.printer.edgeTime.isSome then .next (conclude (breach false s)) else .next s

/-- SPINUP_TIMEOUT (R150, R159). -/
def execSpinupTimeout (s : State) : Result :=
  if s.printer.spinupTimer.isSome then .next (conclude (abortPrint .printSpindle (some .spindle) s)) else .next s

/-- SETTLE_TIMEOUT (R150, R159). -/
def execSettleTimeout (s : State) : Result :=
  if s.printer.settleTimer.isSome then .next (conclude (abortPrint .printSpindle (some .spindle) s)) else .next s

/-- CARRIAGE_STEP (R152). -/
def execCarriageStep (s : State) : Result := .next (conclude (setPrinterRec (stepCarriage s.printer) s))

/-- DOT_FIRE (R156). -/
def execDotFire (lane : LaneNo) (s : State) : Result := .next (fireDot lane s)

/-- LANE_RECOVERY_END (R156). -/
def execLaneRecoveryEnd (lane : LaneNo) (s : State) : Result := .next (endRecovery lane s)

/-- SPINDLE_STOPPED (R160): 200 ms have passed without an edge or index, and the printer enters READY_OUT. -/
def execSpindleStopped (s : State) : Result :=
  if s.printer.quietTimer.isSome ∧ (s.printer.state = .spindown ∨ s.printer.state = .fault) then
    .next (conclude (setPrinter .readyOut { s with printer := { s.printer with spindownTimer := none, quietTimer := none } }))
  else .next s

/-- SPINDOWN_TIMEOUT (R160). -/
def execSpindownTimeout (s : State) : Result :=
  if s.printer.spindownTimer.isSome ∧ s.printer.state = .spindown then
    .next (conclude (reportFault .spindown none s.printer.docket
      (setPrinter .fault { s with printer := { s.printer with spindownTimer := none } })))
  else .next s

end Sys2Proof.Machine
end

