-- ==== Sys2Proof/Machine/ExecTransport.lean ====
section
/-! DEFINITION. The meanings of the transport's commands: sensors, lift, swing, gripper. -/

namespace Sys2Proof.Machine

/-- SENSOR_CHANGE (R44): the filtered value becomes `on`; a value that it has already is no change. -/
def execSensorChange (sensor : Sensor) (on : Bool) (s : State) : Result :=
  if s.sensor sensor = on then .next s else .next (conclude (changeSensor sensor on s))

/-- SENSOR_SAMPLE (R44): the fourth successive sample that differs from the filtered value changes it. -/
def execSensorSample (sensor : Sensor) (level : Bool) (s : State) : Result :=
  let f := s.filter sensor
  if level = f.on then .next (s.setFilter sensor { f with agree := 0 })
  else if f.agree + 1 < 4 then .next (s.setFilter sensor { f with agree := f.agree + 1 })
  else .next (conclude (changeSensor sensor level s))

/-- LIFT_ENCODER_EDGE (R45, R46). -/
def execLiftEncoderEdge (up : Bool) (s : State) : Result := .next (conclude (setLift (s.transport.lift.edge up) s))

/-- DUTY_UPDATE (R46). -/
def execDutyUpdate (s : State) : Result := .next (setLift (s.transport.lift.revise s.cal) s)

/-- SETTLE_EXPIRY (R47). -/
def execSettleExpiry (s : State) : Result := .next (conclude (settleLift s))

/-- STALL_TIMEOUT (R48). -/
def execStallTimeout (s : State) : Result :=
  if s.transport.lift.stallTimer.isSome ∧ s.transport.lift.duty ≠ 0 then .next (conclude (transportFault .jam s)) else .next s

/-- MOVE_TIMEOUT (R48). -/
def execMoveTimeout (s : State) : Result :=
  if s.transport.lift.moveTimer.isSome then .next (conclude (transportFault .jam s)) else .next s

/-- HOME_TRAVEL_LIMIT (R49): a homing step has made 2,000 or 210,000 counts of travel. -/
def execHomeTravelLimit (s : State) : Result :=
  if s.transport.lift.homeOverrun then .next (conclude (transportFault .home s)) else .next s

/-- HOME_TIMEOUT (R49): the 60 s of step 2. -/
def execHomeTimeout (s : State) : Result :=
  if s.transport.lift.homeTimer.isSome then .next (conclude (transportFault .home s)) else .next s

/-- SWING_TIMEOUT (R50). -/
def execSwingTimeout (s : State) : Result :=
  if s.transport.swingTimer.isSome then .next (conclude (transportFault .swing s)) else .next s

/-- GRIP_COMPLETE (R51). -/
def execGripComplete (s : State) : Result :=
  if s.transport.gripper = some .grip then .next (conclude (endGrip s)) else .next s

/-- RELEASE_COMPLETE (R51). -/
def execReleaseComplete (s : State) : Result :=
  if s.transport.gripper = some .release then .next (conclude (endRelease s)) else .next s

/-- PRINTER_PLACE_TIMEOUT (R56): tray-present has not come on within 500 ms of the release. -/
def execPrinterPlaceTimeout (s : State) : Result :=
  if s.transport.placeTimer.isSome ∧ s.transport.phase = .awaitTray then .next (conclude (dropFault (some .arm) s)) else .next s

end Sys2Proof.Machine
end

