-- ==== Sys2Proof/Machine/Dispatch.lean ====
section
/-! DEFINITION. One arm for each command. -/

namespace Sys2Proof.Machine

def exec (i : Instr) (s : State) : Host.Outcome State Fault Refusal :=
  match i with
  | .powerUp => Sys2Proof.Machine.execPowerUp s
  | .configLoadEnd mem => Sys2Proof.Machine.execConfigLoadEnd mem s
  | .towerReset => Sys2Proof.Machine.execTowerReset s
  | .linkReset => Sys2Proof.Machine.execLinkReset s
  | .run on => Sys2Proof.Machine.execRun on s
  | .irqEn on => Sys2Proof.Machine.execIrqEn on s
  | .boardLow value => Sys2Proof.Machine.execBoardLow value s
  | .boardHigh value => Sys2Proof.Machine.execBoardHigh value s
  | .scan value => Sys2Proof.Machine.execScan value s
  | .attentionClear value => Sys2Proof.Machine.execAttentionClear value s
  | .registerWriteOther offset value => Sys2Proof.Machine.execRegisterWriteOther offset value s
  | .scanTimerExpiry => Sys2Proof.Machine.execScanTimerExpiry s
  | .snapshotComplete => Sys2Proof.Machine.execSnapshotComplete s
  | .copyCard index card => Sys2Proof.Machine.execCopyCard index card s
  | .setTimers index scan drain => Sys2Proof.Machine.execSetTimers index scan drain s
  | .setLimits index soft hard => Sys2Proof.Machine.execSetLimits index soft hard s
  | .designateSpare index bay => Sys2Proof.Machine.execDesignateSpare index bay s
  | .designateSpareNone index => Sys2Proof.Machine.execDesignateSpareNone index s
  | .reinstateBay index bay => Sys2Proof.Machine.execReinstateBay index bay s
  | .resetBay index bay => Sys2Proof.Machine.execResetBay index bay s
  | .resumeTransport index => Sys2Proof.Machine.execResumeTransport index s
  | .clearFaults index => Sys2Proof.Machine.execClearFaults index s
  | .calibrate index => Sys2Proof.Machine.execCalibrate index s
  | .dispatchRound => Sys2Proof.Machine.execDispatchRound s
  | .sensorChange sensor on => Sys2Proof.Machine.execSensorChange sensor on s
  | .liftEncoderEdge up => Sys2Proof.Machine.execLiftEncoderEdge up s
  | .dutyUpdate => Sys2Proof.Machine.execDutyUpdate s
  | .settleExpiry => Sys2Proof.Machine.execSettleExpiry s
  | .stallTimeout => Sys2Proof.Machine.execStallTimeout s
  | .moveTimeout => Sys2Proof.Machine.execMoveTimeout s
  | .homeTravelLimit => Sys2Proof.Machine.execHomeTravelLimit s
  | .homeTimeout => Sys2Proof.Machine.execHomeTimeout s
  | .swingTimeout => Sys2Proof.Machine.execSwingTimeout s
  | .gripComplete => Sys2Proof.Machine.execGripComplete s
  | .releaseComplete => Sys2Proof.Machine.execReleaseComplete s
  | .printerPlaceTimeout => Sys2Proof.Machine.execPrinterPlaceTimeout s
  | .badFrame bay => Sys2Proof.Machine.execBadFrame bay s
  | .identity bay classes maxSpeed maxCredits linkCapable => Sys2Proof.Machine.execIdentity bay classes maxSpeed maxCredits linkCapable s
  | .trayDoneOpen bay => Sys2Proof.Machine.execTrayDoneOpen bay s
  | .trayDoneClosed bay => Sys2Proof.Machine.execTrayDoneClosed bay s
  | .media bay kind cls capacity => Sys2Proof.Machine.execMedia bay kind cls capacity s
  | .credit bay n => Sys2Proof.Machine.execCredit bay n s
  | .written bay group => Sys2Proof.Machine.execWritten bay group s
  | .starvedLinked bay => Sys2Proof.Machine.execStarvedLinked bay s
  | .starvedFailed bay => Sys2Proof.Machine.execStarvedFailed bay s
  | .closed bay => Sys2Proof.Machine.execClosed bay s
  | .readData bay group data => Sys2Proof.Machine.execReadData bay group data s
  | .readFail bay group => Sys2Proof.Machine.execReadFail bay group s
  | .fault bay code => Sys2Proof.Machine.execFault bay code s
  | .halted bay => Sys2Proof.Machine.execHalted bay s
  | .resetDone bay => Sys2Proof.Machine.execResetDone bay s
  | .requestTimeout bay req => Sys2Proof.Machine.execRequestTimeout bay req s
  | .fetchComplete slot data => Sys2Proof.Machine.execFetchComplete slot data s
  | .fetchError slot => Sys2Proof.Machine.execFetchError slot s
  | .fetchTimeout slot => Sys2Proof.Machine.execFetchTimeout slot s
  | .fetchLateData slot => Sys2Proof.Machine.execFetchLateData slot s
  | .requestAged line => Sys2Proof.Machine.execRequestAged line s
  | .postedWriteIssue => Sys2Proof.Machine.execPostedWriteIssue s
  | .postedWriteFailed n => Sys2Proof.Machine.execPostedWriteFailed n s
  | .drainTimerExpiry => Sys2Proof.Machine.execDrainTimerExpiry s
  | .clampTimerExpiry => Sys2Proof.Machine.execClampTimerExpiry s
  | .spindleEdge time => Sys2Proof.Machine.execSpindleEdge time s
  | .spindleIndex time => Sys2Proof.Machine.execSpindleIndex time s
  | .missingEdge => Sys2Proof.Machine.execMissingEdge s
  | .spinupTimeout => Sys2Proof.Machine.execSpinupTimeout s
  | .settleTimeout => Sys2Proof.Machine.execSettleTimeout s
  | .carriageStep => Sys2Proof.Machine.execCarriageStep s
  | .dotFire lane => Sys2Proof.Machine.execDotFire lane s
  | .laneRecoveryEnd lane => Sys2Proof.Machine.execLaneRecoveryEnd lane s
  | .spindleStopped => Sys2Proof.Machine.execSpindleStopped s
  | .spindownTimeout => Sys2Proof.Machine.execSpindownTimeout s
  | .sensorSample sensor level => Sys2Proof.Machine.execSensorSample sensor level s

end Sys2Proof.Machine
end

