-- ==== Sys2Proof/Safety.lean ====
section
/-! DEFINITION. What the rules promise of every state: the ranges the counts hold in, and the sizes of the queues. -/

namespace Sys2Proof.Machine

/-- The board address is a multiple of 4 (R163). -/
def State.boardAligned (s : State) : Prop := s.boardAddr % 4 = 0

/-- The posted write queue holds up to 32 writes (R96). -/
def State.postedBounded (s : State) : Prop := s.engine.posted.length ≤ 32

/-- Each fault count holds at 255 (R173). -/
def FaultRecord.bounded (f : FaultRecord) : Prop :=
  f.motion ≤ 255 ∧ f.bay ≤ 255 ∧ f.hostMemory ≤ 255 ∧ f.print ≤ 255 ∧ f.config ≤ 255

/-- The health counters of every bay stay within 0..15 (R138). -/
def State.healthBounded (s : State) : Prop := ∀ b : BayNo, (s.bay b).soft ≤ 15 ∧ (s.bay b).hard ≤ 15

/-- The link-error count of every bay holds at 65,535 (R68). -/
def State.linkErrorsBounded (s : State) : Prop := ∀ b : BayNo, (s.bay b).linkErrors ≤ 65535

/-- What every step keeps: the ranges above, together. -/
def State.withinBounds (s : State) : Prop :=
  s.boardAligned ∧ s.postedBounded ∧ s.faults.bounded ∧ s.healthBounded ∧ s.linkErrorsBounded

/-- Good count plus in-flight count of no job exceeds its copies (R23). -/
def State.demandKept (s : State) : Prop := ∀ (k : SlotNo) (j : Job), s.job k = some j → j.good + j.inFlight ≤ j.copies

/-- A logical number is held by at most one bay (R88). -/
def State.numbersDistinct (s : State) : Prop :=
  ∀ x y n : BayNo, (s.bay x).logical = some n → (s.bay y).logical = some n → x = y

/-- A list of outstanding requests holds at most one of each kind but GROUP and READ, and up to 8 GROUPs (R69). -/
def Bay.requestsBounded (r : Bay) : Prop :=
  (∀ q : Request, (∀ n, q ≠ .group n) → (∀ n, q ≠ .read n) → (r.reqs.filter fun o => o.req == q).length ≤ 1) ∧ r.groupsOut ≤ 8

/-- The outstanding request list of every bay is within those sizes. -/
def State.requestsBounded (s : State) : Prop := ∀ b : BayNo, (s.bay b).requestsBounded

/-- The generation count is even: no rewrite of the status block is under way (R172). -/
def State.generationEven (s : State) : Prop := s.board.generation.toNat % 2 = 0

/-- The place of an act in the order in which a scan acts on its snapshot (R169). -/
def ScanAct.rank : ScanAct → Nat
  | .cancelJob _ => 1
  | .orphan _ _ _ => 2
  | .retake _ => 3
  | .cancelPosted _ => 4
  | .badKind _ => 5
  | .service _ _ => 6
  | .copies _ => 7
  | .accept _ _ => 7

/-- The host's side is as it was: the queue, the tower's own state, the register window and the board scanner. -/
def State.sameHost (s t : State) : Prop := t.pending = s.pending ∧ t.tower = s.tower ∧ t.regs = s.regs ∧ t.board = s.board

/-- The jobs and the dockets are as they were. -/
def State.sameWork (s t : State) : Prop := t.jobs = s.jobs ∧ t.dockets = s.dockets

/-- The sensors, the bins and the printer are as they were. -/
def State.samePlant (s t : State) : Prop := t.sensors = s.sensors ∧ t.bins = s.bins ∧ t.printer = s.printer

/-- Every bay but one is as it was. -/
def State.otherBays (s t : State) (b : BayNo) : Prop := ∀ x : BayNo, x ≠ b → t.bay x = s.bay x

/-- No request of this kind and group is outstanding at the bay, so a message that answers it is discarded. -/
def State.unasked (s : State) (b : BayNo) (q : Request) : Prop := s.hasReq b q = false

end Sys2Proof.Machine
end

