-- ==== Sys2Proof/Certificates/Slice0/Obligations.lean ====
section
/-! DEFINITION. The statements for the provers. -/

open Sys2Proof Sys2Proof.Machine

/-! ### The queue, power, time -/

/-- A step takes the command at the front of the queue and runs it with the rest of the queue. -/
def Obligations.StepTakesFrontCommand : Prop :=
  ∀ (c : Instr) (rest : List Instr) (s : State),
    step { s with pending := c :: rest } = exec c { s with pending := rest }

/-- The model's choice (row 1): on an empty queue a millisecond passes. Tower time rises by 1 and holds at 2^64 − 1 (row 43); every timer that
runs falls by 1, of the scan, the drain, the lift, the swing, the gripper, the printer, the requests to the drives, the fetches and the
presented requests that age; and nothing else changes. -/
def Obligations.EmptyQueueIsOneMillisecond : Prop :=
  ∀ s : State, s.pending = [] →
    let less (t : Timer) : Timer := t.map (· - 1)
    let aged (r : FetchReq) : FetchReq := { r with ageTimer := less r.ageTimer }
    ∃ t : State, step s = .next t
      ∧ t = { s with
          tower := { s.tower with time := if s.tower.time < 2 ^ 64 - 1 then s.tower.time + 1 else 2 ^ 64 - 1 }
          board := { s.board with scanTimer := less s.board.scanTimer }
          health := { s.health with drainTimer := less s.health.drainTimer }
          transport := { s.transport with
            lift := { s.transport.lift with
              stallTimer := less s.transport.lift.stallTimer, moveTimer := less s.transport.lift.moveTimer
              settleTimer := less s.transport.lift.settleTimer, homeTimer := less s.transport.lift.homeTimer }
            swingTimer := less s.transport.swingTimer, gripTimer := less s.transport.gripTimer
            placeTimer := less s.transport.placeTimer }
          printer := { s.printer with
            clampTimer := less s.printer.clampTimer, spinupTimer := less s.printer.spinupTimer
            settleTimer := less s.printer.settleTimer, spindownTimer := less s.printer.spindownTimer
            quietTimer := less s.printer.quietTimer }
          engine := { s.engine with
            print := s.engine.print.map aged, board := s.engine.board.map aged, slots := t.engine.slots }
          bays := t.bays }
      ∧ (∀ k : FetchNo, t.fetch k = (s.fetch k).map fun f => { f with timer := f.timer - 1 })
      ∧ (∀ b : BayNo, t.bay b = { s.bay b with
          reqs := (s.bay b).reqs.map fun q => { q with left := q.left - 1 }
          image := (s.bay b).image.map aged, extent := (s.bay b).extent.map aged, compare := (s.bay b).compare.map aged })

/-- What power-up leaves, by the rules of each block: the tower LOADING at time 0, the register window 0, no job, no docket, no
write, no fetch, the fault record empty, the transport STOPPED with an open gripper and an untrusted lift count, the printer
EMPTY, the limits and intervals of the rules, every bay unread. The values stand in sections 1.1, 2.1, 3.2, 3.3, 3.4, 3.8, 4.1, 4.2, 5.1,
5.3, 8.1, 9.1, 10.1, 10.2, 10.3, 10.4, 10.5 and 11.2. -/
def Obligations.PowerUpState : Prop :=
  ∀ s : State, ∃ t : State, exec .powerUp s = .next t
    ∧ t.tower.state = .loading ∧ t.tower.time = 0 ∧ t.tower.calibration = none ∧ t.tower.loader = .whole
    ∧ t.regs.boardLow = 0 ∧ t.regs.boardHigh = 0 ∧ t.regs.run = false ∧ t.regs.irqEn = false
    ∧ t.regs.cardDone = false ∧ t.regs.statusNew = false ∧ t.regs.halted = false
    ∧ t.board.scanInterval = 500 ∧ t.board.scan = none ∧ t.board.tally = 0 ∧ t.board.generation = 0
    ∧ (∀ j : SlotNo, t.job j = none) ∧ (∀ d : DocketNo, t.docket d = none)
    ∧ t.faults.first = none ∧ (∀ c : FaultClass, t.faults.count c = 0)
    ∧ t.transport.state = .stopped ∧ t.transport.queue = [] ∧ t.transport.gripperClosed = false
    ∧ t.transport.lift.trusted = false ∧ t.printer.state = .empty ∧ t.printer.docket = none
    ∧ (∀ x : Sensor, t.sensor x = false)
    ∧ t.bins.good.count = 0 ∧ t.bins.reject.count = 0
    ∧ (∀ b : BayNo, (t.bay b).state = .absent ∧ (t.bay b).logical = none ∧ (t.bay b).tray = .unknown
        ∧ (t.bay b).soft = 0 ∧ (t.bay b).hard = 0 ∧ (t.bay b).failing = false ∧ (t.bay b).linkErrors = 0
        ∧ (t.bay b).channel = .closed ∧ (t.bay b).reqs = [])
    ∧ t.health.softLimit = 12 ∧ t.health.hardLimit = 3 ∧ t.health.drainMinutes = 60
    ∧ t.engine.posted = [] ∧ t.engine.pointer = 0 ∧ (∀ k : FetchNo, t.fetch k = none) ∧ t.freePages = 64
    ∧ t.pending = s.pending

/-- Every command, with every operand in every state, answers a next state, and the rest of the queue stays as it was. No
command moves tower time but a power-up, and what has been sent stays sent: a command only adds to what has left the part. These are the
model's choices: tower time stands still while commands wait (row 1), what was sent is kept as a list (row 26), and a command leaves the queue
behind it alone (row 42). -/
def Obligations.EveryCommandCompletes : Prop :=
  (∀ (c : Instr) (s : State), ∃ t : State, exec c s = .next t ∧ t.pending = s.pending)
  ∧ (∀ (c : Instr) (s t : State), exec c s = .next t →
    (∃ more : List Output, t.out = s.out ++ more) ∧ (c ≠ .powerUp → t.tower.time = s.tower.time))

/-- An event at whose end no block has anything left to do ends at once: only the event's number changes, and then none of the rules that act
in the first event that allows them can act. While one can, the first of them in the list of the rules acts, and the event goes on after it. That
what follows in an event is run rule by rule at its end, in the order of that list, and that events are numbered, is the model's choice (rows 3
and 26). -/
def Obligations.QuietEventEnds : Prop :=
  ∀ s : State,
    (settleStep s = none → conclude s = { s with event := s.event + 1 } ∧ ∀ r ∈ rules, r s = none)
    ∧ (∀ t : State, settleStep s = some t → (∀ n, settle (n + 1) s = settle n t)
      ∧ ∃ (before : List (State → Option State)) (r : State → Option State) (after : List (State → Option State)),
        rules = before ++ r :: after ∧ r s = some t ∧ ∀ q ∈ before, q s = none)

/-! ### Invariants of every step -/

/-- Every step keeps the bounds the rules give: the board address a multiple of 4, at most 32 posted writes, fault counts to
255, health counters to 15, link-error counts to 65,535. It holds of states no run reaches as well. -/
def Obligations.StepKeepsBounds : Prop :=
  ∀ s t : State, s.withinBounds → step s = .next t → t.withinBounds

/-- The state right after power is applied is within those bounds. -/
def Obligations.ResetWithinBounds : Prop :=
 State.reset.withinBounds

/-- What only its own commands change, whatever else follows in the event: the board address, RUN and IRQ_EN only their register writes;
a sensor only its sample or change; the calibration, the classes and capacities of the bins and the installed bays only the
configuration load; a bay's drive record only IDENTITY; the carriage only its step; the generation count only the issue of a posted
write. A power-up and a link reset, which clear them by rule, stand apart. -/
def Obligations.OnlyTheirCommandsChange : Prop :=
  ∀ (c : Instr) (s t : State), exec c s = .next t → c ≠ .powerUp → c ≠ .linkReset →
    ((∀ v, c ≠ .boardLow v) → t.regs.boardLow = s.regs.boardLow)
    ∧ ((∀ v, c ≠ .boardHigh v) → t.regs.boardHigh = s.regs.boardHigh)
    ∧ ((∀ v, c ≠ .run v) → t.regs.run = s.regs.run)
    ∧ ((∀ v, c ≠ .irqEn v) → t.regs.irqEn = s.regs.irqEn)
    ∧ ((∀ x v, c ≠ .sensorChange x v) → (∀ x v, c ≠ .sensorSample x v) → t.sensors = s.sensors)
    ∧ ((∀ m, c ≠ .configLoadEnd m) → t.tower.calibration = s.tower.calibration
        ∧ t.bins.a.cls = s.bins.a.cls ∧ t.bins.b.cls = s.bins.b.cls
        ∧ t.bins.good.capacity = s.bins.good.capacity ∧ t.bins.reject.capacity = s.bins.reject.capacity
        ∧ ∀ b : BayNo, (t.bay b).installed = (s.bay b).installed)
    ∧ (∀ b : BayNo, (∀ cls x y l, c ≠ .identity b cls x y l) → (t.bay b).drive = (s.bay b).drive)
    ∧ (c ≠ .carriageStep → t.printer.position = s.printer.position)
    ∧ (c ≠ .postedWriteIssue → t.board.generation = s.board.generation)

/-! ### The register window -/

/-- RUN: going from clear to set while the tower is RUNNING or HALTED starts a round; any other write changes RUN alone.
BOARD_LOW and BOARD_HIGH: ignored while any job slot is not FREE; otherwise the written half takes the value, the two lowest
bits of the low half read as 0. ATTENTION_CLEAR: a written 1 clears its cause, a written 0 leaves it, and nothing else changes.
Writes to the other registers of the window are ignored, and data that arrives for a slot already freed is discarded. -/
def Obligations.RegisterWrites : Prop :=
  (∀ (on : Bool) (s : State),
    (on = true ∧ s.regs.run = false ∧ (s.tower.state = .running ∨ s.tower.state = .halted) →
      exec (.run on) s = .next { s with regs := { s.regs with run := true }, roundDue := true })
    ∧ (¬ (on = true ∧ s.regs.run = false ∧ (s.tower.state = .running ∨ s.tower.state = .halted)) →
      exec (.run on) s = .next { s with regs := { s.regs with run := on } }))
  ∧ (∀ (v : BitVec 32) (s : State),
    ((∀ j : SlotNo, s.job j = none) →
      (∃ low : BitVec 32, exec (.boardLow v) s = .next { s with regs := { s.regs with boardLow := low } }
        ∧ low.toNat = v.toNat - v.toNat % 4)
      ∧ exec (.boardHigh v) s = .next { s with regs := { s.regs with boardHigh := v } })
    ∧ ((∃ j : SlotNo, s.job j ≠ none) → exec (.boardLow v) s = .next s ∧ exec (.boardHigh v) s = .next s))
  ∧ (∀ (v : BitVec 32) (s : State), ∃ t : State, exec (.attentionClear v) s = .next t
    ∧ t.regs.cardDone = (if v.getLsbD 0 = true then false else s.regs.cardDone)
    ∧ t.regs.statusNew = (if v.getLsbD 1 = true then false else s.regs.statusNew)
    ∧ t.regs.halted = (if v.getLsbD 2 = true then false else s.regs.halted)
    ∧ t = { s with regs := { s.regs with cardDone := t.regs.cardDone, statusNew := t.regs.statusNew, halted := t.regs.halted } })
  ∧ (∀ (offset : Nat) (v : BitVec 32) (k : FetchNo) (s : State),
    exec (.registerWriteOther offset v) s = .next s ∧ exec (.fetchLateData k) s = .next s)

/-- IRQ_EN: setting it while a cause is set sends one MSI (the model takes the write that changes it from clear to set, row 29);
any other write changes IRQ_EN alone. A cause that is clear becomes set by its event and sends an MSI exactly while IRQ_EN is
set; a cause that is set stays so and sends none. -/
def Obligations.InterruptsSent : Prop :=
  (∀ (on : Bool) (s : State),
    (on = true ∧ s.regs.irqEn = false ∧ (s.regs.cardDone = true ∨ s.regs.statusNew = true ∨ s.regs.halted = true) →
      exec (.irqEn on) s = .next { s with regs := { s.regs with irqEn := true }, out := s.out ++ [.msi] })
    ∧ (¬ (on = true ∧ s.regs.irqEn = false ∧ (s.regs.cardDone = true ∨ s.regs.statusNew = true ∨ s.regs.halted = true)) →
      exec (.irqEn on) s = .next { s with regs := { s.regs with irqEn := on } }))
  ∧ (∀ (a : Attention) (s : State),
    (s.regs.attention a = true → raiseAttention a s = s)
    ∧ (s.regs.attention a = false → (raiseAttention a s).regs.attention a = true
        ∧ (∀ x : Attention, x ≠ a → (raiseAttention a s).regs.attention x = s.regs.attention x)
        ∧ (raiseAttention a s).out = s.out ++ (if s.regs.irqEn = true then [.msi] else [])))

/-! ### Scans -/

/-- A request for a scan, by a write to SCAN of any value: dropped while the board address is 0, started while no scan is under
way (its first read is the 64 bytes of the anchor at the board address), and left pending while one is. The scan timer's expiry
restarts it with the interval (0 turns it off) and requests a scan in the same way. -/
def Obligations.ScansRequested : Prop :=
  (∀ (v : BitVec 32) (s : State),
    (s.boardAddr = 0 → exec (.scan v) s = .next (conclude s))
    ∧ (s.boardAddr ≠ 0 ∧ s.board.scan = none →
      exec (.scan v) s = .next (conclude { s with board := { s.board with
        scan := some { base := s.boardAddr, statusAddr := 0, count := 0,
                       phase := .anchor { base := s.boardAddr, len := 64, cut := 0, got := [] } } } }))
    ∧ (s.boardAddr ≠ 0 ∧ s.board.scan ≠ none →
      exec (.scan v) s = .next (conclude { s with board := { s.board with scanPending := true } })))
  ∧ (∀ s : State, s.board.scanTimer ≠ none →
    (s.boardAddr = 0 → exec .scanTimerExpiry s = .next (conclude { s with board := { s.board with
      scanTimer := if s.board.scanInterval = 0 then none else some s.board.scanInterval } }))
    ∧ (s.boardAddr ≠ 0 ∧ s.board.scan = none →
      exec .scanTimerExpiry s = .next (conclude { s with board := { s.board with
        scanTimer := if s.board.scanInterval = 0 then none else some s.board.scanInterval
        scan := some { base := s.boardAddr, statusAddr := 0, count := 0,
                       phase := .anchor { base := s.boardAddr, len := 64, cut := 0, got := [] } } } }))
    ∧ (s.boardAddr ≠ 0 ∧ s.board.scan ≠ none →
      exec .scanTimerExpiry s = .next (conclude { s with board := { s.board with
        scanTimer := if s.board.scanInterval = 0 then none else some s.board.scanInterval, scanPending := true } })))

/-- The anchor: a card count outside 1..64 or a status block address that is no multiple of 4 is BAD_ANCHOR, and the scan is abandoned; a
good one is followed by the read of the card table, 128 bytes a card, 64 bytes above the board address. An abandoned scan acts on no
card: it has no act left, its request on the board line is withdrawn, its other fetches are orphaned, and it goes on to its end. The
end of a scan: a complete one brings its status block address into use, an abandoned one does not; the jobs that ended meanwhile are
written, also those that end while such writes wait for room; then the scan is over, and a scan left pending starts, unless the
board address is 0. A complete snapshot is acted on: the scan goes over to its acts, taken from the cards of the table in the order of
R169, and begins them. The COPY cards of a snapshot: each that fails is REFUSED with its reason, and those that pass are acted on by
priority, 3 first, then by lower ticket, then by lower card index.
That the snapshot is acted on at a command of its own is the model's reading (row 9), and so is that the status block address of a complete scan
comes into use at the end of that scan (row 30). That the failing COPY cards are REFUSED in the order of the snapshot, before the first that passes is
acted on, is the model's choice (row 61). -/
def Obligations.BoardRead : Prop :=
  (∀ (c : Scan) (bytes : List Byte) (s : State), s.board.scan = some c →
    (1 ≤ field bytes 0 2 ∧ field bytes 0 2 ≤ 64 ∧ field bytes 8 8 % 4 = 0 →
      takeAnchor c bytes s = { s with board := { s.board with
        scan := some { base := c.base, statusAddr := field bytes 8 8, count := field bytes 0 2,
                       phase := .table { base := c.base + 64, len := 128 * field bytes 0 2, cut := 0, got := [] } } } })
    ∧ (¬ (1 ≤ field bytes 0 2 ∧ field bytes 0 2 ≤ 64 ∧ field bytes 8 8 % 4 = 0) →
      takeAnchor c bytes s = abandonScan (reportFault .badAnchor none none s)
      ∧ (reportFault .badAnchor none none s).board = s.board))
  ∧ (∀ (c : Scan) (s : State), s.board.scan = some c →
    ∃ t : State, abandonScan s = t
      ∧ t = { s with
          board := { s.board with scan := some { c with phase := .acting [] } }
          engine := { s.engine with
            board := none, agenda := s.engine.agenda ++ [[.endScan false]], slots := t.engine.slots } }
      ∧ ∀ k : FetchNo, t.fetch k = (s.fetch k).map fun f => if f.line = .board then { f with orphan := true } else f)
  ∧ (∀ (c : Scan) (s : State), s.board.scan = some c →
    let ended : State := { s with board := { s.board with scan := none, scanPending := false } }
    let fresh : Scan := { base := s.boardAddr, statusAddr := 0, count := 0,
                          phase := .anchor { base := s.boardAddr, len := 64, cut := 0, got := [] } }
    runTodo (.endScan false) s = (s.finalWrites ++ [.nextScan], s)
    ∧ (∃ t : State, runTodo (.endScan true) s = (t.finalWrites ++ [.nextScan], t)
      ∧ t.board = { s.board with statusAddr := some c.statusAddr, scanned := true } ∧ t.jobs = s.jobs)
    ∧ (s.finalWrites ≠ [] → runTodo .nextScan s = (s.finalWrites ++ [.nextScan], s))
    ∧ (s.finalWrites = [] → s.board.scanPending = false ∨ s.boardAddr = 0 → runTodo .nextScan s = ([], ended))
    ∧ (s.finalWrites = [] → s.board.scanPending = true → s.boardAddr ≠ 0 →
      runTodo .nextScan s = ([], { ended with board := { ended.board with scan := some fresh } })))
  ∧ (∀ (base addr count : Nat) (r : Reading) (bytes : List Byte) (s : State),
    s.board.scan = some { base := base, statusAddr := addr, count := count, phase := .table r } → r.data = some bytes →
    exec .snapshotComplete s = .next (conclude { s with
      board := { s.board with scan := some { base := base, statusAddr := addr, count := count,
                                             phase := .acting (s.scanActs (parseTable bytes count)) } }
      engine := { s.engine with agenda := s.engine.agenda ++ [[.nextAct]] } }))
  ∧ (∀ (base : Nat) (cards : List (Fin 64 × CopyCard)) (s : State), (∀ c ∈ cards, c.2.priority < 4 ∧ c.2.ticket < 2 ^ 32) →
    ∃ ranked : List (Fin 64 × CopyCard),
      runAct base (.copies cards) s =
        (cards.flatMap fun c => if refusal c.2 s = .none then [] else refuseCard base c.1 (refusal c.2 s),
         ranked.map fun c => .accept c.1 c.2, s)
      ∧ ranked.Perm (cards.filter fun c => refusal c.2 s == .none)
      ∧ ranked.Pairwise fun x y => y.2.priority < x.2.priority ∨ (y.2.priority = x.2.priority ∧
          (x.2.ticket < y.2.ticket ∨ (x.2.ticket = y.2.ticket ∧ x.1 ≤ y.1))))

/-! ### Cards -/

/-- What a scan writes to a card: an orphan is FINISHED with ABANDONED and the counts it shows, a cancelled POSTED card is
FINISHED with CANCELLED, a card whose index a slot holds is TAKEN again, an unknown kind is REFUSED with BAD_KIND. The result
fields come first, the state next, the tally last, and no other state changes. A FINISHED or REFUSED write raises the tally by 1
modulo 2^32, queues its 4 bytes 16 bytes above the board's address, and sets CARD_DONE, which sends an MSI where IRQ_EN is set
and the cause was clear. What an executed SERVICE card is answered with: OK is written FINISHED with the outcome OK, a reason is
written REFUSED with its code; the result fields first, the state next, the tally last.
Byte 115 is the host's and is left out of the write (DEDUCED, row 24); which board a command writes to is the model's choice (row 10). -/
def Obligations.CardsWritten : Prop :=
  let result (base : Nat) (i : Fin 64) (codes counts : List Byte) : Todo :=
    .write { addr := base + 64 + 128 * i.val + 112, data := .fields codes counts, docket := none }
  (∀ (base good reject : Nat) (i : Fin 64) (s : State),
    runAct base (.orphan i good reject) s =
      ([result base i [4#8, 0#8, 0#8] (le 2 good ++ le 2 reject),
        .write (plainWrite (base + 64 + 128 * i.val) [3#8]), .tally base], [], s)
    ∧ runAct base (.cancelPosted i) s =
      ([result base i [3#8, 0#8, 0#8] [0#8, 0#8, 0#8, 0#8],
        .write (plainWrite (base + 64 + 128 * i.val) [3#8]), .tally base], [], s)
    ∧ runAct base (.retake i) s = ([.write (plainWrite (base + 64 + 128 * i.val) [2#8])], [], s)
    ∧ runAct base (.badKind i) s =
      ([result base i [0#8, 0#8, 1#8] [0#8, 0#8, 0#8, 0#8],
        .write (plainWrite (base + 64 + 128 * i.val) [4#8]), .tally base], [], s))
  ∧ (∀ (base : Nat) (s : State), ∃ t : State, runTodo (.tally base) s = ([], t)
    ∧ t.board.tally.toNat = (s.board.tally.toNat + 1) % 2 ^ 32
    ∧ t.engine.posted = s.engine.posted ++
        [{ addr := base + 16, data := .bytes (le 4 ((s.board.tally.toNat + 1) % 2 ^ 32)), docket := none }]
    ∧ t.regs.cardDone = true
    ∧ t.out = s.out ++ (if s.regs.cardDone = false ∧ s.regs.irqEn = true then [.msi] else [])
    ∧ t.jobs = s.jobs ∧ t.dockets = s.dockets ∧ t.bays = s.bays ∧ t.transport = s.transport ∧ t.printer = s.printer)
  ∧ (∀ (base : Nat) (i : Fin 64) (r : Reason),
    (r = .none → answerCard base i r =
      [result base i [5#8, 0#8, 0#8] [0#8, 0#8, 0#8, 0#8],
       .write (plainWrite (base + 64 + 128 * i.val) [3#8]), .tally base])
    ∧ (r ≠ .none → answerCard base i r =
      [result base i [0#8, 0#8, BitVec.ofNat 8 r.code] [0#8, 0#8, 0#8, 0#8],
       .write (plainWrite (base + 64 + 128 * i.val) [4#8]), .tally base]))

/-- The class of a card by its state, its slot, its stop request and its kind (R169): exactly one case applies, and FREE,
FINISHED and REFUSED cards are passed over. The acts of a snapshot are exactly the acts of its cards, in the order of R169: cancels, orphans,
cards written TAKEN again, cancelled POSTED cards and unknown kinds, each class as its cards stand in the snapshot (the model's choice but for
the unknown kinds, row 61); then each service card once, by ticket and then by card index; and last one act with the COPY cards. -/
def Obligations.CardOrder : Prop :=
  (∀ (c : Card) (s : State),
    (∀ j, c.state = 2 → s.slotOfCard c.index = some j →
      s.cardAct c = (1, if c.cancel = true then some (.cancelJob j) else none))
    ∧ (c.state = 2 → s.slotOfCard c.index = none → s.cardAct c = (2, some (.orphan c.index c.good c.reject)))
    ∧ (c.state = 1 → s.slotOfCard c.index ≠ none → s.cardAct c = (3, some (.retake c.index)))
    ∧ (c.state = 1 → s.slotOfCard c.index = none → c.cancel = true → s.cardAct c = (4, some (.cancelPosted c.index)))
    ∧ (c.state = 1 → s.slotOfCard c.index = none → c.cancel = false → c.kind ≠ 1 → c.kind ≠ 2 →
      s.cardAct c = (5, some (.badKind c.index)))
    ∧ (c.state = 1 → s.slotOfCard c.index = none → c.cancel = false → c.kind = 2 → s.cardAct c = (6, none))
    ∧ (c.state = 1 → s.slotOfCard c.index = none → c.cancel = false → c.kind = 1 → s.cardAct c = (7, none))
    ∧ (c.state ≠ 1 → c.state ≠ 2 → s.cardAct c = (8, none)))
  ∧ (∀ (cards : List Card) (s : State),
    let ofClass (n : Nat) : List Card := cards.filter fun c => (s.cardAct c).1 == n
    (s.scanActs cards).Pairwise (fun a b => a.rank ≤ b.rank)
    ∧ (∀ n, 1 ≤ n → n ≤ 5 → (s.scanActs cards).filter (fun a => a.rank == n) = (ofClass n).filterMap fun c => (s.cardAct c).2)
    ∧ (∃ services : List Card, services.Perm (ofClass 6)
      ∧ services.Pairwise (fun a b => a.copy.ticket < b.copy.ticket ∨ (a.copy.ticket = b.copy.ticket ∧ a.index ≤ b.index))
      ∧ (s.scanActs cards).filter (fun a => a.rank == 6) = services.map fun c => .service c.index c.service)
    ∧ (s.scanActs cards).filter (fun a => a.rank == 7) = [.copies ((ofClass 7).map fun c => (c.index, c.copy))]
    ∧ ∀ a ∈ s.scanActs cards, 1 ≤ a.rank ∧ a.rank ≤ 7)

/-- A COPY card that fails a test is REFUSED with the reason of the first test that fails, in the order of R170, and nothing but its
writes follows. -/
def Obligations.CopyRefusals : Prop :=
  ∀ (i : Fin 64) (c : CopyCard) (s : State), s.slotOfCard i = none →
    let copiesOk := 1 ≤ c.copies ∧ c.copies ≤ 9999
    let classOk := c.mediaClass ≤ 2
    let maskOk := c.mask ≠ 0 ∧ c.mask.toNat < 2 ^ 12
    let imageOk := 1 ≤ c.totalSectors ∧ c.totalSectors ≤ 16777216 ∧ c.extentCount ≠ 0 ∧ 1 ≤ c.speed ∧ c.speed ≤ 16
      ∧ c.policy ≤ 1 ∧ c.linkLimit ≤ 15
    let alignOk := 4 ∣ c.extentTable ∧ 4 ∣ c.signatureTable ∧ 4 ∣ c.reportArea ∧ (c.bandCount ≠ 0 → 4 ∣ c.bandTable)
    let refused (r : Reason) := exec (.copyCard i c) s = .next (conclude (startThread (answerCard s.cardBase i r) s))
    (¬ copiesOk → refused .badCopies)
    ∧ (copiesOk ∧ ¬ classOk → refused .badClass)
    ∧ (copiesOk ∧ classOk ∧ ¬ maskOk → refused .badMask)
    ∧ (copiesOk ∧ classOk ∧ maskOk ∧ ¬ imageOk → refused .badImage)
    ∧ (copiesOk ∧ classOk ∧ maskOk ∧ imageOk ∧ ¬ alignOk → refused .badAlign)
    ∧ (copiesOk ∧ classOk ∧ maskOk ∧ imageOk ∧ alignOk ∧ 64 < c.bandCount → refused .badLabel)
    ∧ (copiesOk ∧ classOk ∧ maskOk ∧ imageOk ∧ alignOk ∧ c.bandCount ≤ 64 ∧ s.tower.state = .uncalibrated →
        refused .uncalibrated)

/-- A COPY card that passes is taken into the FREE slot of lowest number with the running state of R20, written with counts 0 and then
TAKEN, and is an event for the dispatcher. With no FREE slot it is left POSTED and unwritten. A card whose index a slot holds is
written TAKEN again.
That the command COPY_CARD does so too is the model's reading (row 11). -/
def Obligations.CopyAccepted : Prop :=
  ∀ (i : Fin 64) (c : CopyCard) (s : State),
    (s.slotOfCard i = none → refusal c s = .none → ∀ j : SlotNo, s.job j = none → (∀ k : SlotNo, k < j → s.job k ≠ none) →
      ∃ job : Job, exec (.copyCard i c) s = .next (conclude (startThread
          [.write (plainWrite (s.cardBase + 64 + 128 * i.val + 116) [0#8, 0#8, 0#8, 0#8]),
           .write (plainWrite (s.cardBase + 64 + 128 * i.val) [2#8])] (triggerRound (s.setJob j (some job)))))
        ∧ job.cardIndex = i ∧ job.ticket = c.ticket ∧ job.priority = c.priority ∧ job.copies = c.copies
        ∧ job.maxRejects = c.maxRejects ∧ mediaClassOf c.mediaClass = some job.mediaClass
        ∧ (∀ b : BayNo, job.mask.getLsbD b.val = c.mask.getLsbD b.val) ∧ job.speed = c.speed
        ∧ starvationOf c.policy c.linkLimit = some job.starvation ∧ (job.verify = true ↔ c.verify ≠ 0)
        ∧ job.totalSectors = c.totalSectors ∧ 16 * (job.groups - 1) < c.totalSectors ∧ c.totalSectors ≤ 16 * job.groups
        ∧ job.extentTable = c.extentTable ∧ job.extentCount = c.extentCount ∧ job.signatureTable = c.signatureTable
        ∧ job.bandTable = c.bandTable ∧ job.bandCount = c.bandCount ∧ job.reportArea = c.reportArea
        ∧ job.state = .active ∧ job.good = 0 ∧ job.reject = 0 ∧ job.inFlight = 0 ∧ job.nextOrdinal = 1
        ∧ job.frontier = 0 ∧ job.outcome = none ∧ job.failCause = .none)
    ∧ (s.slotOfCard i = none → refusal c s = .none → (∀ j : SlotNo, s.job j ≠ none) →
      exec (.copyCard i c) s = .next (conclude (startThread [] s)))
    ∧ (s.slotOfCard i ≠ none → exec (.copyCard i c) s = .next (conclude (startThread
        [.write (plainWrite (s.cardBase + 64 + 128 * i.val) [2#8])] s)))

/-- SET_TIMERS: a present interval outside its range refuses the card and changes neither; otherwise the present values are set
and their timers restarted, a scan interval of 0 turning its timer off. CLEAR_FAULTS is always OK: the first fault becomes
absent and every count 0, and a change is reported. A service that names a bay outside 0..11 is refused with BAD_SERVICE and
does nothing. Each card is executed also where a job slot holds its index (the model's choice, row 73). -/
def Obligations.PlainServices : Prop :=
  (∀ (i : Fin 64) (newScan newDrain : Option Nat) (s : State),
    let scanOk := ∀ n, newScan = some n → n = 0 ∨ (50 ≤ n ∧ n ≤ 10000)
    let drainOk := ∀ n, newDrain = some n → 1 ≤ n ∧ n ≤ 1440
    (¬ (scanOk ∧ drainOk) → exec (.setTimers i newScan newDrain) s =
      .next (conclude (startThread (answerCard s.cardBase i .badService) s)))
    ∧ (scanOk ∧ drainOk → ∃ t : State,
      exec (.setTimers i newScan newDrain) s = .next (conclude (startThread (answerCard s.cardBase i .none) t))
      ∧ t = { s with
          board := { s.board with
            scanInterval := newScan.getD s.board.scanInterval
            scanTimer := match newScan with
              | some n => if n = 0 then none else some n
              | none => s.board.scanTimer }
          health := { s.health with
            drainMinutes := newDrain.getD s.health.drainMinutes
            drainTimer := match newDrain with
              | some n => some (n * 60000)
              | none => s.health.drainTimer } }))
  ∧ (∀ (i : Fin 64) (s : State), ∃ t : State,
    exec (.clearFaults i) s = .next (conclude (startThread (answerCard s.cardBase i .none) t))
    ∧ t.faults.first = none ∧ (∀ c : FaultClass, t.faults.count c = 0)
    ∧ (s.faults = t.faults → t = s)
    ∧ (s.faults ≠ t.faults → t = reportStatus { s with faults := t.faults }))
  ∧ (∀ (i : Fin 64) (n : Nat) (s : State), 12 ≤ n →
    exec (.designateSpare i n) s = .next (conclude (startThread (answerCard s.cardBase i .badService) s))
    ∧ exec (.reinstateBay i n) s = .next (conclude (startThread (answerCard s.cardBase i .badService) s))
    ∧ exec (.resetBay i n) s = .next (conclude (startThread (answerCard s.cardBase i .badService) s)))

/-- SET_LIMITS: a limit outside 0..15 refuses the card and changes neither; otherwise both are set and every bay is tested
against them, in increasing number (row 60), and the card is answered OK. Where no bay has a counter at or above a new limit that is not 0,
nothing else changes. What SET_LIMITS does to the bays its new limits catch: every bay whose soft or hard counter reaches a limit above 0 is
failing afterwards or RETIRED, and an IDLE bay so caught is RETIRED; a bay in another state, the designated spare apart, is marked and no
more. A bay that is not caught and not the designated spare is as it was. The card is executed also where a job slot holds its index (row 73). -/
def Obligations.LimitsSet : Prop :=
  (∀ (i : Fin 64) (soft hard : Nat) (s : State),
    (¬ (soft ≤ 15 ∧ hard ≤ 15) → exec (.setLimits i soft hard) s =
      .next (conclude (startThread (answerCard s.cardBase i .badService) s)))
    ∧ (soft ≤ 15 ∧ hard ≤ 15 → (∀ b : BayNo, (soft = 0 ∨ (s.bay b).soft < soft) ∧ (hard = 0 ∨ (s.bay b).hard < hard)) →
      exec (.setLimits i soft hard) s = .next (conclude (startThread (answerCard s.cardBase i .none)
        { s with health := { s.health with softLimit := soft, hardLimit := hard } }))))
  ∧ (∀ (i : Fin 64) (soft hard : Nat) (s : State), soft ≤ 15 → hard ≤ 15 →
    let caught (b : BayNo) : Prop := (s.bay b).failing = false
      ∧ ((soft ≠ 0 ∧ soft ≤ (s.bay b).soft) ∨ (hard ≠ 0 ∧ hard ≤ (s.bay b).hard))
    ∃ t : State, exec (.setLimits i soft hard) s = .next (conclude (startThread (answerCard s.cardBase i .none) t))
      ∧ t.health.softLimit = soft ∧ t.health.hardLimit = hard ∧ t.health.drainMinutes = s.health.drainMinutes
      ∧ t.health.drainTimer = s.health.drainTimer
      ∧ s.sameHost t ∧ s.sameWork t ∧ s.samePlant t ∧ t.transport = s.transport
      ∧ ∀ b : BayNo,
        (caught b → ((t.bay b).failing = true ∨ (t.bay b).state = .retired)
          ∧ ((s.bay b).state = .idle → (t.bay b).state = .retired ∧ (t.bay b).logical = none)
          ∧ ((s.bay b).state ≠ .idle → (s.bay b).state ≠ .spare → (s.bay b).state ≠ .retired → s.health.spare ≠ some b →
              t.bay b = { s.bay b with failing := true }))
        ∧ (¬ caught b → s.health.spare ≠ some b → t.bay b = s.bay b))

/-- A bay retires: it enters RETIRED with no logical number, and the fault RETIRED is reported with the bay and no docket. Where the
designation names a bay in SPARE, and the retiring bay held a number, that bay takes the number, enters DISCOVERING with IDENTIFY
outstanding, sent for the takeover, and is designated no more. Otherwise, with no number, no designation, or a designated bay that is not in SPARE, the
designation stands, no other bay changes, and the number given up is held by none. Where the designated bay that is not in SPARE is the
retiring one itself, that its designation stands is the model's choice (row 36). A bay that is marked failing in SPARE retires, and a
designation that names it becomes none. No logical number is ever held twice: every step
keeps that, in states no run reaches as well, and it holds right after power is applied. -/
def Obligations.RetirementAndTakeover : Prop :=
  (∀ (b : BayNo) (s : State), (s.bay b).state ≠ .retired →
    let t := retire b s
    t.bay b = { s.bay b with state := .retired, logical := none }
    ∧ s.sameHost t ∧ s.sameWork t ∧ s.samePlant t ∧ t.transport = s.transport
    ∧ (s.faults.first = none → t.faults = { s.faults with
        first := some { code := .retired, bay := some b, docket := none, time := s.tower.time } })
    ∧ (s.faults.first ≠ none → t.faults = { s.faults with bay := if s.faults.bay < 255 then s.faults.bay + 1 else 255 })
    ∧ (∀ (sp n : BayNo), sp ≠ b → s.health.spare = some sp → (s.bay sp).state = .spare → (s.bay b).logical = some n →
        (t.bay sp).logical = some n ∧ (t.bay sp).state = .discovering
        ∧ t.hasReq sp .identify = true ∧ t.health = { s.health with spare := none }
        ∧ (s.unasked sp .identify → (t.bay sp).takingOver = true)
        ∧ ∀ x : BayNo, x ≠ b → x ≠ sp → t.bay x = s.bay x)
    ∧ ((s.bay b).logical = none ∨ s.health.spare = none
        ∨ (∃ sp : BayNo, s.health.spare = some sp ∧ (s.bay sp).state ≠ .spare) →
        t.health = s.health ∧ (∀ x : BayNo, x ≠ b → t.bay x = s.bay x)
        ∧ ∀ n : BayNo, s.numbersDistinct → (s.bay b).logical = some n → ∀ x : BayNo, (t.bay x).logical ≠ some n))
  ∧ (∀ (b : BayNo) (s : State), (s.bay b).state = .spare → s.health.spare = some b →
    let t := markFailing b s
    t.bay b = { s.bay b with state := .retired, logical := none, failing := true }
    ∧ t.health = { s.health with spare := none } ∧ s.otherBays t b ∧ s.sameHost t ∧ s.sameWork t ∧ s.samePlant t)
  ∧ (∀ s t : State, s.numbersDistinct → step s = .next t → t.numbersDistinct)
  ∧ State.reset.numbersDistinct

/-- DESIGNATE_SPARE naming a bay: the rows of R143 in their order, and what acceptance does. The card is executed also where a job slot holds
its index (the model's choice, row 73). -/
def Obligations.SpareDesignated : Prop :=
  ∀ (i : Fin 64) (b : BayNo) (s : State),
    let r := s.bay b
    let sent (reason : Reason) (t : State) :=
      exec (.designateSpare i b.val) s = .next (conclude (startThread (answerCard s.cardBase i reason) t))
    let held := r.docket.isSome = true ∨ r.channel.isOpen = true ∨ r.stranded = true ∨ r.state.working = true
    (r.installed = false → sent .notInstalled s)
    ∧ (r.installed = true ∧ (r.state = .retired ∨ r.failing = true) → sent .badService s)
    ∧ (r.installed = true ∧ r.state ≠ .retired ∧ r.failing = false ∧ s.health.spare = some b → sent .none s)
    ∧ (r.installed = true ∧ r.state ≠ .retired ∧ r.failing = false ∧ (∃ x, s.health.spare = some x ∧ x ≠ b) → sent .inUse s)
    ∧ (r.installed = true ∧ r.state ≠ .retired ∧ r.failing = false ∧ s.health.spare = none ∧ held → sent .busy s)
    ∧ (r.installed = true ∧ r.failing = false ∧ s.health.spare = none ∧ ¬ held ∧ r.state = .idle →
        sent .none (setBayState b .spare (setSpare (some b) (setLogical b none s))))
    ∧ (r.installed = true ∧ r.failing = false ∧ s.health.spare = none ∧ ¬ held
        ∧ (r.state = .discovering ∨ r.state = .resetting ∨ r.state = .absent) →
        sent .none (setSpare (some b) (setLogical b none s)))

/-- DESIGNATE_SPARE naming no bay (R144): with no spare nothing changes; a number held by another bay refuses the card; otherwise the
spare takes its physical number and is designated no more, a bay in SPARE entering IDLE (or RETIRED where it is failing) in the same event with a
round started where one may run, any other keeping its state until its next IDENTITY, which takes it to IDLE. That the card is executed also where
a job slot holds its index is the model's choice (row 73). -/
def Obligations.SpareReturned : Prop :=
  ∀ (i : Fin 64) (s : State),
    let sent (reason : Reason) (t : State) :=
      exec (.designateSpareNone i) s = .next (conclude (startThread (answerCard s.cardBase i reason) t))
    (s.health.spare = none → sent .none s)
    ∧ (∀ sp : BayNo, s.health.spare = some sp → (∃ x : BayNo, x ≠ sp ∧ (s.bay x).logical = some sp) → sent .inUse s)
    ∧ (∀ sp : BayNo, s.health.spare = some sp → (∀ x : BayNo, x ≠ sp → (s.bay x).logical ≠ some sp) →
      ∃ t : State, sent .none t ∧ t.health = { s.health with spare := none } ∧ s.sameHost t ∧ s.sameWork t ∧ s.samePlant t
        ∧ t.transport = s.transport ∧ s.otherBays t sp
        ∧ ((s.bay sp).state = .spare ∧ (s.bay sp).failing = false →
            (t.bay sp).logical = some sp ∧ (t.bay sp).state = .idle
            ∧ ((s.tower.state = .running ∨ s.tower.state = .halted) ∧ s.regs.run = true → t.roundDue = true))
        ∧ ((s.bay sp).state = .spare ∧ (s.bay sp).failing = true → (t.bay sp).state = .retired)
        ∧ ((s.bay sp).state ≠ .spare → (t.bay sp).logical = some sp ∧ (t.bay sp).state = (s.bay sp).state))
    ∧ (∀ (b : BayNo) (d : Drive), s.health.spare ≠ some b → (s.bay b).state = .discovering → s.hasReq b .identify = true →
        (s.bay b).docket = none → (s.bay b).stranded = false → (s.bay b).failing = false →
        ((onIdentity b d s).bay b).state = .idle)

/-- REINSTATE_BAY: not installed and not RETIRED are refused; a RETIRED bay has its counters and mark cleared, takes its own number where
no bay holds it, else the free designation, else neither, and goes to DISCOVERING with IDENTIFY sent. A designation that the bay kept through
its retirement (row 36) is ended, and given again only where the bay's number is held. A RETIRED bay that still holds its own number counts as
a holder of it (the model's choice, row 70). The card is executed also where a job slot holds its index (row 73). -/
def Obligations.BayReinstated : Prop :=
  ∀ (i : Fin 64) (b : BayNo) (s : State),
    let sent (reason : Reason) (t : State) :=
      exec (.reinstateBay i b.val) s = .next (conclude (startThread (answerCard s.cardBase i reason) t))
    ((s.bay b).installed = false → sent .notInstalled s)
    ∧ ((s.bay b).installed = true ∧ (s.bay b).state ≠ .retired → sent .badService s)
    ∧ ((s.bay b).installed = true ∧ (s.bay b).state = .retired → ∃ t : State, sent .none t
      ∧ s.sameHost t ∧ s.sameWork t ∧ s.samePlant t ∧ t.transport = s.transport ∧ t.faults = s.faults
      ∧ (t.bay b).soft = 0 ∧ (t.bay b).hard = 0 ∧ (t.bay b).failing = false ∧ (t.bay b).state = .discovering
      ∧ t.hasReq b .identify = true
      ∧ ((∀ x : BayNo, (s.bay x).logical ≠ some b) → (t.bay b).logical = some b
          ∧ t.health = { s.health with spare := if s.health.spare = some b then none else s.health.spare })
      ∧ ((∃ x : BayNo, (s.bay x).logical = some b) ∧ s.health.spare = none →
          (t.bay b).logical = (s.bay b).logical ∧ t.health = { s.health with spare := some b })
      ∧ ((∃ x : BayNo, (s.bay x).logical = some b) ∧ s.health.spare ≠ none →
          (t.bay b).logical = (s.bay b).logical ∧ t.health = s.health)
      ∧ ∀ x : BayNo, x ≠ b → t.bay x = s.bay x)

/-- RESET_BAY (R87): refused for a bay that is not installed or is RETIRED, OK and nothing more for one already RESETTING, and a bay reset
for any other. The reset leaves the bay RESETTING with RESET outstanding, and keeps its failing mark, counters and logical number; a
docket of the bay is dissolved where it is RESERVED, and otherwise, GOOD_WAIT included, takes BAY_RESET where it had no cause. The card is executed
also where a job slot holds its index (the model's choice, row 73). -/
def Obligations.BayReset : Prop :=
  ∀ (i : Fin 64) (b : BayNo) (s : State),
    let sent (reason : Reason) (t : State) :=
      exec (.resetBay i b.val) s = .next (conclude (startThread (answerCard s.cardBase i reason) t))
    ((s.bay b).installed = false → sent .notInstalled s)
    ∧ ((s.bay b).installed = true ∧ (s.bay b).state = .retired → sent .badService s)
    ∧ ((s.bay b).installed = true ∧ (s.bay b).state = .resetting → sent .none s)
    ∧ ((s.bay b).installed = true ∧ (s.bay b).state ≠ .retired ∧ (s.bay b).state ≠ .resetting → sent .none (startReset b s))
    ∧ ((s.bay b).state ≠ .retired ∧ (s.bay b).state ≠ .resetting →
        ((startReset b s).bay b).state = .resetting ∧ (startReset b s).hasReq b .reset = true
        ∧ ((startReset b s).bay b).channel = .closed ∧ s.sameHost (startReset b s) ∧ s.samePlant (startReset b s)
        ∧ ((startReset b s).bay b).failing = (s.bay b).failing ∧ ((startReset b s).bay b).soft = (s.bay b).soft
        ∧ ((startReset b s).bay b).hard = (s.bay b).hard ∧ ((startReset b s).bay b).logical = (s.bay b).logical)
    ∧ (∀ (d : DocketNo) (r : Docket), (s.bay b).state ≠ .retired → (s.bay b).state ≠ .resetting →
        (s.bay b).docket = some d → s.docket d = some r →
        (r.state = .reserved → (startReset b s).docket d = none)
        ∧ (r.state ≠ .reserved → r.cause = .none →
          ∃ r' : Docket, (startReset b s).docket d = some r' ∧ r'.cause = .bayReset ∧ r'.verdict = some .reject))

/-- RESUME_TRANSPORT: refused with NOT_HALTED unless the transport is HALTED; then it enters HOMING, with lift home's sensor
choosing the first step, the HALTED cause left as it is, and a HALTED tower returns to RUNNING. CALIBRATE: refused with BUSY
while a docket is in use; OK and nothing more while the tower is LOADING; otherwise the transport is STOPPED with no work in
hand, the tower enters LOADING, and the loader reads the geometry again. Whether the arm carries a disc is read afresh from disc-present at the
resume (row 16), and where a CALIBRATE ends a halt (row 84), the model's choices. Each card is executed also where a job slot holds its
index (the model's choice, row 73). -/
def Obligations.TransportServices : Prop :=
  (∀ (i : Fin 64) (s : State),
    (s.transport.state ≠ .halted → exec (.resumeTransport i) s =
      .next (conclude (startThread (answerCard s.cardBase i .notHalted) s)))
    ∧ (s.transport.state = .halted → ∃ t : State,
      exec (.resumeTransport i) s = .next (conclude (startThread (answerCard s.cardBase i .none) t))
      ∧ s.sameWork t ∧ s.samePlant t ∧ t.bays = s.bays ∧ t.regs = s.regs ∧ t.board = s.board ∧ t.faults = s.faults
      ∧ t.transport.state = .homing ∧ t.transport.errand = s.transport.errand ∧ t.transport.queue = s.transport.queue
      ∧ t.transport.carrying = (s.transport.carrying && s.sensor .discPresent)
      ∧ (s.sensor .liftHome = true → t.transport.phase = .homeUp ∧ t.transport.lift.up = true)
      ∧ (s.sensor .liftHome = false → t.transport.phase = .homeDown ∧ t.transport.lift.up = false
          ∧ t.transport.lift.homeTimer = some 60000)
      ∧ t.transport.lift.duty = s.cal.creepDuty
      ∧ (s.tower.state = .halted → t.tower.state = .running)
      ∧ (s.tower.state ≠ .halted → t.tower.state = s.tower.state)))
  ∧ (∀ (i : Fin 64) (s : State),
    let sent (reason : Reason) (t : State) :=
      exec (.calibrate i) s = .next (conclude (startThread (answerCard s.cardBase i reason) t))
    ((∃ d : DocketNo, s.docket d ≠ none) → sent .busy s)
    ∧ ((∀ d : DocketNo, s.docket d = none) ∧ s.tower.state = .loading → sent .none s)
    ∧ ((∀ d : DocketNo, s.docket d = none) ∧ s.tower.state ≠ .loading → ∃ t : State, sent .none t
      ∧ t.tower.state = .loading ∧ t.tower.loader = .geometry ∧ t.transport.state = .stopped
      ∧ t.transport.errand = none ∧ t.transport.lift.duty = 0 ∧ t.transport.swing = none
      ∧ t.transport.carrying = (s.transport.carrying && (s.transport.state != .halted || s.sensor .discPresent))
      ∧ t.regs = s.regs ∧ t.tower.calibration = s.tower.calibration ∧ s.sameWork t ∧ s.samePlant t ∧ t.health = s.health
      ∧ t.faults = s.faults))

/-! ### Dispatch -/

/-- A dispatch round: none is run unless one was started; one that may not be run is forgotten; otherwise the logical numbers
are considered once each, in increasing order. The creation of the free docket of lowest number for a pairing: the values of R2, the bay
RESERVED, the job's in-flight count raised, the LOAD queued; and nothing is created for a number no bay holds, a bay that is not IDLE or is
failing, no pairing, or no free docket.
That a command with no round started runs none is the model's reading (row 8). -/
def Obligations.DispatchRound : Prop :=
  (∀ s : State,
    (s.roundDue = false → exec .dispatchRound s = .next (conclude s))
    ∧ (s.roundDue = true → ¬ ((s.tower.state = .running ∨ s.tower.state = .halted) ∧ s.regs.run = true) →
      exec .dispatchRound s = .next (conclude { s with roundDue := false }))
    ∧ (s.roundDue = true → (s.tower.state = .running ∨ s.tower.state = .halted) ∧ s.regs.run = true →
      exec .dispatchRound s = .next (conclude
        (([0, 1, 2, 3, 4, 5, 6, 7, 8, 9, 10, 11] : List BayNo).foldl (fun u n => considerBay n u) { s with roundDue := false }))))
  ∧ (∀ (n : BayNo) (s : State), (∀ b : BayNo, (s.bay b).logical ≠ some n) → considerBay n s = s)
  ∧ (∀ (n b : BayNo) (s : State), s.numbersDistinct → (s.bay b).logical = some n →
    ((s.bay b).state ≠ .idle ∨ (s.bay b).failing = true ∨ s.pairing (s.bay b) n = none ∨ ∀ d : DocketNo, s.docket d ≠ none) →
    considerBay n s = s)
  ∧ (∀ (n b : BayNo) (k : SlotNo) (j : Job) (i : InputBin) (d : DocketNo) (s : State),
    s.numbersDistinct → (s.bay b).logical = some n → (s.bay b).state = .idle → (s.bay b).failing = false →
    s.pairing (s.bay b) n = some (k, j, i) → s.docket d = none → (∀ x : DocketNo, x < d → s.docket x ≠ none) →
    (∀ t ∈ s.transport.queue, t.docket ≠ d) → (∀ t, s.taskInFlight = some t → t.docket ≠ d) →
    s.sameHost (considerBay n s) ∧ s.samePlant (considerBay n s) ∧ (considerBay n s).faults = s.faults
    ∧ ∃ r : Docket, (considerBay n s).docket d = some r
      ∧ r.slot = k ∧ r.ticket = j.ticket ∧ r.ordinal = none ∧ r.inputBin = i ∧ r.bay = b ∧ r.logical = n ∧ r.place = none
      ∧ r.state = .reserved ∧ r.verdict = none ∧ r.cause = .none ∧ r.groupsWritten = 0 ∧ r.links = 0 ∧ r.rereads = 0
      ∧ (j.bandCount = 0 → r.print = none)
      ∧ (j.bandCount ≠ 0 → r.print = some { fired := 0, crowded := 0, dropped := 0, clipped := 0, slips := 0 })
      ∧ r.picked = none ∧ r.burnStart = none ∧ r.burnEnd = none ∧ r.verdictTime = none ∧ r.landed = none
      ∧ r.outputBin = none
      ∧ ((considerBay n s).bay b).state = .reserved ∧ ((considerBay n s).bay b).docket = some d
      ∧ (considerBay n s).job k = some { j with inFlight := j.inFlight + 1 }
      ∧ (considerBay n s).transport.queue = s.transport.queue ++
          [{ docket := d, kind := .load, source := .input i, dest := .bay b, age := s.transport.nextAge }]
      ∧ (∀ x, x ≠ d → (considerBay n s).docket x = s.docket x) ∧ (∀ x, x ≠ k → (considerBay n s).job x = s.job x)
      ∧ (∀ x, x ≠ b → (considerBay n s).bay x = s.bay x))

/-- The pairing of an idle bay: among the jobs that are eligible (R39) and for which a bin can be chosen (R40), the one of highest priority,
then lowest ticket, then lowest slot; none where there is none. The bin is A where A is LOADED with the job's class, else B where
B is. -/
def Obligations.PairingIsFirst : Prop :=
  ∀ (r : Bay) (dr : Drive) (n : BayNo) (s : State), r.drive = some dr →
    (∀ k j, s.job k = some j → j.priority < 4 ∧ j.ticket < 2 ^ 32) →
    let fits (j : Job) := j.state = .active ∧ j.good + j.inFlight < j.copies ∧ j.reject ≤ j.maxRejects
      ∧ hasClass dr.classes j.mediaClass = true ∧ j.mask.getLsbD n.val = true
      ∧ ((s.bins.a.state = .loaded ∧ s.bins.a.cls = j.mediaClass) ∨ (s.bins.b.state = .loaded ∧ s.bins.b.cls = j.mediaClass))
    (∀ k j i, s.pairing r n = some (k, j, i) →
      s.job k = some j ∧ fits j
      ∧ (i = .a ↔ s.bins.a.state = .loaded ∧ s.bins.a.cls = j.mediaClass)
      ∧ ∀ k' j', s.job k' = some j' → fits j' →
          j'.priority < j.priority ∨ (j'.priority = j.priority ∧
            (j.ticket < j'.ticket ∨ (j.ticket = j'.ticket ∧ k ≤ k'))))
    ∧ (s.pairing r n = none → ∀ k j, s.job k = some j → ¬ fits j)

/-- A dispatch round never creates more than the copies: good count plus in-flight count of no job passes its copies. -/
def Obligations.DemandKept : Prop :=
  ∀ s : State, s.demandKept → (dispatchRound s).demandKept

/-- The eligibility of a task (R60): its kind's source and destination conditions, on the state at the decision; and an ineligible task
holds no eligible one back. -/
def Obligations.TaskEligible : Prop :=
  ∀ (t : Task) (s : State),
    (∀ i b, t.kind = .load → t.source = .input i → t.dest = .bay b →
      (s.eligible t = true ↔ (s.bins.input i).state ≠ .open ∧ (s.bay b).state = .reserved))
    ∧ (∀ b, t.kind = .unload → t.source = .bay b → t.dest = .printer →
      (s.eligible t = true ↔ ((s.bay b).state = .holding ∨ ((s.bay b).state = .absent ∧ (s.bay b).tray = .open))
        ∧ s.printer.state = .empty))
    ∧ (∀ b o, t.kind = .unload → t.source = .bay b → t.dest = .output o →
      (s.eligible t = true ↔ ((s.bay b).state = .holding ∨ ((s.bay b).state = .absent ∧ (s.bay b).tray = .open))
        ∧ s.outBin o = .available))
    ∧ (∀ o, t.kind = .printerOut → t.source = .printer → t.dest = .output o →
      (s.eligible t = true ↔ s.printer.state = .readyOut ∧ s.outBin o = .available))
    ∧ ((∃ u ∈ s.transport.queue, s.eligible u = true) → s.nextTask ≠ none)
    ∧ (∀ u, s.nextTask = some u → s.eligible u = true ∧ u ∈ s.transport.queue)
    ∧ (∀ u v : Task, s.nextTask = some u → v ∈ s.transport.queue → s.eligible v = false → v.docket ≠ u.docket →
        v ∈ (unqueueTask u.docket s).transport.queue)

/-- A grant (R61). While the transport is FREE and the queue holds an eligible task, one is granted, and no event ends before it is; otherwise
none is. It is the eligible task of the highest class, PRINTER_OUT above UNLOAD above LOAD, and the oldest of its class. At the grant the task leaves
the queue, the transport is BUSY with it, its pick leg begins, and TRAY_OPEN is asked of the bay it has as its source or destination: the bay enters
OPENING with the request outstanding, or OPEN where its tray is open already, and an ABSENT bay keeps its state. A LOAD whose input bin is EMPTY ends
in the same event: its docket is dissolved, the transport stays FREE, nothing moves, and no TRAY_OPEN is sent. -/
def Obligations.GrantOrder : Prop :=
  ∀ s : State,
    let waits := ∃ t ∈ s.transport.queue, s.eligible t = true
    (¬ (s.transport.state = .free ∧ waits) → grant s = none)
    ∧ (s.transport.state = .free → waits → settleStep s ≠ none ∧ ∃ u t, s.nextTask = some u ∧ grant s = some t)
    ∧ (∀ u v : Task, s.nextTask = some u → v ∈ s.transport.queue → s.eligible v = true →
      (v.kind = .printerOut → u.kind = .printerOut) ∧ (v.kind = .unload → u.kind ≠ .load)
      ∧ (v.kind = u.kind → u.age ≤ v.age))
    ∧ (∀ u : Task, s.transport.state = .free → s.nextTask = some u →
      let empty := u.kind = .load ∧ ∃ i, u.source = .input i ∧ (s.bins.input i).state = .empty
      let left := s.transport.queue.filter fun t => t.docket != u.docket
      (¬ empty → ∃ t : State, grant s = some t
        ∧ t.transport = { s.transport with
            state := .busy, queue := left, phase := .lift .pick, lift := (startMove (s.position u.source) s).transport.lift
            errand := some { work := .task u, source := some u.source, dest := u.dest, held := false, misses := 0 } }
        ∧ s.sameHost t ∧ s.sameWork t ∧ s.samePlant t ∧ t.faults = s.faults
        ∧ ∀ b : BayNo,
          (u.source ≠ .bay b → u.dest ≠ .bay b → t.bay b = s.bay b)
          ∧ (u.source = .bay b ∨ u.dest = .bay b →
            ((s.bay b).tray = .open ∧ s.hasReq b .trayClose = false → t.out = s.out ∧ t.bay b = { s.bay b with
                state := if (s.bay b).state = .absent then .absent else .open })
            ∧ (¬ ((s.bay b).tray = .open ∧ s.hasReq b .trayClose = false) → t.hasReq b .trayOpen = true
              ∧ (t.bay b).state = if (s.bay b).state = .absent then .absent else .opening)))
      ∧ (∀ r : Docket, empty → s.docket u.docket = some r → ∃ t : State, grant s = some t
        ∧ t.docket u.docket = none ∧ t.transport.queue = left ∧ t.transport.state = .free
        ∧ t.transport.lift = s.transport.lift ∧ t.transport.swing = s.transport.swing ∧ t.transport.gripper = s.transport.gripper
        ∧ (∀ b : BayNo, t.hasReq b .trayOpen = s.hasReq b .trayOpen)
        ∧ ((s.bay r.bay).docket = some u.docket → (s.bay r.bay).state = .reserved → (s.bay r.bay).failing = false →
            (t.bay r.bay).docket = none ∧ (t.bay r.bay).state = .idle ∧ s.otherBays t r.bay)
        ∧ ∀ j : Job, s.job r.slot = some j → ∀ j' : Job, t.job r.slot = some j' → j'.inFlight = j.inFlight - 1))

/-! ### The transport -/

/-- The filter of a sensor: a sample equal to the filtered value clears the count of differing ones, the first three that differ are
counted, and the fourth in succession changes the filtered value. -/
def Obligations.SampleFilter : Prop :=
  ∀ (x : Sensor) (level : Bool) (s : State),
    (level = (s.filter x).on → exec (.sensorSample x level) s = .next (s.setFilter x { on := level, agree := 0 }))
    ∧ (level ≠ (s.filter x).on → (s.filter x).agree < 3 →
      exec (.sensorSample x level) s = .next (s.setFilter x { on := !level, agree := (s.filter x).agree + 1 }))
    ∧ (level ≠ (s.filter x).on → 3 ≤ (s.filter x).agree →
      exec (.sensorSample x level) s = exec (.sensorChange x level) s
      ∧ exec (.sensorSample x level) s = .next (conclude (changeSensor x level s)))

/-- A change of a filtered sensor: one that has the value already is none. The sensors the arm waits on change alone; an input
bin's door opens the bin (OPEN) and closes it LOADED, which is an event for the dispatcher; an output bin's door, closing, sets
its count to 0. Tray-present: coming on at an EMPTY printer with no place under way it makes the printer READY_OUT, and is
FOREIGN_DISC while the tower is RUNNING; going off under a docket with no grip under way it is TRAY_LOST; else it changes alone.
Disc-present falling under a carried disc changes alone where the transport is HALTED; in the other states it is a drop.
That a change to the value held is none is the model's reading (row 7), that a HALTED transport takes no drop is row 16, and
that a place ended by a RELEASE fault is no longer under way is row 64, and that only a grip at the printer keeps TRAY_LOST back is row 85. -/
def Obligations.SensorChanges : Prop :=
  (∀ (x : Sensor) (on : Bool) (s : State),
    let s1 := s.setFilter x { on := on, agree := 0 }
    (s.sensor x = on → exec (.sensorChange x on) s = .next s)
    ∧ (s.sensor x ≠ on → (x = .liftHome ∨ x = .swingBin ∨ x = .swingBay ∨ x = .contact ∨ x = .stackA ∨ x = .stackB
        ∨ (x = .discPresent ∧ (on = true ∨ s.transport.carrying = false ∨ s.transport.state = .halted))) →
      exec (.sensorChange x on) s = .next (conclude s1))
    ∧ (s.sensor x ≠ on → x = .doorA → exec (.sensorChange x on) s = .next (conclude
        (if on = true then setInput .a .open s1 else triggerRound (setInput .a .loaded s1))))
    ∧ (s.sensor x ≠ on → x = .doorB → exec (.sensorChange x on) s = .next (conclude
        (if on = true then setInput .b .open s1 else triggerRound (setInput .b .loaded s1))))
    ∧ (s.sensor x ≠ on → x = .doorGood → exec (.sensorChange x on) s = .next (conclude (reportStatus
        (if on = true then s1 else { s1 with bins := { s1.bins with good := { s1.bins.good with count := 0 } } }))))
    ∧ (s.sensor x ≠ on → x = .doorReject → exec (.sensorChange x on) s = .next (conclude (reportStatus
        (if on = true then s1 else { s1 with bins := { s1.bins with reject := { s1.bins.reject with count := 0 } } })))))
  ∧ (∀ s : State,
    let on := s.setFilter .trayPresent { on := true, agree := 0 }
    let off := s.setFilter .trayPresent { on := false, agree := 0 }
    (s.sensor .trayPresent = false → s.printer.state = .empty → s.placingAtPrinter = false → s.tower.state = .running →
      exec (.sensorChange .trayPresent true) s = .next (conclude (reportFault .foreignDisc none none (setPrinter .readyOut on))))
    ∧ (s.sensor .trayPresent = false → s.printer.state = .empty → s.placingAtPrinter = false → s.tower.state ≠ .running →
      exec (.sensorChange .trayPresent true) s = .next (conclude (setPrinter .readyOut on)))
    ∧ (s.sensor .trayPresent = false → s.printer.state ≠ .empty ∨ s.placingAtPrinter = true →
      exec (.sensorChange .trayPresent true) s = .next (conclude on))
    ∧ (∀ d, s.sensor .trayPresent = true → s.printer.docket = some d → s.grippingAtPrinter = false →
      exec (.sensorChange .trayPresent false) s = .next (conclude (reportFault .trayLost none (some d) off)))
    ∧ (s.sensor .trayPresent = true → s.printer.docket = none ∨ s.grippingAtPrinter = true →
      exec (.sensorChange .trayPresent false) s = .next (conclude off)))

/-- A drop: disc-present falling while the arm carries the disc of the task in flight, whose pick has held, in BUSY, HOMING, SWEEPING or FREE,
loses its docket, which lands LOST with cause DROPPED where it had none, at the place it was last held, and the transport halts with DROP. A disc
that belongs to no docket loses none: a task in flight whose own pick has not held stays in flight with its docket and is named (row 84). With no
task in flight no docket is lost and none is named, and the transport halts with DROP as well; a sweep move stays in hand. Tray-present not on within
500 ms of a release at the printer: the docket is lost with place ARM and cause DROPPED where it had none, and the transport
halts.
That the fault entry of a drop names the lost docket and its bay, and a sweep move neither, is the model's choice (row 12); that a drop in FREE
halts is its reading (row 16). -/
def Obligations.DiscsDropped : Prop :=
  (∀ (t : Task) (e : Errand) (r : Docket) (s : State),
    s.sensor .discPresent = true → s.transport.carrying = true → s.taskInFlight = some t → s.docket t.docket = some r →
    s.transport.errand = some e → e.held = true →
    s.transport.state = .busy ∨ s.transport.state = .homing ∨ s.transport.state = .sweeping ∨ s.transport.state = .free →
    s.faults.first = none → (∀ b : BayNo, (s.bay b).failing = false) →
    ∃ u : State, exec (.sensorChange .discPresent false) s = .next (conclude u)
      ∧ u.jobs = s.jobs ∧ u.bins = s.bins ∧ u.board = s.board
      ∧ u.transport.state = .halted ∧ u.transport.carrying = false ∧ u.transport.lift.duty = 0 ∧ u.transport.swing = none
      ∧ u.regs.halted = true ∧ (s.tower.state = .running → u.tower.state = .halted)
      ∧ (∃ e : FaultEntry, u.faults.first = some e ∧ e.code = .drop ∧ e.bay = t.bay ∧ e.docket = some t.docket)
      ∧ ∃ r' : Docket, u.docket t.docket = some r' ∧ r'.state = .landed ∧ r'.outputBin = none
        ∧ r'.landed = some s.tower.time ∧ r'.place = some (r.place.getD .arm)
        ∧ (r.cause = .none → r'.cause = .dropped ∧ r'.verdict = some .reject) ∧ (r.cause ≠ .none → r'.cause = r.cause))
  ∧ (∀ (t : Task) (e : Errand) (s : State),
    s.sensor .discPresent = true → s.transport.carrying = true → s.taskInFlight = some t →
    s.transport.errand = some e → e.held = false →
    s.transport.state = .busy ∨ s.transport.state = .homing ∨ s.transport.state = .sweeping ∨ s.transport.state = .free →
    ∃ u : State, exec (.sensorChange .discPresent false) s = .next (conclude u)
      ∧ u.transport.state = .halted ∧ u.transport.carrying = false ∧ u.transport.lift.duty = 0 ∧ u.transport.swing = none
      ∧ u.transport.errand = s.transport.errand ∧ u.transport.queue = s.transport.queue ∧ u.regs.halted = true
      ∧ (s.tower.state = .running → u.tower.state = .halted)
      ∧ s.sameWork u ∧ u.bays = s.bays ∧ u.bins = s.bins ∧ u.printer = s.printer
      ∧ (s.faults.first = none → u.faults.first = some { code := .drop, bay := t.bay, docket := some t.docket, time := s.tower.time }))
  ∧ (∀ s : State,
    s.sensor .discPresent = true → s.transport.carrying = true → (∀ e, s.transport.errand = some e → e.work = .sweep) →
    s.transport.state = .busy ∨ s.transport.state = .homing ∨ s.transport.state = .sweeping ∨ s.transport.state = .free →
    ∃ u : State, exec (.sensorChange .discPresent false) s = .next (conclude u)
      ∧ u.transport.state = .halted ∧ u.transport.carrying = false ∧ u.transport.lift.duty = 0 ∧ u.transport.swing = none
      ∧ u.transport.errand = s.transport.errand ∧ u.regs.halted = true ∧ (s.tower.state = .running → u.tower.state = .halted)
      ∧ s.sameWork u ∧ u.bays = s.bays ∧ u.bins = s.bins ∧ u.printer = s.printer
      ∧ (s.faults.first = none → u.faults.first = some { code := .drop, bay := none, docket := none, time := s.tower.time }))
  ∧ (∀ (t : Task) (r : Docket) (s : State),
    s.transport.placeTimer ≠ none → s.transport.phase = .awaitTray → s.taskInFlight = some t → s.docket t.docket = some r →
    ∃ u : State, exec .printerPlaceTimeout s = .next (conclude u) ∧ u.transport.state = .halted ∧ u.regs.halted = true
      ∧ ∃ r' : Docket, u.docket t.docket = some r' ∧ r'.state = .landed ∧ r'.outputBin = none ∧ r'.place = some .arm
        ∧ r'.cause = (if r.cause = .none then .dropped else r.cause))

/-- An encoder edge: the count goes up or down by 1 and the stall timer starts again while the duty is not 0. Within 4 counts of its target a
move or its correction stops and settles for 50 ms, and a descent stops at the floor. That only the edges in the direction of a homing step count
as its travel is the model's reading (row 19). -/
def Obligations.EncoderEdges : Prop :=
  ∀ (up : Bool) (t : Nat) (s : State),
    let l := s.transport.lift
    let n : Int := if up = true then l.count + 1 else l.count - 1
    let near := ((t : Int) - n).natAbs ≤ 4
    let gives (l' : Lift) := exec (.liftEncoderEdge up) s = .next (conclude { s with transport := { s.transport with lift := l' } })
    let stall : Timer := if l.duty = 0 then none else some 250
    (l.mode = .move t → near → gives { l with count := n, mode := .settling t false, duty := 0, stallTimer := none, settleTimer := some 50 })
    ∧ (l.mode = .correct t → near →
      gives { l with count := n, mode := .settling t true, duty := 0, stallTimer := none, settleTimer := some 50 })
    ∧ (l.mode = .descend t → near → gives { l with
        count := n, mode := .still, duty := 0, stallTimer := none, moveTimer := none, settleTimer := none, homeTimer := none })
    ∧ (l.mode = .move t ∨ l.mode = .correct t ∨ l.mode = .descend t → ¬ near → gives { l with count := n, stallTimer := stall })
    ∧ (l.mode = .still ∨ (∃ x c, l.mode = .settling x c) → gives { l with count := n, stallTimer := stall })
    ∧ (l.mode = .homeUp → gives { l with count := n, stallTimer := stall, travel := if up = true then l.travel + 1 else l.travel })
    ∧ (l.mode = .homeDown → gives { l with count := n, stallTimer := stall, travel := if up = true then l.travel else l.travel + 1 })

/-- The start of a move and its duty each millisecond (table of R46): creep within 32 counts, braking down by the ramp step to
the creep duty, else up by the ramp step to the cruise duty; a move asked for within 4 counts ends at once. The end of the 50 ms
settle: within 4 counts the move is complete; a first miss starts one correction at creep duty toward the target; a miss after
the correction is POSITION. -/
def Obligations.LiftMoves : Prop :=
  (∀ (t : Nat) (s : State),
    let l := s.transport.lift
    let c := s.cal
    let d := ((t : Int) - l.count).natAbs
    let duty (v : Nat) := exec .dutyUpdate s = .next { s with transport := { s.transport with lift := { l with duty := v } } }
    (l.mode = .move t → d ≤ 32 → duty c.creepDuty)
    ∧ (l.mode = .move t → 32 < d → d ≤ c.braking → duty (if c.creepDuty ≤ l.duty - c.rampStep then l.duty - c.rampStep else c.creepDuty))
    ∧ (l.mode = .move t → 32 < d → c.braking < d → duty (if l.duty + c.rampStep ≤ c.cruiseDuty then l.duty + c.rampStep else c.cruiseDuty))
    ∧ ((∀ x, l.mode ≠ .move x) → exec .dutyUpdate s = .next s)
    ∧ (d ≤ 4 → (startMove t s).transport.lift.mode = .still ∧ (startMove t s).transport.lift.duty = 0)
    ∧ (4 < d → (startMove t s).transport.lift.mode = .move t ∧ (startMove t s).transport.lift.moveTimer = some 10000
        ∧ ((startMove t s).transport.lift.up = true ↔ l.count < (t : Int))
        ∧ (startMove t s).transport.lift.duty =
            (if d ≤ 32 then c.creepDuty else if c.startDuty ≤ c.cruiseDuty then c.startDuty else c.cruiseDuty)))
  ∧ (∀ (t : Nat) (corrected : Bool) (s : State),
    let l := s.transport.lift
    let d := ((t : Int) - l.count).natAbs
    l.mode = .settling t corrected → l.settleTimer ≠ none →
    (d ≤ 4 → exec .settleExpiry s = .next (conclude { s with transport := { s.transport with lift := { l with
        mode := .still, duty := 0, stallTimer := none, moveTimer := none, settleTimer := none, homeTimer := none } } }))
    ∧ (4 < d → corrected = false → exec .settleExpiry s = .next (conclude { s with transport := { s.transport with lift := { l with
        mode := .correct t, duty := s.cal.creepDuty, up := decide (l.count < (t : Int))
        stallTimer := if s.cal.creepDuty = 0 then none else some 250, settleTimer := none } } }))
    ∧ (4 < d → corrected = true → exec .settleExpiry s = .next (conclude (transportFault .position s))))

/-- The limits of a motion: a stall of 250 ms with a duty above 0 and a move of 10 s are JAM, the travel limit and the 60 s of homing are HOME,
3 s of swing without its sensor are SWING. A timer that is not running has no effect.
The last is the model's reading (row 2), and so is what counts as travel (row 19). -/
def Obligations.MotionLimits : Prop :=
  ∀ s : State,
    (s.transport.lift.stallTimer ≠ none → s.transport.lift.duty ≠ 0 → exec .stallTimeout s = .next (conclude (transportFault .jam s)))
    ∧ (s.transport.lift.stallTimer = none ∨ s.transport.lift.duty = 0 → exec .stallTimeout s = .next s)
    ∧ (s.transport.lift.moveTimer ≠ none → exec .moveTimeout s = .next (conclude (transportFault .jam s)))
    ∧ (s.transport.lift.moveTimer = none → exec .moveTimeout s = .next s)
    ∧ ((s.transport.lift.mode = .homeUp ∧ 2000 ≤ s.transport.lift.travel) ∨ (s.transport.lift.mode = .homeDown ∧ 210000 ≤ s.transport.lift.travel)
        → exec .homeTravelLimit s = .next (conclude (transportFault .home s)))
    ∧ (s.transport.lift.homeTimer ≠ none → exec .homeTimeout s = .next (conclude (transportFault .home s)))
    ∧ (s.transport.lift.homeTimer = none → exec .homeTimeout s = .next s)
    ∧ (s.transport.swingTimer ≠ none → exec .swingTimeout s = .next (conclude (transportFault .swing s)))
    ∧ (s.transport.swingTimer = none → exec .swingTimeout s = .next s)

/-- A transport fault (R64): the motors stop, the transport is HALTED, the HALTED cause is set, a RUNNING tower enters HALTED and no other does,
the fault is reported with the bay and the docket of the task in flight, by the destination it has now, and jobs, dockets, bays and bins stay as
they are. Of a task whose docket is gone and whose motion is being finished the bay alone is named, and of a sweep move neither (row 12). -/
def Obligations.FaultHaltsTransport : Prop :=
  ∀ (code : FaultCode) (s : State),
    let t := transportFault code s
    let bay : Option BayNo := match s.transport.errand with
      | some e => match e.work, e.source, e.dest with
        | .task _, _, _ => s.taskInFlight.bind Task.bay
        | .ended, some (.bay b), _ => some b
        | .ended, _, .bay b => some b
        | _, _, _ => none
      | none => none
    t.transport.state = .halted ∧ t.transport.lift.duty = 0 ∧ t.transport.lift.mode = .still ∧ t.transport.swing = none
    ∧ t.regs.halted = true
    ∧ (s.tower.state = .running → t.tower.state = .halted) ∧ (s.tower.state ≠ .running → t.tower.state = s.tower.state)
    ∧ (s.faults.first = none → (∀ c, t.faults.count c = s.faults.count c) ∧ t.faults.first = some
        { code := code, bay := bay, docket := s.taskInFlight.map (·.docket), time := s.tower.time })
    ∧ (s.faults.first ≠ none → t.faults.first = s.faults.first
        ∧ t.faults.count code.cls = (if s.faults.count code.cls < 255 then s.faults.count code.cls + 1 else 255)
        ∧ ∀ c, c ≠ code.cls → t.faults.count c = s.faults.count c)
    ∧ t.jobs = s.jobs ∧ t.dockets = s.dockets ∧ t.bays = s.bays ∧ t.bins = s.bins ∧ t.transport.queue = s.transport.queue
    ∧ t.taskInFlight = s.taskInFlight ∧ t.printer = s.printer ∧ t.transport.gripperClosed = s.transport.gripperClosed

/-- A GRIP that reads a hold: at an input bin the docket takes the job's next ordinal, INBOUND and its picked time; at a bay it leaves the
bay, OUTBOUND or REJECT_OUTBOUND by its verdict, and the tray is asked to close; at the printer it leaves the printer. -/
def Obligations.GripHolds : Prop :=
  ∀ (t : Task) (e : Errand) (r : Docket) (s : State),
    s.transport.gripper = some .grip → s.transport.phase = .grip → s.sensor .discPresent = true →
    s.transport.errand = some e → e.work = .task t → e.source = some t.source → s.docket t.docket = some r →
    ∃ u : State, exec .gripComplete s = .next (conclude u)
      ∧ s.sameHost u ∧ u.bins = s.bins ∧ u.sensors = s.sensors ∧ u.faults = s.faults
      ∧ u.transport.carrying = true ∧ u.transport.gripperClosed = true ∧ u.transport.gripper = none
      ∧ (∀ (i : InputBin) (j : Job), t.source = .input i → s.job r.slot = some j →
          u.docket t.docket = some { r with
            state := .inbound, ordinal := some j.nextOrdinal, place := some .arm, picked := some s.tower.time }
          ∧ u.job r.slot = some { j with nextOrdinal := j.nextOrdinal + 1 } ∧ u.transport.phase = .raise
          ∧ u.bays = s.bays ∧ u.printer = s.printer)
      ∧ (∀ b : BayNo, t.source = .bay b →
          u.docket t.docket = some { r with
            place := some .arm, state := if r.state = .rejectWait then .rejectOutbound else .outbound }
          ∧ (u.bay b).docket = none ∧ s.otherBays u b ∧ u.jobs = s.jobs ∧ u.printer = s.printer ∧ u.transport.phase = .lift .place
          ∧ ((s.bay b).state = .open → (u.bay b).state = .closing ∧ u.hasReq b .trayClose = true))
      ∧ (t.source = .printer →
          u.docket t.docket = some { r with
            place := some .arm, state := if r.state = .rejectWait then .rejectOutbound else .outbound }
          ∧ u.printer.docket = none ∧ u.bays = s.bays ∧ u.jobs = s.jobs ∧ u.transport.phase = .lift .place)

/-- A GRIP that reads no disc: a first miss at an input bin opens the gripper to try again; a second makes a LOADED bin EMPTY and dissolves
the docket; at a bay or the printer the disc is lost there with cause DROPPED where it had none, and the transport halts with DROP, which
names the docket and its bay (row 12). Disc-present falling under a carried disc in STOPPED: DROP, with the motors stopped, the transport
STOPPED as before (row 16).
The arm's steps: homing goes up from lift home, down to it, sets the count to 0 and turns to the BIN end; a leg moves the lift, turns the swing and
acts at the station. A pick at an input bin waits while the bin is OPEN, reads stack-present, descends, and grips at contact; the descent
that ends without it, and a stack that reads empty, make a LOADED bin EMPTY and dissolve the docket; after a first miss the stack is read
again, the bin OPEN or not. A pick at a bay waits for the tray, one at the printer for READY_OUT; a place waits for an open tray, an EMPTY
printer or an AVAILABLE bin. A disc released at the printer is taken once tray-present is on: its docket is PRINTING with place PRINTER, the printer
SEATING with empty stores, band 0 next and its load begun, the clamp closed for 300 ms, and the arm free. A LOAD in flight whose docket is
dissolved ends at once before the descent has begun; after that the lift stops and returns to the station afresh, a GRIP or a RELEASE under way
being finished first.
That the docket is dissolved at once and the transport stays BUSY until the lift is back is row 13, and that contact is taken as a level and a
descent begun within 4 counts of the floor stops at once is row 18, and that the stall timer starts afresh at the second homing step is row 19.
That a descent runs without the 10 s timer is the model's choice (row 80). -/
def Obligations.MissesAndArmSteps : Prop :=
  (∀ (t : Task) (e : Errand) (r : Docket) (s : State),
    s.transport.gripper = some .grip → s.transport.phase = .grip → s.sensor .discPresent = false →
    s.transport.errand = some e → e.work = .task t → e.source = some t.source → s.docket t.docket = some r →
    s.transport.state = .busy →
    let lost (u : State) (place : Place) (bay : Option BayNo) : Prop :=
      exec .gripComplete s = .next (conclude u)
      ∧ u.transport.state = .halted ∧ u.regs.halted = true ∧ (s.tower.state = .running → u.tower.state = .halted)
      ∧ u.transport.lift.duty = 0 ∧ u.transport.swing = none ∧ u.jobs = s.jobs ∧ u.bins = s.bins ∧ u.board = s.board
      ∧ (s.faults.first = none → (∀ x : BayNo, (s.bay x).failing = false) → u.faults.first = some
          { code := .drop, bay := bay, docket := some t.docket, time := s.tower.time })
      ∧ ∃ r' : Docket, u.docket t.docket = some r' ∧ r'.state = .landed ∧ r'.outputBin = none ∧ r'.place = some place
        ∧ r'.landed = some s.tower.time ∧ r'.cause = (if r.cause = .none then .dropped else r.cause)
        ∧ r'.verdict = (if r.cause = .none then some .reject else r.verdict)
    (∀ i, t.source = .input i → e.misses = 0 → ∃ u : State, exec .gripComplete s = .next (conclude u)
      ∧ u = { s with transport := { s.transport with
          phase := .openMiss, gripperClosed := true, gripper := some .release, gripTimer := some 150, carrying := false
          errand := some { e with misses := 1 } } })
    ∧ (∀ i, t.source = .input i → 1 ≤ e.misses → (s.bins.input i).state = .loaded →
      ∃ u : State, exec .gripComplete s = .next (conclude u) ∧ (u.bins.input i).state = .empty ∧ u.docket t.docket = none
        ∧ u.transport.gripper = some .release ∧ u.transport.phase = .openMiss)
    ∧ (∀ b, t.source = .bay b → ∃ u : State, lost u .bay (some b)
      ∧ ((s.bay b).state = .open → (∀ x : BayNo, (s.bay x).failing = false) → (u.bay b).state = .closing ∧ u.hasReq b .trayClose = true))
    ∧ (t.source = .printer → ∃ u : State, lost u .printer (match e.dest with | .bay x => some x | _ => none)))
  ∧ (∀ s : State, s.sensor .discPresent = true → s.transport.carrying = true → s.transport.state = .stopped →
    ∃ u : State, exec (.sensorChange .discPresent false) s = .next (conclude u)
      ∧ u.transport.state = .stopped ∧ u.transport.carrying = false ∧ u.transport.lift.duty = 0 ∧ u.transport.swing = none
      ∧ u.regs = s.regs ∧ u.tower = s.tower ∧ s.sameWork u ∧ u.bays = s.bays ∧ u.bins = s.bins
      ∧ (s.faults.first = none → u.faults.first = some { code := .drop, bay := none, docket := none, time := s.tower.time }))
  ∧ (∀ s : State, (s.transport.state = .homing ∨ s.transport.state = .sweeping ∨ s.transport.state = .busy) →
    let l := s.transport.lift
    let still : Lift := { l with
      mode := .still, duty := 0, stallTimer := none, moveTimer := none, settleTimer := none, homeTimer := none }
    let stall : Timer := if s.cal.creepDuty = 0 then none else some 250
    let gives (t : Transport) : Prop := armStep s = some { s with transport := t }
    let acts (c : GripCommand) (p : Phase) (lift : Lift) : Prop := gives { s.transport with
      gripper := some c, gripTimer := some 150, phase := p, lift := lift
      carrying := if c = .release then false else s.transport.carrying }
    (s.transport.phase = .homeUp → (s.sensor .liftHome = true → armStep s = none)
      ∧ (s.sensor .liftHome = false → gives { s.transport with phase := .homeDown, lift := { still with
          mode := .homeDown, duty := s.cal.creepDuty, up := false, travel := 0, stallTimer := stall, homeTimer := some 60000 } }))
    ∧ (s.transport.phase = .homeDown → (s.sensor .liftHome = false → armStep s = none)
      ∧ (s.sensor .liftHome = true → gives { s.transport with phase := .homeSwing, lift := { still with count := 0 } }))
    ∧ (s.transport.phase = .homeSwing →
      (s.sensor .swingBin = true → armStep s = some (finishHoming
        { s with transport := { s.transport with swing := none, swingTimer := none } }))
      ∧ (s.sensor .swingBin = false → s.transport.swing = some .bin → armStep s = none)
      ∧ (s.sensor .swingBin = false → s.transport.swing ≠ some .bin →
          gives { s.transport with swing := some .bin, swingTimer := some 3000 }))
    ∧ (∀ leg, s.transport.phase = .raise ∨ s.transport.phase = .lift leg ∨ s.transport.phase = .returnRetry
        ∨ s.transport.phase = .returnEnd → l.mode ≠ .still → armStep s = none)
    ∧ (∀ e, s.transport.phase = .raise → l.mode = .still → s.transport.errand = some e →
      armStep s = some (startMove (s.position e.dest) { s with transport := { s.transport with phase := .lift .place } }))
    ∧ (∀ leg, s.transport.phase = .lift leg → l.mode = .still → gives { s.transport with phase := .turn leg })
    ∧ (∀ leg e st, s.transport.phase = .turn leg → s.transport.errand = some e →
        (leg = .pick ∧ e.source = some st ∨ leg = .place ∧ e.dest = st) →
        let side : Side := match st with | .input _ => .bin | .output _ => .bin | .bay _ => .bay | .printer => .bay
        let there := s.sensor (match side with | .bin => .swingBin | .bay => .swingBay)
        (there = true → gives { s.transport with phase := .ready leg, swing := none, swingTimer := none })
        ∧ (there = false → s.transport.swing = some side → armStep s = none)
        ∧ (there = false → s.transport.swing ≠ some side → gives { s.transport with swing := some side, swingTimer := some 3000 }))
    ∧ (∀ e i, s.transport.errand = some e → e.source = some (.input i) →
        s.transport.phase = .ready .pick ∨ (s.transport.phase = .returnRetry ∧ l.mode = .still) →
        let f : Nat := match i with | .a => s.cal.floorA | .b => s.cal.floorB
        let stack := s.sensor (match i with | .a => .stackA | .b => .stackB)
        let mayRead := s.transport.phase = .returnRetry ∨ (s.bins.input i).state ≠ .open
        (¬ mayRead → armStep s = none)
        ∧ (mayRead → stack = true → ((f : Int) - l.count).natAbs ≤ 4 → gives { s.transport with phase := .descend, lift := still })
        ∧ (mayRead → stack = true → 4 < ((f : Int) - l.count).natAbs →
            gives { s.transport with phase := .descend, lift := { still with
              mode := .descend f, duty := s.cal.creepDuty, up := decide (l.count < (f : Int)), stallTimer := stall } })
        ∧ (∀ t r, mayRead → stack = false → e.work = .task t → s.docket t.docket = some r → ∃ u : State, armStep s = some u
            ∧ u.docket t.docket = none ∧ ((s.bins.input i).state = .loaded → (u.bins.input i).state = .empty)
            ∧ (s.transport.phase = .ready .pick → s.transport.state = .busy → u.transport.state = .free ∧ u.transport.errand = none)))
    ∧ (∀ e b, s.transport.errand = some e → e.source = some (.bay b) → s.transport.phase = .ready .pick →
        ((s.bay b).tray = .open ∧ ((s.bay b).state = .open ∨ (s.bay b).state = .absent) → acts .grip .grip l)
        ∧ (¬ ((s.bay b).tray = .open ∧ ((s.bay b).state = .open ∨ (s.bay b).state = .absent)) → armStep s = none))
    ∧ (∀ e, s.transport.errand = some e → e.source = some .printer → s.transport.phase = .ready .pick →
        (s.printer.state = .readyOut → acts .grip .grip l) ∧ (s.printer.state ≠ .readyOut → armStep s = none))
    ∧ (∀ e, s.transport.errand = some e → s.transport.phase = .ready .place →
        let free : Prop := match e.dest with
          | .bay b => (s.bay b).tray = .open ∧ (s.bay b).state = .open
          | .printer => s.printer.state = .empty
          | .output o => s.outBin o = .available
          | .input _ => False
        (free → acts .release .release l) ∧ (¬ free → armStep s = none))
    ∧ (s.transport.phase = .descend → s.sensor .contact = true → acts .grip .grip still)
    ∧ (s.transport.phase = .descend → s.sensor .contact = false → l.mode ≠ .still → armStep s = none)
    ∧ (∀ e i t r, s.transport.phase = .descend → s.sensor .contact = false → l.mode = .still → s.transport.state = .busy →
        s.transport.errand = some e → e.source = some (.input i) → e.work = .task t → s.docket t.docket = some r →
        (s.bins.input i).state = .loaded → ∃ u : State, armStep s = some u
          ∧ (u.bins.input i).state = .empty ∧ u.docket t.docket = none ∧ u.transport.phase = .returnEnd)
    ∧ (s.transport.phase = .returnEnd → l.mode = .still → s.transport.state = .busy → ∃ u : State, armStep s = some u
        ∧ u.transport.state = .free ∧ u.transport.errand = none ∧ u.transport.phase = .none)
    ∧ (s.transport.phase = .awaitTray → s.sensor .trayPresent = false → armStep s = none)
    ∧ (∀ t r j, s.transport.phase = .awaitTray → s.sensor .trayPresent = true → s.transport.state = .busy →
        s.taskInFlight = some t → s.docket t.docket = some r → s.job r.slot = some j → ∃ u : State, armStep s = some u
          ∧ u.docket t.docket = some { r with state := .printing, place := some .printer }
          ∧ (∀ d, d ≠ t.docket → u.docket d = s.docket d)
          ∧ u.printer = { s.printer with
              state := .seating, docket := some t.docket, nextBand := 0, active := none
              shadow := some { band := 0, record := none, dots := [] }
              load := [(.record, { base := j.bandTable, len := 144, cut := 0, got := [] })]
              lanes := s.printer.lanes.map fun lane => { lane with enabled := false, waiting := [], due := false }
              clamped := true, clampTimer := some 300 }
          ∧ u.transport = { s.transport with
              state := .free, errand := none, phase := .none, lift := still, swing := none, swingTimer := none
              gripper := none, gripTimer := none, placeTimer := none }
          ∧ s.sameHost u ∧ u.jobs = s.jobs ∧ u.bays = s.bays ∧ u.bins = s.bins ∧ u.sensors = s.sensors ∧ u.faults = s.faults)
    ∧ (∀ e i, s.transport.state = .busy → s.transport.errand = some e → e.source = some (.input i) →
        (s.transport.phase = .descend ∨ s.transport.phase = .returnRetry → stopPick s = startMove (s.position (.input i)) { s with
          transport := { s.transport with phase := .returnEnd, errand := some { e with work := .ended }, lift := still } })
        ∧ (s.transport.phase = .grip → stopPick s = { s with
          transport := { s.transport with phase := .orphanGrip, errand := some { e with work := .ended } } })
        ∧ (s.transport.phase = .openMiss → stopPick s = { s with
          transport := { s.transport with errand := some { e with work := .ended } } })
        ∧ (s.transport.phase = .lift .pick ∨ s.transport.phase = .turn .pick ∨ s.transport.phase = .ready .pick →
          (stopPick s).transport.state = .free ∧ (stopPick s).transport.errand = none ∧ (stopPick s).transport.lift.duty = 0
          ∧ (stopPick s).transport.swing = none)))

/-- A RELEASE that reads the disc gone: in an OPEN bay the docket is SEATED and the tray is asked to close; in a bay whose reset ended meanwhile
the disc is unloaded to the reject bin (the model's choice, row 27); in an output bin the bin's count rises and the docket lands there; at the
printer tray-present is waited for, 500 ms at most. A disc still held is RELEASE; an INBOUND docket that was given a cause while the release ran is
then on its way to the reject bin (the model's choice, row 15). A landing writes its report of 64 bytes, at 64 times (copy ordinal - 1) in the
job's report area, then counts the disc, rewrites the card's progress at the board address (row 54), tests the reject budget and then completion,
and frees the docket. A job that stops has each of its dockets treated by its state (R17), in increasing number (the model's choice, row 58), and
ends when none is in flight; an ended job's card is written with its outcome, fail cause and counts, its slot is freed, and a scan is requested
once (row 72), at once where no scan is under way and else at its end. -/
def Obligations.DiscsReleasedAndCounted : Prop :=
  (∀ (t : Task) (e : Errand) (r : Docket) (s : State),
    s.transport.gripper = some .release → s.transport.phase = .release → s.transport.errand = some e → e.work = .task t →
    s.docket t.docket = some r → s.transport.state = .busy →
    let opened : Transport := { s.transport with gripper := none, gripTimer := none, gripperClosed := false }
    (∀ b, s.sensor .discPresent = false → e.dest = .bay b → (s.bay b).state = .open →
      ∃ u : State, exec .releaseComplete s = .next (conclude u)
      ∧ u.docket t.docket = some { r with state := .seated, place := some .bay } ∧ (u.bay b).state = .closing
      ∧ u.hasReq b .trayClose = true ∧ u.transport.state = .free ∧ u.transport.errand = none
      ∧ u.transport.gripperClosed = false ∧ u.jobs = s.jobs ∧ s.sameHost u ∧ s.samePlant u ∧ s.otherBays u b)
    ∧ (∀ b, s.sensor .discPresent = false → e.dest = .bay b → (s.bay b).state = .discovering →
        (∀ q ∈ s.transport.queue, q.docket ≠ t.docket) → ∃ u : State, exec .releaseComplete s = .next (conclude u)
      ∧ (∃ r' : Docket, u.docket t.docket = some r' ∧ r'.state = .rejectWait ∧ r'.place = some .bay)
      ∧ u.hasReq b .trayOpen = true ∧ u.transport.state = .free ∧ u.transport.errand = none
      ∧ u.transport.queue = s.transport.queue ++
          [{ docket := t.docket, kind := .unload, source := .bay r.bay, dest := .output .reject, age := s.transport.nextAge }])
    ∧ (∀ o j n, s.sensor .discPresent = false → e.dest = .output o → s.job r.slot = some j → r.ordinal = some n →
      ∃ (u : State) (r' : Docket), exec .releaseComplete s = .next (conclude u)
      ∧ r' = { r with
          state := .landed, outputBin := some o, landed := some s.tower.time
          place := some (match o with | .good => .goodBin | .reject => .rejectBin) }
      ∧ u.docket t.docket = some r'
      ∧ (u.bins.out o).count = (s.bins.out o).count + 1 ∧ u.transport.state = .free ∧ u.transport.errand = none
      ∧ u.jobs = s.jobs ∧ s.sameHost u ∧ u.bays = s.bays ∧ u.printer = s.printer
      ∧ u.engine.agenda = s.engine.agenda ++
          [[.write { addr := j.reportArea + 64 * (n - 1), data := .bytes r'.report, docket := some t.docket },
            .counted t.docket, .progress r.slot, .decide r.slot, .freeDocket t.docket]])
    ∧ (s.sensor .discPresent = false → e.dest = .printer → exec .releaseComplete s = .next (conclude { s with
        transport := { opened with phase := .awaitTray, placeTimer := some 500 } }))
    ∧ (s.sensor .discPresent = true → r.state ≠ .inbound ∨ r.verdict ≠ some .reject →
      exec .releaseComplete s = .next (conclude (transportFault .release { s with transport := opened })))
    ∧ (s.sensor .discPresent = true → r.state = .inbound → r.verdict = some .reject → r.cause ≠ .none →
      ∃ u : State, exec .releaseComplete s = .next (conclude u) ∧ u.transport.state = .halted
      ∧ u.docket t.docket = some { r with state := .rejectOutbound }
      ∧ u.transport.errand = some { e with dest := .output .reject }
      ∧ ((s.bay r.bay).docket = some t.docket → (u.bay r.bay).docket = none)))
  ∧ (∀ d : Docket, d.report.length = 64
    ∧ field d.report 0 4 = d.ticket % 2 ^ 32 ∧ field d.report 4 2 = d.ordinal.getD 0 % 2 ^ 16
    ∧ field d.report 6 1 = (match d.outputBin with | some .good => 0 | some .reject => 1 | none => 2)
    ∧ field d.report 7 1 = d.cause.code ∧ field d.report 8 1 = (match d.inputBin with | .a => 0 | .b => 1)
    ∧ field d.report 9 1 = d.bay.val ∧ field d.report 10 1 = d.logical.val
    ∧ (∀ p, d.place = some p → field d.report 11 1 = p.code)
    ∧ field d.report 12 1 = (match d.outputBin with | none => 0 | some .good => 1 | some .reject => 2)
    ∧ field d.report 13 1 = (if d.print = none then 0 else 1) + (if d.burnStart = none then 0 else 2)
        + (if d.burnEnd = none then 0 else 4) + (if d.verdictTime = none then 0 else 8) + (if d.landed = none then 0 else 16)
    ∧ field d.report 14 2 = min d.groupsWritten 65535 ∧ field d.report 16 1 = min d.links 255
    ∧ field d.report 17 1 = min d.rereads 255
    ∧ (∀ c, d.print = some c → field d.report 18 1 = c.slips % 256 ∧ field d.report 20 3 = c.fired % 2 ^ 24
        ∧ field d.report 23 3 = c.crowded % 2 ^ 24 ∧ field d.report 26 3 = c.dropped % 2 ^ 24
        ∧ field d.report 29 3 = c.clipped % 2 ^ 24)
    ∧ (d.print = none → field d.report 18 14 = 0)
    ∧ (∀ p, d.picked = some p → field d.report 32 8 = p % 2 ^ 64
      ∧ (∀ x, d.burnStart = some x → field d.report 40 4 = min (x - p) (2 ^ 32 - 1))
      ∧ (∀ x, d.burnEnd = some x → field d.report 44 4 = min (x - p) (2 ^ 32 - 1))
      ∧ (∀ x, d.verdictTime = some x → field d.report 48 4 = min (x - p) (2 ^ 32 - 1))
      ∧ (∀ x, d.landed = some x → field d.report 52 4 = min (x - p) (2 ^ 32 - 1)))
    ∧ field d.report 56 8 = 0)
  ∧ (∀ (k : SlotNo) (j : Job) (s : State), s.job k = some j →
    let card := s.boardAddr + 64 + 128 * j.cardIndex.val
    let fresh : Scan := { base := s.boardAddr, statusAddr := 0, count := 0,
                          phase := .anchor { base := s.boardAddr, len := 64, cut := 0, got := [] } }
    let outcome : Nat := match j.outcome with | some .done => 1 | some .failed => 2 | some .cancelled => 3 | none => 0
    let result : WriteData := .fields (le 1 outcome ++ le 1 j.failCause.code ++ [0#8]) (le 2 j.good ++ le 2 j.reject)
    let final : Thread := [
      .write { addr := card + 112, data := result, docket := none },
      .write (plainWrite card [3#8]), .tally s.boardAddr, .freeSlot k]
    (∀ d r, s.docket d = some r → r.slot = k →
      runTodo (.counted d) s = ([], s.setJob k (some (if r.outputBin = some .good
        then { j with inFlight := j.inFlight - 1, good := j.good + 1 }
        else { j with inFlight := j.inFlight - 1, reject := j.reject + 1 }))))
    ∧ runTodo (.progress k) s = ([], post (plainWrite (card + 116) (le 2 j.good ++ le 2 j.reject)) s)
    ∧ (j.state = .active → j.maxRejects < j.reject → runTodo (.decide k) s = ([], stopJob k .failed .jobFailed .jobFailed s))
    ∧ (j.state = .active → j.reject ≤ j.maxRejects → j.good = j.copies → j.inFlight = 0 →
      runTodo (.decide k) s = ([], endJob k (s.setJob k (some { j with outcome := some .done, failCause := .none }))))
    ∧ (j.state = .active → j.reject ≤ j.maxRejects → (j.good ≠ j.copies ∨ j.inFlight ≠ 0) → runTodo (.decide k) s = ([], s))
    ∧ (j.state = .stopping → j.inFlight = 0 → runTodo (.decide k) s = ([], endJob k s))
    ∧ (j.state = .stopping → j.inFlight ≠ 0 → runTodo (.decide k) s = ([], s))
    ∧ (j.state = .ended → runTodo (.decide k) s = ([], s))
    ∧ (s.board.scan = none → endJob k s = startThread final (s.setJob k (some { j with state := .ended })))
    ∧ (s.board.scan ≠ none → endJob k s = s.setJob k (some { j with state := .ended }))
    ∧ (j.state = .ended → s.finalWrite k = final)
    ∧ (s.boardAddr ≠ 0 → s.board.scan = none → ∃ t : State, runTodo (.freeSlot k) s = ([], t) ∧ t.job k = none
      ∧ (∀ x, x ≠ k → t.job x = s.job x)
      ∧ t.board = { s.board with scan := some fresh })
    ∧ (s.boardAddr ≠ 0 → s.board.scan ≠ none → ∃ t : State, runTodo (.freeSlot k) s = ([], t) ∧ t.job k = none
      ∧ (∀ x, x ≠ k → t.job x = s.job x) ∧ t.board = { s.board with scanPending := true })
    ∧ (∀ o f g, j.state ≠ .active → stopJob k o f g s = s)
    ∧ (∀ o f g, j.state = .active → ∃ (ds : List DocketNo) (u : State),
      (∀ d, d ∈ ds ↔ ∃ r, s.docket d = some r ∧ r.slot = k) ∧ ds.Pairwise (· < ·)
      ∧ u = ds.foldl (fun v d => stopDocket g d v)
          (s.setJob k (some { j with state := .stopping, outcome := some o, failCause := f }))
      ∧ ∃ j', u.job k = some j' ∧ j'.outcome = some o ∧ j'.failCause = f
      ∧ stopJob k o f g s = if j'.state = .stopping ∧ j'.inFlight = 0 then endJob k u else u))
  ∧ (∀ (g : Cause) (d : DocketNo) (r : Docket) (s : State), s.docket d = some r → g ≠ .none →
    let t := stopDocket g d s
    let given (r' : Docket) : Prop := r'.cause = (if r.cause = .none then g else r.cause)
      ∧ (r.cause = .none → r'.verdict = some .reject ∧ r'.verdictTime = some s.tower.time)
    (r.state = .reserved → t.docket d = none
      ∧ ∀ j, s.job r.slot = some j → ∃ j', t.job r.slot = some j' ∧ j'.inFlight = j.inFlight - 1 ∧ j'.good = j.good
          ∧ j'.reject = j.reject)
    ∧ (r.state = .inbound → ¬ (s.transport.phase = .release ∧ s.transport.state = .busy) →
      (∃ r', t.docket d = some r' ∧ r'.state = .rejectOutbound ∧ given r')
      ∧ ((s.bay r.bay).docket = some d → (t.bay r.bay).docket = none)
      ∧ ∀ e q, s.transport.errand = some e → e.work = .task q → q.docket = d →
          ∃ e', t.transport.errand = some e' ∧ e'.dest = .output .reject)
    ∧ (r.state = .inbound → s.transport.phase = .release → s.transport.state = .busy →
      ∃ r', t.docket d = some r' ∧ r'.state = .inbound ∧ given r')
    ∧ (r.state = .seated ∨ r.state = .burning ∨ r.state = .finalizing ∨ r.state = .verifying →
      ∃ r', t.docket d = some r' ∧ r'.state = r.state ∧ given r')
    ∧ (r.state = .goodWait ∨ r.state = .outbound ∨ r.state = .printing ∨ r.state = .printedWait ∨ r.state = .rejectWait
        ∨ r.state = .rejectOutbound → t = s))

/-! ### The bays -/

/-- A frame that fails its check, and a message that answers nothing, is discarded and counted, the link-error count holding at 65,535; a
message is not counted while the bay is RESETTING or RETIRED. -/
def Obligations.MessagesDiscarded : Prop :=
  ∀ (b : BayNo) (s : State),
    let r := s.bay b
    let counted := s.setBay b { r with linkErrors := if r.linkErrors < 65535 then r.linkErrors + 1 else 65535 }
    let discarded := if r.state = .resetting ∨ r.state = .retired then s else counted
    let inBurn := r.state = .burning ∨ r.state = .finalizing
    exec (.badFrame b) s = .next counted
    ∧ (∀ cls speed credits link, s.unasked b .identify →
        exec (.identity b cls speed credits link) s = .next (conclude discarded))
    ∧ (s.unasked b .trayOpen → exec (.trayDoneOpen b) s = .next (conclude discarded))
    ∧ (s.unasked b .trayClose → exec (.trayDoneClosed b) s = .next (conclude discarded))
    ∧ (∀ kind cls cap, s.unasked b .probe → exec (.media b kind cls cap) s = .next (conclude discarded))
    ∧ (∀ n, ¬ inBurn → exec (.credit b n) s = .next (conclude discarded))
    ∧ (∀ g, s.unasked b .halt → r.oldestGroup ≠ some g → exec (.written b g) s = .next (conclude discarded))
    ∧ (s.unasked b .halt → r.state ≠ .burning →
        exec (.starvedLinked b) s = .next (conclude discarded) ∧ exec (.starvedFailed b) s = .next (conclude discarded))
    ∧ (s.unasked b .halt → s.unasked b .burnClose → exec (.closed b) s = .next (conclude discarded))
    ∧ (∀ g, s.unasked b (.read g) → exec (.readFail b g) s = .next (conclude discarded))
    ∧ (s.unasked b .halt → exec (.halted b) s = .next (conclude discarded))
    ∧ (s.unasked b .reset → exec (.resetDone b) s = .next (conclude discarded))
    ∧ (∀ code, r.state = .resetting ∨ r.state = .retired → exec (.fault b code) s = .next (conclude s))
    ∧ (∀ n, s.hasReq b .halt = true → inBurn → exec (.credit b n) s = .next (conclude s)
        ∧ exec (.starvedLinked b) s = .next (conclude s) ∧ exec (.starvedFailed b) s = .next (conclude s)
        ∧ exec (.closed b) s = .next (conclude s))

/-- An IDENTITY that answers IDENTIFY replaces the drive record, max speed clamped to 1..16 and max credits to 1..8, and takes a DISCOVERING bay
to the first of HOLDING, PROBING, SPARE, RETIRED and IDLE that applies. Where the IDENTIFY was sent for a spare takeover SPARE is passed over, also
for a bay that has been designated again meanwhile (row 49). A designated bay whose failing mark is set passes through SPARE and ends RETIRED (R138,
08_bay_health_and_spare_takeover.md section 8.2). -/
def Obligations.IdentityTaken : Prop :=
  ∀ (b : BayNo) (cls : DriveClasses) (speed credits : Nat) (link : Bool) (s : State),
    s.hasReq b .identify = true → (s.bay b).state = .discovering →
    ∃ t : State, exec (.identity b cls speed credits link) s = .next (conclude t)
      ∧ s.sameHost t ∧ s.sameWork t ∧ s.samePlant t ∧ t.transport = s.transport
      ∧ (t.bay b).drive = some
          { classes := cls, linkCapable := link
            maxSpeed := if speed < 1 then 1 else if 16 < speed then 16 else speed
            maxCredits := if credits < 1 then 1 else if 8 < credits then 8 else credits }
      ∧ ((s.bay b).docket ≠ none → (t.bay b).state = .holding)
      ∧ ((s.bay b).docket = none → (s.bay b).stranded = true → (t.bay b).state = .probing ∧ t.hasReq b .probe = true)
      ∧ ((s.bay b).docket = none → (s.bay b).stranded = false → (s.bay b).failing = true → (t.bay b).state = .retired)
      ∧ ((s.bay b).docket = none → (s.bay b).stranded = false → (s.bay b).failing = false → s.health.spare = some b →
          (s.bay b).takingOver = false → (t.bay b).state = .spare)
      ∧ ((s.bay b).docket = none → (s.bay b).stranded = false → (s.bay b).failing = false →
          s.health.spare ≠ some b ∨ (s.bay b).takingOver = true → (t.bay b).state = .idle ∧ t.health = s.health)

/-- TRAY_DONE open makes an OPENING bay OPEN, or CLOSING with TRAY_CLOSE sent where the close was held, and takes the disc of an ABSENT bay to
REJECT_WAIT. TRAY_DONE closed takes a CLOSING bay to the state its docket calls for; that one with no docket goes by the designation also after
a move of the sweep is the model's choice (row 75). -/
def Obligations.TraysReported : Prop :=
  ∀ (b : BayNo) (s : State),
    (s.hasReq b .trayOpen = true → ∃ t : State, exec (.trayDoneOpen b) s = .next (conclude t) ∧ (t.bay b).tray = .open
      ∧ s.sameHost t ∧ s.samePlant t ∧ t.jobs = s.jobs ∧ t.faults = s.faults ∧ s.otherBays t b
      ∧ ((s.bay b).state = .opening ∧ (s.bay b).heldClose = false → (t.bay b).state = .open)
      ∧ ((s.bay b).state = .opening ∧ (s.bay b).heldClose = true →
          (t.bay b).state = .closing ∧ (t.bay b).heldClose = false ∧ t.hasReq b .trayClose = true)
      ∧ ((s.bay b).state ≠ .opening → (t.bay b).state = (s.bay b).state)
      ∧ (∀ d r, (s.bay b).state = .absent → (s.bay b).docket = some d → s.docket d = some r → r.place = some .bay →
          ∃ r', t.docket d = some r' ∧ r'.state = .rejectWait ∧ r'.cause = r.cause))
    ∧ (s.hasReq b .trayClose = true → (s.bay b).state = .closing →
      ∃ t : State, exec (.trayDoneClosed b) s = .next (conclude t) ∧ (t.bay b).tray = .closed
      ∧ s.sameHost t ∧ s.sameWork t ∧ s.samePlant t ∧ t.transport = s.transport
      ∧ ((s.bay b).docket = none → (s.bay b).failing = true → (t.bay b).state = .retired)
      ∧ ((s.bay b).docket = none → (s.bay b).failing = false → s.health.spare = some b → (t.bay b).state = .spare)
      ∧ ((s.bay b).docket = none → (s.bay b).failing = false → s.health.spare ≠ some b → (t.bay b).state = .idle
          ∧ ((s.tower.state = .running ∨ s.tower.state = .halted) ∧ s.regs.run = true → t.roundDue = true))
      ∧ (∀ d r, (s.bay b).docket = some d → s.docket d = some r → r.state = .seated → r.verdict = none →
          (t.bay b).state = .probing ∧ t.hasReq b .probe = true)
      ∧ (∀ d r, (s.bay b).docket = some d → s.docket d = some r → r.state = .goodWait ∨ r.state = .rejectWait →
          (t.bay b).state = .holding))

/-- MEDIA for a SEATED docket (tables of R5 and R78): a blank of the job's class and size opens the burn, at the lower of the job's and the
drive's speed; one too small gives TOO_LARGE; any other disc MEDIA_UNSUITABLE; a disc written or unsuitable, or none, also raises the hard
counter. -/
def Obligations.MediaAnswers : Prop :=
  ∀ (b : BayNo) (kind : MediaKind) (cls : MediaClass) (cap : Nat) (d : DocketNo) (r : Docket) (j : Job) (s : State),
    s.hasReq b .probe = true → (s.bay b).state = .probing → (s.bay b).docket = some d → s.docket d = some r →
    r.state = .seated → r.bay = b → s.job r.slot = some j → (s.bay b).hard ≤ 15 →
    ∃ t : State, exec (.media b kind cls cap) s = .next (conclude t) ∧ s.sameHost t ∧ s.samePlant t
      ∧ (kind = .blank ∧ cls = j.mediaClass ∧ j.totalSectors ≤ cap ∧ r.verdict = none →
          (t.bay b).state = .burning ∧ t.hasReq b .burnOpen = true ∧ (t.bay b).credits = 0
          ∧ t.docket d = some { r with state := .burning, burnStart := some s.tower.time }
          ∧ (s.hasReq b .burnOpen = false → t.out = s.out ++ [.drive b (.burnOpen j.totalSectors
              (if j.speed ≤ (s.bay b).driveOr.maxSpeed then j.speed else (s.bay b).driveOr.maxSpeed)
              ((s.bay b).driveOr.linkCapable && (j.starvation.limit).isSome))])
          ∧ ∃ c, t.burnOf b = some c ∧ c.state = .opening ∧ c.docket = d ∧ c.groups = j.groups ∧ c.complete = 0 ∧ c.send = 0)
      ∧ (kind = .blank ∧ cls = j.mediaClass ∧ cap < j.totalSectors ∧ r.cause = .none →
          ∃ r', t.docket d = some r' ∧ r'.cause = .tooLarge ∧ r'.verdict = some .reject)
      ∧ (kind = .blank ∧ cls = j.mediaClass ∧ cap < j.totalSectors ∧ j.state = .active →
          ∃ j', t.job r.slot = some j' ∧ j'.state ≠ .active ∧ j'.outcome = some .failed ∧ j'.failCause = .tooLarge)
      ∧ ((kind = .blank → cls ≠ j.mediaClass) → r.cause = .none →
          ∃ r', t.docket d = some r' ∧ r'.cause = .mediaUnsuitable ∧ r'.verdict = some .reject)
      ∧ (kind = .blank → (t.bay b).hard = (s.bay b).hard)
      ∧ (kind ≠ .blank → (t.bay b).hard = if (s.bay b).hard < 15 then (s.bay b).hard + 1 else 15)

/-- CREDIT ends an outstanding BURN_OPEN and raises the credit count up to the drive's max credits, a message that passes the cap counting a
link error; while a HALT is outstanding it has no effect. WRITTEN for the oldest GROUP ends it and raises groups written; for the last group
of a DRAINING channel BURN_CLOSE is sent and the docket is FINALIZING; for a group a HALT withdrew it is counted once and no more (the
model's choice, row 67). A channel sends its next complete group while it has a credit and fewer than 8 GROUPs are outstanding, the last one only
once its compares and its own signature are settled: the request is entered, a credit is spent and the page is released. A verify channel reads the
lowest group of its window of two that has no page, once the pool gives it one. Its signature cache drops a block whose groups are all checked and
reads the next, piece by piece. The outstanding request list of a bay never holds two requests of one kind, GROUP and READ apart, nor more
than 8 GROUPs: every step keeps that, in states no run reaches as well, and it holds right after power is applied. -/
def Obligations.BurnAnswersAndReads : Prop :=
  (∀ (b : BayNo) (n g : Nat) (d : DocketNo) (r : Docket) (c : Burn) (s : State),
    (s.bay b).docket = some d → s.docket d = some r → s.burnOf b = some c → (s.bay b).state = .burning →
    (s.hasReq b .halt = true → exec (.credit b n) s = .next (conclude s))
    ∧ ((s.bay b).credits ≤ (s.bay b).driveOr.maxCredits → s.unasked b .halt →
      ∃ t : State, exec (.credit b n) s = .next (conclude t)
      ∧ (t.bay b).credits = (if (s.bay b).credits + n ≤ (s.bay b).driveOr.maxCredits then (s.bay b).credits + n
          else (s.bay b).driveOr.maxCredits)
      ∧ (s.hasReq b .burnOpen = true → c.state = .opening → ∃ c', t.burnOf b = some c'
          ∧ c'.state = if c.complete = c.groups then .draining else .streaming)
      ∧ ((s.bay b).requestsBounded → s.hasReq b .burnOpen = true → t.hasReq b .burnOpen = false
          ∧ (t.bay b).reqs = (s.bay b).reqs.filter fun o => o.req != .burnOpen)
      ∧ (s.hasReq b .burnOpen = false → (t.bay b).reqs = (s.bay b).reqs ∧ t.burnOf b = some c)
      ∧ ((s.bay b).credits + n ≤ (s.bay b).driveOr.maxCredits → (t.bay b).linkErrors = (s.bay b).linkErrors)
      ∧ ((s.bay b).driveOr.maxCredits < (s.bay b).credits + n → (s.bay b).linkErrors < 65535 →
          (t.bay b).linkErrors = (s.bay b).linkErrors + 1)
      ∧ t = { s with bays := t.bays } ∧ s.otherBays t b)
    ∧ (s.unasked b .halt → (s.bay b).oldestGroup = some g → r.groupsWritten < 65535 →
      ∃ t : State, exec (.written b g) s = .next (conclude t)
      ∧ s.sameHost t ∧ s.samePlant t ∧ t.jobs = s.jobs ∧ t.transport = s.transport ∧ s.otherBays t b
      ∧ (∃ r', t.docket d = some r' ∧ r'.groupsWritten = r.groupsWritten + 1
          ∧ r'.state = (if c.state = .draining ∧ g + 1 = c.groups then .finalizing else r.state))
      ∧ (c.state = .draining → g + 1 = c.groups → (t.bay b).state = .finalizing ∧ t.hasReq b .burnClose = true
          ∧ ∃ c', t.burnOf b = some c' ∧ c'.state = .closing)
      ∧ (g + 1 ≠ c.groups → (t.bay b).state = .burning ∧ (t.bay b).reqs.length + 1 = (s.bay b).reqs.length))
    ∧ (s.hasReq b .halt = true → g ∈ (s.bay b).withdrawn → exec (.written b g) s = .next (conclude
        ((s.setBay b { s.bay b with withdrawn := (s.bay b).withdrawn.erase g }).setDocket d
          (some { r with groupsWritten := if r.groupsWritten < 65535 then r.groupsWritten + 1 else 65535 })))))
  ∧ (∀ (b : BayNo) (c : Burn) (p : Page) (s : State), s.burnOf b = some c →
    c.pages.find? (fun q => q.group == c.send) = some p →
    let data := p.got.flatMap fun q => q.2
    let may := (c.state = .streaming ∨ c.state = .draining) ∧ c.send < c.complete ∧ 1 ≤ (s.bay b).credits ∧ (s.bay b).groupsOut < 8
      ∧ (c.send + 1 = c.groups → c.compares = [] ∧ c.held = [])
    (may → ∃ t : State, sendGroup b s = some t ∧ s.otherBays t b
      ∧ t = { s with bays := t.bays, out := s.out ++ [.drive b (.group c.send (data.length / 2048) data)] }
      ∧ t.bay b = { s.bay b with
          credits := (s.bay b).credits - 1
          reqs := (s.bay b).reqs ++ [{ req := .group c.send, purpose := .normal, left := 5000 }]
          channel := .burn { c with pages := c.pages.filter (fun q => q.group != c.send), send := c.send + 1 } })
    ∧ (¬ may → sendGroup b s = none))
  ∧ (∀ (b : BayNo) (c : Verify) (s : State), s.verifyOf b = some c →
    let lowest (g : Nat) := g < c.groups ∧ (∀ p ∈ c.pages, p.group ≠ g)
      ∧ (g = c.check ∨ (g = c.check + 1 ∧ ∃ p ∈ c.pages, p.group = c.check))
    (∀ g, c.state = .reading → lowest g → b ∉ s.pageWaiters → s.canTakePage b = true → ∃ t : State, issueRead b s = some t
      ∧ s.otherBays t b ∧ t = { s with bays := t.bays, out := s.out ++ [.drive b (.read g)] }
      ∧ t.bay b = { s.bay b with
          reqs := (s.bay b).reqs ++ [{ req := .read g, purpose := .normal, left := 5000 }]
          channel := .verify { c with pages := c.pages ++ [{ group := g, full := false, got := [] }] } })
    ∧ (∀ g, c.state = .reading → lowest g → b ∉ s.pageWaiters → s.canTakePage b = false →
      issueRead b s = some { s with pageWaiters := s.pageWaiters ++ [b] })
    ∧ (c.state = .stopped ∨ b ∈ s.pageWaiters ∨ (∀ g, ¬ lowest g) → issueRead b s = none)
    ∧ (∀ table : Nat,
      (c.check + 1 < c.groups → (c.check + 1) % 64 = 0 → c.advance table = { c with
        check := c.check + 1, pages := c.pages.filter (fun p => p.group != c.check), marks := c.marks.filter (· != c.check)
        block := none
        blockRead := some ((c.check + 1) / 64, { base := table + 256 * ((c.check + 1) / 64)
                                                 len := 4 * min 64 (c.groups - (c.check + 1)), cut := 0, got := [] }) })
      ∧ (c.groups ≤ c.check + 1 ∨ (c.check + 1) % 64 ≠ 0 → c.advance table = { c with
        check := c.check + 1, pages := c.pages.filter (fun p => p.group != c.check), marks := c.marks.filter (· != c.check) }))
    ∧ (∀ n r, c.state = .reading → c.blockRead = some (n, r) → r.cut < r.len →
      let len := min (r.len - r.cut) (4096 - (r.base + r.cut) % 4096)
      ((s.bay b).compare = none → presentBlock b s = some (s.setBay b { s.bay b with
          compare := some { addr := r.base + r.cut, len := len, target := .block n r.cut, stamp := s.event, aged := false
                            ageTimer := none }
          channel := .verify { c with blockRead := some (n, { r with cut := r.cut + len }) } }))
      ∧ ((s.bay b).compare ≠ none → presentBlock b s = none))
    ∧ (∀ n r off data bytes, c.state = .reading → c.blockRead = some (n, r) → (r.place off data).data = some bytes →
      ∃ entries : List (BitVec 32), entries.length = r.len / 4
        ∧ (∀ i, i < r.len / 4 → entries[i]? = some (BitVec.ofNat 32 (field bytes (4 * i) 4)))
        ∧ arriveBlock b n off data s = s.setBay b { s.bay b with
            channel := .verify { c with block := some (n, entries), blockRead := none } }))
  ∧ (∀ s t : State, s.requestsBounded → step s = .next t → t.requestsBounded)
  ∧ State.reset.requestsBounded

/-- STARVED linked in a burn counts the link, and gives UNDERRUN where no link was permitted or LINK_LIMIT where the links pass the job's
limit, with HALT sent; STARVED failed gives UNDERRUN, withdraws the burn requests and sends no HALT. -/
def Obligations.DriveStarves : Prop :=
  ∀ (b : BayNo) (d : DocketNo) (r : Docket) (j : Job) (c : Burn) (s : State),
    (s.bay b).state = .burning → s.unasked b .halt → (s.bay b).driveStopped = false → (s.bay b).docket = some d →
    s.docket d = some r → r.state = .burning → r.bay = b → r.cause = .none → s.job r.slot = some j → s.burnOf b = some c →
    r.links < 255 →
    (∀ l, c.linkPermitted = true → j.starvation = .link l → r.links + 1 ≤ l →
      exec (.starvedLinked b) s = .next (conclude (s.setDocket d (some { r with links := r.links + 1 }))))
    ∧ (c.linkPermitted = false ∨ (∃ l, j.starvation = .link l ∧ l < r.links + 1) →
      ∃ t : State, exec (.starvedLinked b) s = .next (conclude t)
      ∧ s.sameHost t ∧ s.samePlant t ∧ t.jobs = s.jobs ∧ t.faults = s.faults ∧ s.otherBays t b
      ∧ t.hasReq b .halt = true ∧ (t.bay b).credits = 0 ∧ (t.bay b).groupsOut = 0
      ∧ ∃ r', t.docket d = some r' ∧ r'.links = r.links + 1 ∧ r'.verdict = some .reject
        ∧ r'.verdictTime = some s.tower.time
        ∧ r'.cause = if c.linkPermitted = true then .linkLimit else .underrun)
    ∧ (∃ t : State, exec (.starvedFailed b) s = .next (conclude t)
      ∧ s.sameHost t ∧ s.samePlant t ∧ t.jobs = s.jobs ∧ t.faults = s.faults ∧ s.otherBays t b
      ∧ t.hasReq b .halt = false ∧ t.hasReq b .burnOpen = false ∧ t.hasReq b .burnClose = false ∧ (t.bay b).groupsOut = 0
      ∧ ∃ r', t.docket d = some r' ∧ r'.links = r.links ∧ r'.cause = .underrun ∧ r'.verdict = some .reject)

/-- CLOSED that answers BURN_CLOSE sets the burn end time and the credits to 0; with verify ON the bay goes to VERIFYING with a channel that
reads from group 0; with verify OFF the verdict is GOOD, the bay HOLDING, and the UNLOAD is queued. -/
def Obligations.BurnCloses : Prop :=
  ∀ (b : BayNo) (d : DocketNo) (r : Docket) (j : Job) (s : State),
    (s.bay b).state = .finalizing → s.unasked b .halt → s.hasReq b .burnClose = true → (s.bay b).docket = some d →
    s.docket d = some r → s.job r.slot = some j → (∀ t ∈ s.transport.queue, t.docket ≠ d) →
    (∀ t, s.taskInFlight = some t → t.docket ≠ d) →
    ∃ t : State, exec (.closed b) s = .next (conclude t) ∧ (t.bay b).credits = 0
      ∧ s.sameHost t ∧ s.samePlant t ∧ t.jobs = s.jobs ∧ t.faults = s.faults ∧ s.otherBays t b
      ∧ (j.verify = true → (t.bay b).state = .verifying
          ∧ t.docket d = some { r with state := .verifying, burnEnd := some s.tower.time }
          ∧ ∃ c, t.verifyOf b = some c ∧ c.state = .reading ∧ c.docket = d ∧ c.check = 0 ∧ c.groups = j.groups ∧ c.pages = [])
      ∧ (j.verify = false → (t.bay b).state = .holding ∧ (t.bay b).channel = .closed
          ∧ t.docket d = some { r with
              state := .goodWait, burnEnd := some s.tower.time, verdict := some .good, verdictTime := some s.tower.time }
          ∧ ∃ q, t.transport.queue = s.transport.queue ++ [q] ∧ q.docket = d ∧ q.kind = .unload ∧ q.source = .bay b
            ∧ q.dest = if j.bandCount = 0 then .output .good else .printer)

/-- READ_DATA of the right length fills the group's page while the channel reads and is dropped once it has stopped; a wrong length is a bad
frame. The right length is 2,048 bytes for each sector of the group, 16 in all groups but a last that is short. READ_FAIL releases the page and
marks the group, and on a marked group gives VERIFY, raises the hard counter and stops the channel. -/
def Obligations.ReadsAnswered : Prop :=
  ∀ (b : BayNo) (g : Nat) (data : List Byte) (c : Verify) (d : DocketNo) (r : Docket) (s : State),
    s.verifyOf b = some c → c.docket = d → (s.bay b).docket = some d → s.docket d = some r → s.hasReq b (.read g) = true →
    (s.readLength b g = (s.job r.slot).map fun j => 2048 * min 16 (j.totalSectors - 16 * g))
    ∧ (s.readLength b g = some data.length → c.state = .reading → ∃ t : State, exec (.readData b g data) s = .next (conclude t)
      ∧ t.verifyOf b = some { c with
          pages := c.pages.map (fun p => if p.group = g then { p with full := true, got := [(0, data)] } else p) }
      ∧ (t.bay b).reqs.length + 1 = (s.bay b).reqs.length ∧ t = { s with bays := t.bays } ∧ s.otherBays t b)
    ∧ (s.readLength b g = some data.length → c.state = .stopped → ∃ t : State, exec (.readData b g data) s = .next (conclude t)
      ∧ t.verifyOf b = some { c with pages := c.pages.filter fun p => p.group != g } ∧ t = { s with bays := t.bays } ∧ s.otherBays t b)
    ∧ (∀ n, s.readLength b g = some n → n ≠ data.length → exec (.readData b g data) s = .next (conclude
        (s.setBay b { s.bay b with linkErrors := if (s.bay b).linkErrors < 65535 then (s.bay b).linkErrors + 1 else 65535 })))
    ∧ (c.state = .reading → g ∉ c.marks → ∃ t : State, exec (.readFail b g) s = .next (conclude t)
      ∧ t.verifyOf b = some { c with pages := c.pages.filter (fun p => p.group != g), marks := g :: c.marks }
      ∧ t = { s with bays := t.bays } ∧ s.otherBays t b ∧ (t.bay b).hard = (s.bay b).hard)
    ∧ (c.state = .reading → g ∈ c.marks → r.cause = .none → r.state = .verifying → r.bay = b → (s.bay b).state = .verifying →
        (s.bay b).hard < 15 → ∃ t : State, exec (.readFail b g) s = .next (conclude t)
      ∧ (t.bay b).hard = (s.bay b).hard + 1 ∧ s.sameHost t ∧ s.samePlant t ∧ t.jobs = s.jobs ∧ s.otherBays t b
      ∧ (∃ c', t.verifyOf b = some c' ∧ c'.state = .stopped ∧ c'.pages = c.pages.filter fun p => p.group != g)
      ∧ ∃ r', t.docket d = some r' ∧ r'.cause = .verify ∧ r'.verdict = some .reject)

/-- FAULT by the bay's state (table of R83): in a burn WRITE_FAULT, the hard counter and HALT; in DISCOVERING, SPARE and ABSENT only the entry in
the fault record; in the other working states the hard counter and a bay reset; in IDLE too, where a counter that reaches its limit retires the
bay and nothing is reset. -/
def Obligations.DriveFaults : Prop :=
  ∀ (b : BayNo) (code : Nat) (s : State),
    let entry := reportFault .driveFault (some b) (s.bay b).docket
    ((s.bay b).state = .discovering ∨ (s.bay b).state = .spare ∨ (s.bay b).state = .absent →
      exec (.fault b code) s = .next (conclude (entry s)))
    ∧ ((s.bay b).state = .burning ∨ (s.bay b).state = .finalizing → s.hasReq b .halt = true →
      exec (.fault b code) s = .next (conclude (entry s)))
    ∧ (∀ d r, (s.bay b).state = .burning ∧ r.state = .burning ∨ (s.bay b).state = .finalizing ∧ r.state = .finalizing →
        s.unasked b .halt → (s.bay b).driveStopped = false → (s.bay b).docket = some d →
        s.docket d = some r → r.bay = b → r.cause = .none → (s.bay b).hard < 15 →
      ∃ t : State, exec (.fault b code) s = .next (conclude t)
      ∧ t.hasReq b .halt = true ∧ (t.bay b).hard = (s.bay b).hard + 1 ∧ (t.bay b).state = (s.bay b).state
      ∧ s.sameHost t ∧ s.samePlant t ∧ t.jobs = s.jobs ∧ s.otherBays t b
      ∧ ∃ r', t.docket d = some r' ∧ r'.cause = .writeFault ∧ r'.verdict = some .reject)
    ∧ ((s.bay b).state = .reserved ∨ (s.bay b).state = .opening ∨ (s.bay b).state = .open ∨ (s.bay b).state = .closing
        ∨ (s.bay b).state = .probing ∨ (s.bay b).state = .verifying ∨ (s.bay b).state = .holding →
      exec (.fault b code) s = .next (conclude (startReset b (entry (hardUp b s))))
      ∧ ((startReset b (entry (hardUp b s))).bay b).state = .resetting
      ∧ ((s.bay b).hard < 15 → ((startReset b (entry (hardUp b s))).bay b).hard = (s.bay b).hard + 1))
    ∧ ((s.bay b).state = .idle → (s.bay b).failing = false → (s.bay b).hard < 15 →
      let caught := (s.health.softLimit ≠ 0 ∧ s.health.softLimit ≤ (s.bay b).soft)
        ∨ (s.health.hardLimit ≠ 0 ∧ s.health.hardLimit ≤ (s.bay b).hard + 1)
      ∃ t : State, exec (.fault b code) s = .next (conclude t)
      ∧ (t.bay b).hard = (s.bay b).hard + 1 ∧ s.sameHost t ∧ s.samePlant t
      ∧ (caught → (t.bay b).state = .retired ∧ (t.bay b).failing = true ∧ (t.bay b).logical = none
        ∧ t.hasReq b .reset = s.hasReq b .reset)
      ∧ (¬ caught → (t.bay b).state = .resetting ∧ (t.bay b).failing = false ∧ (t.bay b).logical = (s.bay b).logical
        ∧ t.hasReq b .reset = true
        ∧ (s.faults.first = none → t.faults.first = some
            { code := .driveFault, bay := some b, docket := (s.bay b).docket, time := s.tower.time })))

/-- HALTED removes the HALT from the list. RESET_DONE sends IDENTIFY and takes the bay to DISCOVERING; a disc in the bay is taken out: TRAY_OPEN
is outstanding and its docket is in REJECT_WAIT. The reject hand-off: a SEATED, BURNING, FINALIZING or VERIFYING docket with verdict REJECT, in a
working bay with no request outstanding, enters REJECT_WAIT with place BAY, its burn end time set where it was burning and had none; the channel
is gone, the bay HOLDING, and the UNLOAD to the reject bin queued. No other docket is handed off. -/
def Obligations.HaltAndResetEnd : Prop :=
  ∀ (b : BayNo) (s : State),
    (s.hasReq b .halt = true → ∃ t : State, exec (.halted b) s = .next (conclude t)
      ∧ t = s.setBay b { s.bay b with reqs := (t.bay b).reqs } ∧ (t.bay b).reqs.length + 1 = (s.bay b).reqs.length
      ∧ ∀ q, q ≠ .halt → t.hasReq b q = s.hasReq b q)
    ∧ (s.hasReq b .reset = true → ∃ t : State, exec (.resetDone b) s = .next (conclude t)
      ∧ (t.bay b).state = .discovering ∧ t.hasReq b .identify = true ∧ (t.bay b).identified = true
      ∧ s.sameHost t ∧ s.samePlant t ∧ t.jobs = s.jobs ∧ t.faults = s.faults ∧ s.otherBays t b
      ∧ ∀ d r, (s.bay b).docket = some d → s.docket d = some r → r.place = some .bay → r.bay = b →
        t.hasReq b .trayOpen = true ∧ ∃ r', t.docket d = some r' ∧ r'.state = .rejectWait ∧ r'.cause = r.cause)
    ∧ (let due (d : DocketNo) (r : Docket) : Prop := (s.bay b).docket = some d ∧ s.docket d = some r
        ∧ (r.state = .seated ∨ r.state = .burning ∨ r.state = .finalizing ∨ r.state = .verifying) ∧ r.verdict = some .reject
        ∧ ((s.bay b).state = .closing ∨ (s.bay b).state = .probing ∨ (s.bay b).state = .burning ∨ (s.bay b).state = .finalizing
          ∨ (s.bay b).state = .verifying) ∧ (s.bay b).reqs = []
      ((∀ d r, ¬ due d r) → handOffRule b s = none)
      ∧ (∀ d r, due d r → r.bay = b → (∀ t ∈ s.transport.queue, t.docket ≠ d) → (∀ t, s.taskInFlight = some t → t.docket ≠ d) →
        ∃ t : State, handOffRule b s = some t
        ∧ (t.bay b).state = .holding ∧ (t.bay b).channel = .closed ∧ (t.bay b).docket = some d ∧ (t.bay b).reqs = []
        ∧ t.docket d = some { r with
            state := .rejectWait, place := some .bay
            burnEnd := if (r.state = .burning ∨ r.state = .finalizing) ∧ r.burnEnd = none then some s.tower.time else r.burnEnd }
        ∧ (∀ x, x ≠ d → t.docket x = s.docket x)
        ∧ t.transport = { s.transport with
            queue := s.transport.queue ++
              [{ docket := d, kind := .unload, source := .bay b, dest := .output .reject, age := s.transport.nextAge }]
            nextAge := s.transport.nextAge + 1 }
        ∧ s.sameHost t ∧ s.samePlant t ∧ t.faults = s.faults
        ∧ ((s.bay b).channel ≠ .closed → b ∉ t.pageWaiters ∧ (∀ id ∈ [LineId.image b, .extent b, .compare b], t.line id = none
          ∧ ∀ (k : FetchNo) (f : Fetch), s.fetch k = some f → f.line = id → t.fetch k = some { f with orphan := true }))
        ∧ ((∀ c, s.burnOf b = some c → c.held = []) → t.jobs = s.jobs ∧ s.otherBays t b)))

/-- A request's timer expires: TIMEOUT is reported with the bay and its docket, the hard counter rises, the docket takes BAY_TIMEOUT where it had
no cause, and a bay reset begins, in DISCOVERING as well; for RESET, and for the IDENTIFY and the PROBE of a completed reset, the bay goes to ABSENT
instead; a TRAY_OPEN sent after a reset leaves it ABSENT and stranded with its docket lost; a TRAY_OPEN for a move of the sweep leaves it ABSENT
and stranded, and the move is given up, the motors stopped at once (row 77); a PROBE of the sweep leaves it ABSENT and stranded. A request that is
not outstanding does not expire.
The last is the model's reading (row 2). -/
def Obligations.RequestsTimeOut : Prop :=
  ∀ (b : BayNo) (q : Request) (s : State), (s.bay b).hard < 15 →
    (s.unasked b q → exec (.requestTimeout b q) s = .next (conclude s))
    ∧ (∀ o, (s.bay b).reqs.find? (fun x => x.req == q) = some o → o.purpose = .normal ∨ o.purpose = .takeover → q ≠ .reset →
        (s.bay b).state.working = true ∨ (s.bay b).state = .discovering → ∃ t : State, exec (.requestTimeout b q) s = .next (conclude t)
      ∧ (t.bay b).state = .resetting ∧ (t.bay b).hard = (s.bay b).hard + 1 ∧ t.hasReq b .reset = true ∧ t.unasked b q
      ∧ s.sameHost t ∧ s.samePlant t
      ∧ (s.faults.first = none → t.faults.first = some
          { code := .timeout, bay := some b, docket := (s.bay b).docket, time := s.tower.time })
      ∧ ∀ d r, (s.bay b).docket = some d → s.docket d = some r → r.place = some .bay → r.state ≠ .reserved → r.state ≠ .inbound →
        r.cause = .none → ∃ r', t.docket d = some r' ∧ r'.cause = .bayTimeout ∧ r'.verdict = some .reject)
    ∧ (∀ o, (s.bay b).reqs.find? (fun x => x.req == q) = some o →
        q = .reset ∨ (o.purpose = .completion ∧ (q = .identify ∨ q = .probe)) →
        (s.bay b).state = .resetting ∨ (s.bay b).state = .discovering ∨ (s.bay b).state = .probing →
      ∃ t : State, exec (.requestTimeout b q) s = .next (conclude t)
      ∧ (t.bay b).state = .absent ∧ (t.bay b).hard = (s.bay b).hard + 1 ∧ s.sameHost t ∧ s.samePlant t ∧ t.jobs = s.jobs)
    ∧ (∀ o d r, (s.bay b).reqs.find? (fun x => x.req == q) = some o → q = .trayOpen → o.purpose = .completion ∨ o.purpose = .absent →
        (s.bay b).state ≠ .retired → (s.bay b).state ≠ .idle → (s.bay b).state ≠ .spare →
        (s.bay b).docket = some d → s.docket d = some r → r.state = .rejectWait → r.bay = b →
      ∃ t : State, exec (.requestTimeout b q) s = .next (conclude t)
      ∧ (t.bay b).state = .absent ∧ (t.bay b).stranded = true ∧ (t.bay b).docket = none ∧ s.sameHost t ∧ t.jobs = s.jobs
      ∧ ∃ r', t.docket d = some r' ∧ r'.state = .landed ∧ r'.outputBin = none ∧ r'.place = some .bay
        ∧ r'.cause = (if r.cause = .none then .bayTimeout else r.cause))
    ∧ (∀ o e, (s.bay b).reqs.find? (fun x => x.req == q) = some o → q = .trayOpen → o.purpose = .sweep ∨ o.purpose = .absent →
        (s.bay b).state = .opening ∨ (s.bay b).state = .absent → (s.bay b).docket = none → s.transport.state = .sweeping →
        s.transport.errand = some e → e.work = .sweep → e.source = some (.bay b) → e.held = false →
      ∃ t : State, exec (.requestTimeout b q) s = .next (conclude t)
      ∧ (t.bay b).state = .absent ∧ (t.bay b).stranded = true ∧ (t.bay b).hard = (s.bay b).hard + 1
      ∧ t.transport.errand = none ∧ t.transport.phase = .none ∧ t.transport.state = .sweeping ∧ t.transport.lift.duty = 0
      ∧ t.transport.sweepList = s.transport.sweepList ∧ s.sameHost t ∧ s.sameWork t ∧ s.samePlant t)
    ∧ (∀ o, (s.bay b).reqs.find? (fun x => x.req == q) = some o → q = .probe → o.purpose = .sweep → (s.bay b).state = .probing →
        (s.bay b).docket = none → ∃ t : State, exec (.requestTimeout b q) s = .next (conclude t)
      ∧ (t.bay b).state = .absent ∧ (t.bay b).stranded = true ∧ (t.bay b).sweepProbe = none
      ∧ (t.bay b).hard = (s.bay b).hard + 1 ∧ t.hasReq b .reset = s.hasReq b .reset ∧ t.out = s.out
      ∧ t.transport = s.transport ∧ s.sameHost t ∧ s.sameWork t ∧ s.samePlant t)

/-! ### The start-up and the resets of the tower -/

/-- The end of the configuration load, the end of homing, and the recovery sweep.
The load at power-up: a plausible geometry is held and the tower and the transport go to HOMING, down to lift home or, from on top of it,
first up; without one the tower is UNCALIBRATED, the transport is left as it was, and faults are reported: NO_MEMORY or BAD_SIGNATURE and then
NO_GEOMETRY, NO_GEOMETRY where the count leaves it unread, BAD_GEOMETRY where it is not plausible. Each installed bay other than the spare has
its own logical number, the drain timer starts, and the carriage is driven 520 steps. A region that fails its check is not applied and
reports BAD_REGION. A read again by CALIBRATE replaces the geometry alone. With the loader idle nothing is read (row 2). The plausibility of
a geometry (R177): positions and floors to 200,000, duties and ramp step 1..1,000, and a braking distance less than the highest position.
The end of homing: the count is trusted; with no task, a start-up enters DISCOVERING with the transport in SWEEPING, the bays never sent IDENTIFY
sending it (row 51), an interrupted sweep goes on, and otherwise the transport is FREE; with a task in flight it goes on with its leg, or its
docket is lost where its disc is gone. DISCOVERING ends once no installed bay is DISCOVERING or RESETTING: the IDLE and SPARE bays are
probed and the ABSENT stranded. The sweep takes the disc on the arm, which counts as carried (row 53), the disc on the printer, and once no
probe is out the bays of its list, of which it passes over one that RETIRED (row 28) and one being reset; with none left the tower is RUNNING.
The model's choices besides: no spare without a plant region (row 37), a resume in DISCOVERING or SWEEPING (row 47), the number of a bay that the load
retires (row 55), no sweep once RUNNING was reached (row 74), a bay in another state left unprobed (row 76), one still PROBING left with the
probe it has (row 83), and limits and an interval set by a card during the load kept where no health region is applied (row 82). -/
def Obligations.LoadedHomedAndSwept : Prop :=
  (∀ (m : List Byte) (s : State),
    let good := field m 0 2 = 0x5B3C ∧ 1 ≤ field m 2 1 ∧ (parseGeometry m).plausible = true
    let map (t : State) := ∀ b : BayNo, (t.bay b).logical =
      if (t.bay b).installed = true ∧ t.health.spare ≠ some b then some b else none
    let fault (code : FaultCode) : Option FaultEntry := some { code := code, bay := none, docket := none, time := s.tower.time }
    let unread (t : State) : Prop := s.sameWork t ∧ t.regs = s.regs ∧ t.sensors = s.sensors ∧ t.transport = s.transport
      ∧ t.tower.state = .uncalibrated ∧ t.tower.loader = .idle ∧ t.tower.calibration = none
      ∧ (s.faults = FaultRecord.clear → t.faults.first = fault (if field m 0 2 ≠ 0x5B3C then .badSignature
          else if field m 2 1 = 0 then .noGeometry else .badGeometry))
      ∧ (s.faults = FaultRecord.clear → field m 0 2 ≠ 0x5B3C → t.faults =
          { first := fault .badSignature, motion := 0, bay := 0, hostMemory := 0, print := 0, config := 1 })
    let unanswered (t : State) : Prop := s.sameWork t ∧ t.regs = s.regs ∧ t.board = s.board ∧ t.sensors = s.sensors
      ∧ t.transport = s.transport ∧ t.tower.state = .uncalibrated ∧ t.tower.loader = .idle ∧ t.tower.calibration = none
      ∧ t.faults = { first := fault .noMemory, motion := 0, bay := 0, hostMemory := 0, print := 0, config := 1 }
    let badPlant : Prop := field m 94 1 ≠ 255 ∧ (field m 94 1 < 12 → (field m 92 2).testBit (field m 94 1) = false)
    let badBins : Prop := mediaClassOf (field m 96 1) = none ∨ mediaClassOf (field m 97 1) = none
      ∨ ¬ (1 ≤ field m 98 2 ∧ field m 98 2 ≤ 300) ∨ ¬ (1 ≤ field m 100 2 ∧ field m 100 2 ≤ 300)
    let badHealth : Prop := 15 < field m 104 1 ∨ 15 < field m 105 1 ∨ ¬ (1 ≤ field m 106 2 ∧ field m 106 2 ≤ 1440)
    (s.tower.loader = .whole → good → s.tower.state = .loading → ∃ t : State,
      exec (.configLoadEnd (.image m)) s = .next (conclude t)
      ∧ s.sameWork t ∧ t.regs = s.regs ∧ t.board = s.board ∧ t.sensors = s.sensors
      ∧ t.tower.state = .homing ∧ t.tower.loader = .idle ∧ t.tower.calibration = some (parseGeometry m)
      ∧ t.transport.state = .homing ∧ t.transport.lift.duty = (parseGeometry m).creepDuty
      ∧ t.transport.phase = (if s.sensor .liftHome = true then .homeUp else .homeDown)
      ∧ map t ∧ t.health.drainTimer = some (t.health.drainMinutes * 60000) ∧ t.printer.homingSteps = 520
      ∧ (s.faults = FaultRecord.clear →
          (2 ≤ field m 2 1 ∧ badPlant) ∨ (3 ≤ field m 2 1 ∧ badBins) ∨ (4 ≤ field m 2 1 ∧ badHealth) →
          t.faults.first = fault .badRegion)
      ∧ (field m 2 1 < 2 ∨ badPlant → t.health.spare = none ∧ ∀ b : BayNo, (t.bay b).installed = (s.bay b).installed)
      ∧ (2 ≤ field m 2 1 → ¬ badPlant → (∀ b : BayNo, (t.bay b).installed = (field m 92 2).testBit b.val)
        ∧ ((∀ b : BayNo, (s.bay b).soft = 0 ∧ (s.bay b).hard = 0) →
            t.health.spare.map (·.val) = if field m 94 1 = 255 then none else some (field m 94 1)))
      ∧ (field m 2 1 < 3 ∨ badBins → t.bins = s.bins)
      ∧ (3 ≤ field m 2 1 → ¬ badBins → mediaClassOf (field m 96 1) = some t.bins.a.cls
        ∧ mediaClassOf (field m 97 1) = some t.bins.b.cls ∧ t.bins.good.capacity = field m 98 2
        ∧ t.bins.reject.capacity = field m 100 2 ∧ t.bins.a.state = s.bins.a.state ∧ t.bins.b.state = s.bins.b.state
        ∧ t.bins.good.count = s.bins.good.count ∧ t.bins.reject.count = s.bins.reject.count)
      ∧ (field m 2 1 < 4 ∨ badHealth → t.health.softLimit = s.health.softLimit ∧ t.health.hardLimit = s.health.hardLimit
        ∧ t.health.drainMinutes = s.health.drainMinutes)
      ∧ (4 ≤ field m 2 1 → ¬ badHealth → t.health.softLimit = field m 104 1 ∧ t.health.hardLimit = field m 105 1
        ∧ t.health.drainMinutes = field m 106 2))
    ∧ (s.tower.loader = .whole → ¬ good → ∃ t : State,
      exec (.configLoadEnd (.image m)) s = .next (conclude t) ∧ unread t
      ∧ map t ∧ t.health.drainTimer = some (t.health.drainMinutes * 60000) ∧ t.printer.homingSteps = 520)
    ∧ (s.tower.loader = .whole → s.faults = FaultRecord.clear → ∃ t : State,
      exec (.configLoadEnd .noAnswer) s = .next (conclude t) ∧ unanswered t
      ∧ map t ∧ t.health.spare = none ∧ t.health.drainTimer = some (s.health.drainMinutes * 60000)
      ∧ t.printer.homingSteps = 520 ∧ t.bins = s.bins)
    ∧ (s.tower.loader = .geometry → good → s.tower.state = .loading → ∃ t : State,
      exec (.configLoadEnd (.image m)) s = .next (conclude t)
      ∧ t.tower.state = .homing ∧ t.tower.calibration = some (parseGeometry m) ∧ t.transport.state = .homing
      ∧ t.health = s.health ∧ t.bins = s.bins ∧ t.bays = s.bays ∧ t.faults = s.faults)
    ∧ (s.tower.loader = .geometry → ¬ good → ∃ t : State, exec (.configLoadEnd (.image m)) s = .next (conclude t)
      ∧ unread t ∧ t.health = s.health ∧ t.bins = s.bins ∧ t.bays = s.bays ∧ t.printer = s.printer)
    ∧ (s.tower.loader = .geometry → s.faults = FaultRecord.clear → ∃ t : State,
      exec (.configLoadEnd .noAnswer) s = .next (conclude t)
      ∧ unanswered t ∧ t.health = s.health ∧ t.bins = s.bins ∧ t.bays = s.bays ∧ t.printer = s.printer)
    ∧ (s.tower.loader = .idle → exec (.configLoadEnd (.image m)) s = .next (conclude s)))
  ∧ (∀ c : Calibration, c.plausible = true ↔
    c.floorA ≤ 200000 ∧ c.floorB ≤ 200000 ∧ (∀ i : Fin 17, c.stations.get i ≤ 200000)
    ∧ (1 ≤ c.startDuty ∧ c.startDuty ≤ 1000) ∧ (1 ≤ c.cruiseDuty ∧ c.cruiseDuty ≤ 1000)
    ∧ (1 ≤ c.creepDuty ∧ c.creepDuty ≤ 1000) ∧ (1 ≤ c.rampStep ∧ c.rampStep ≤ 1000)
    ∧ (c.braking < c.floorA ∨ c.braking < c.floorB ∨ ∃ i : Fin 17, c.braking < c.stations.get i))
  ∧ (∀ s : State,
    let t := finishHoming s
    t.transport.lift.trusted = true ∧ t.regs = s.regs ∧ t.jobs = s.jobs
    ∧ ((∀ e x, s.transport.errand = some e → e.work ≠ .task x) →
      s.sameWork t ∧ s.samePlant t
      ∧ (s.tower.state = .homing → s.tower.reachedRunning = true →
          t.tower.state = .running ∧ t.transport.state = .free ∧ t.bays = s.bays)
      ∧ (s.tower.state = .homing → s.tower.reachedRunning = false →
          t.tower.state = .discovering ∧ t.transport.state = .sweeping ∧ t.transport.stage = .arm
          ∧ t.transport.armDisc = s.sensor .discPresent
          ∧ ∀ b : BayNo,
            ((s.bay b).installed = true ∧ (s.bay b).identified = false ∧ (s.bay b).state ≠ .resetting →
              (t.bay b).state = .discovering ∧ t.hasReq b .identify = true ∧ (t.bay b).identified = true)
            ∧ (¬ ((s.bay b).installed = true ∧ (s.bay b).identified = false ∧ (s.bay b).state ≠ .resetting) → t.bay b = s.bay b))
      ∧ (s.tower.state = .discovering ∨ s.tower.state = .sweeping → s.transport.errand = none →
          t.transport.state = .sweeping ∧ t.tower = s.tower ∧ t.bays = s.bays ∧ t.transport.stage = s.transport.stage
          ∧ t.transport.armDisc = (if s.transport.stage = .arm then s.sensor .discPresent else s.transport.armDisc))
      ∧ (s.tower.state ≠ .homing → s.tower.state ≠ .discovering → s.tower.state ≠ .sweeping →
          t.transport.state = .free ∧ t.tower = s.tower ∧ t.bays = s.bays ∧ t.transport.errand = s.transport.errand))
    ∧ (∀ e x, s.transport.errand = some e → e.work = .task x → e.held = true → s.sensor .discPresent = true →
      t.transport.state = .busy ∧ t.transport.carrying = true ∧ t.transport.phase = .lift .place ∧ t.transport.errand = some e
      ∧ t.transport.lift = { (startMove (s.position e.dest) s).transport.lift with trusted := true })
    ∧ (∀ e x st, s.transport.errand = some e → e.work = .task x → e.held = false → e.source = some st →
      t.transport.state = .busy ∧ t.transport.phase = .lift .pick ∧ t.transport.errand = some e
      ∧ t.transport.lift = { (startMove (s.position st) s).transport.lift with trusted := true })
    ∧ (∀ e x r, s.transport.errand = some e → e.work = .task x → e.held = true → s.sensor .discPresent = false →
      s.docket x.docket = some r → t.transport.state = .free ∧ t.transport.errand = none
      ∧ ∃ r' : Docket, t.docket x.docket = some r' ∧ r'.state = .landed ∧ r'.outputBin = none ∧ r'.place = some .arm
        ∧ r'.cause = if r.cause = .none then .dropped else r.cause))
  ∧ (∀ s : State,
    let ended : Prop := s.tower.state = .discovering
      ∧ ∀ b : BayNo, (s.bay b).installed = true → (s.bay b).state ≠ .discovering ∧ (s.bay b).state ≠ .resetting
    (¬ ended → endDiscovering s = none)
    ∧ (ended → ∃ t : State, endDiscovering s = some t ∧ s.sameWork t ∧ s.samePlant t ∧ t.regs = s.regs
      ∧ t.tower.state = .sweeping ∧ t.transport.stage = .arm ∧ t.transport.sweepList = []
      ∧ t.transport.state = s.transport.state ∧ t.transport.armDisc = s.transport.armDisc ∧ t.faults = s.faults
      ∧ ∀ b : BayNo,
        let probed := (s.bay b).installed = true ∧ ((s.bay b).state = .idle ∨ (s.bay b).state = .spare)
        let lost := (s.bay b).installed = true ∧ (s.bay b).state = .absent
        (probed → (t.bay b).state = .probing ∧ t.hasReq b .probe = true ∧ (t.bay b).sweepProbe = some (s.bay b).state)
        ∧ (lost → t.bay b = { s.bay b with stranded := true })
        ∧ (¬ probed → ¬ lost → t.bay b = s.bay b)))
  ∧ (∀ (b : BayNo) (kind : MediaKind) (cls : MediaClass) (cap : Nat) (left : BayState) (s : State),
    s.hasReq b .probe = true → (s.bay b).docket = none → (s.bay b).sweepProbe = some left → (s.bay b).failing = false →
    (left = .idle ∨ left = .spare) → ∃ t : State, exec (.media b kind cls cap) s = .next (conclude t)
      ∧ s.sameHost t ∧ s.sameWork t ∧ s.samePlant t ∧ s.otherBays t b ∧ t.faults = s.faults
      ∧ (t.bay b).state = left ∧ (t.bay b).sweepProbe = none ∧ (t.bay b).soft = (s.bay b).soft ∧ (t.bay b).hard = (s.bay b).hard
      ∧ ∀ x : BayNo, x ∈ t.transport.sweepList ↔ x ∈ s.transport.sweepList ∨ (x = b ∧ kind ≠ .none))
  ∧ (∀ s : State,
    let sweeps := s.tower.state = .sweeping ∧ s.transport.state = .sweeping ∧ s.transport.errand = none
    let moved (p : Phase) (e : Errand) (stage : SweepStage) (carry : Bool) : State :=
      { s with transport := { s.transport with phase := p, errand := some e, stage := stage, carrying := carry } }
    let move (source : Option Station) (held : Bool) : Errand :=
      { work := .sweep, source := source, dest := .output .reject, held := held, misses := 0 }
    let probing := ∃ b : BayNo, (s.bay b).sweepProbe ≠ none
    (¬ sweeps → sweepStep s = none)
    ∧ (sweeps → s.transport.stage = .arm → s.transport.armDisc = true →
        sweepStep s = some (startMove (s.position (.output .reject)) (moved (.lift .place) (move none true) .printer true)))
    ∧ (sweeps → s.transport.stage = .arm → s.transport.armDisc = false →
        sweepStep s = some { s with transport := { s.transport with stage := .printer } })
    ∧ (sweeps → s.transport.stage = .printer → s.sensor .trayPresent = true →
        sweepStep s = some (startMove (s.position .printer)
          (moved (.lift .pick) (move (some .printer) false) .bays s.transport.carrying)))
    ∧ (sweeps → s.transport.stage = .printer → s.sensor .trayPresent = false →
        sweepStep s = some { s with transport := { s.transport with stage := .bays } })
    ∧ (sweeps → s.transport.stage = .bays → probing → sweepStep s = none)
    ∧ (sweeps → s.transport.stage = .bays → ¬ probing → s.transport.sweepList = [] → ∃ t : State, sweepStep s = some t
      ∧ t.tower.state = .running ∧ t.tower.reachedRunning = true ∧ t.transport.state = .free ∧ t.bays = s.bays ∧ s.sameWork t
      ∧ (s.regs.run = true → t.roundDue = true))
    ∧ (∀ b rest, sweeps → s.transport.stage = .bays → ¬ probing → s.transport.sweepList = b :: rest →
      let passed : State := { s with transport := { s.transport with sweepList := rest } }
      ((s.bay b).state = .retired → sweepStep s = some passed)
      ∧ ((s.bay b).state = .resetting ∨ (s.bay b).state = .discovering →
          sweepStep s = some (passed.setBay b { s.bay b with stranded := true }))
      ∧ ((s.bay b).state ≠ .retired → (s.bay b).state ≠ .resetting → (s.bay b).state ≠ .discovering → ∃ t : State, sweepStep s = some t
        ∧ t.transport.errand = some (move (some (.bay b)) false) ∧ t.transport.phase = .lift .pick
        ∧ t.transport.sweepList = rest ∧ t.transport.lift = (startMove (s.position (.bay b)) s).transport.lift
        ∧ s.otherBays t b ∧ s.sameWork t ∧ s.samePlant t
        ∧ ((s.bay b).tray = .open → s.hasReq b .trayClose = false → (s.bay b).state ≠ .absent →
            (t.bay b).state = .open ∧ t.out = s.out)
        ∧ (¬ ((s.bay b).tray = .open ∧ s.hasReq b .trayClose = false) → t.hasReq b .trayOpen = true
          ∧ ((s.bay b).state ≠ .absent → (t.bay b).state = .opening)))))

/-- A tower reset and a link reset free every job and docket, close every channel, stop the transport's work and reset every installed bay that is
not RETIRED, keeping the calibration, the counters, the map, the designation, the fault record, the bins and the carriage. Where the transport was
HALTED, whether the arm carries a disc is read afresh from disc-present (the model's choice, row 84). A tower reset keeps the
register window and the posted writes and orphans the fetches; a link reset clears all three, and with them the status block address in use (row
79). The printer lets go of its docket, its band stores, its band load, its lanes and a carriage move; it enters SPINDOWN where the spindle was
driven, with 10 s and 200 ms afresh (row 63), else READY_OUT or EMPTY as tray-present says, from SPINDOWN and FAULT too (row 20). The tower goes to
HOMING with a calibration set, to UNCALIBRATED without, and stays LOADING while it loads. -/
def Obligations.TowerAndLinkReset : Prop :=
  ∀ s : State,
    let common (t : State) :=
      (∀ j : SlotNo, t.job j = none) ∧ (∀ d : DocketNo, t.docket d = none) ∧ t.transport.queue = [] ∧ t.transport.errand = none
      ∧ (∀ b : BayNo, (t.bay b).channel = .closed ∧ (t.bay b).stranded = false ∧ (t.bay b).soft = (s.bay b).soft
          ∧ (t.bay b).hard = (s.bay b).hard ∧ (t.bay b).logical = (s.bay b).logical ∧ (t.bay b).failing = (s.bay b).failing
          ∧ ((s.bay b).installed = true → (s.bay b).state ≠ .retired → (t.bay b).state = .resetting)
          ∧ ((s.bay b).installed = false → (t.bay b).state = (s.bay b).state)
          ∧ ((s.bay b).state = .retired → (t.bay b).state = .retired))
      ∧ t.tower.calibration = s.tower.calibration ∧ t.health = s.health ∧ t.faults = s.faults ∧ t.bins = s.bins
      ∧ t.transport.carrying = (s.transport.carrying && (s.transport.state != .halted || s.sensor .discPresent))
      ∧ t.printer.position = s.printer.position ∧ t.printer.docket = none ∧ t.freePages = 64
      ∧ (let driven := s.printer.state = .spinup ∨ s.printer.state = .settling ∨ s.printer.state = .stepping ∨ s.printer.state = .printing
        t.printer.state = (if driven then .spindown else if s.sensor .trayPresent = true then .readyOut else .empty)
        ∧ t.printer.spindownTimer = (if driven then some 10000 else none) ∧ t.printer.quietTimer = (if driven then some 200 else none)
        ∧ t.printer.clampTimer = none ∧ t.printer.spinupTimer = none ∧ t.printer.settleTimer = none)
      ∧ t.printer.active = none ∧ t.printer.shadow = none ∧ t.printer.load = [] ∧ t.printer.carriageTarget = none
      ∧ (∀ lane : LaneNo, (t.printer.lanes.get lane).enabled = false ∧ (t.printer.lanes.get lane).waiting = []
          ∧ (t.printer.lanes.get lane).lastFire = none ∧ (t.printer.lanes.get lane).recovering = false)
      ∧ (∀ id : LineId, t.line id = none)
      ∧ (s.tower.state = .loading → t.tower.state = .loading ∧ t.transport.state = .stopped)
      ∧ (s.tower.state ≠ .loading → s.tower.calibration = none → t.tower.state = .uncalibrated ∧ t.transport.state = .stopped)
      ∧ (s.tower.state ≠ .loading → s.tower.calibration ≠ none → t.tower.state = .homing ∧ t.transport.state = .homing)
    (∃ t : State, exec .towerReset s = .next (conclude t) ∧ common t ∧ t.regs = s.regs ∧ t.board.tally = s.board.tally
      ∧ t.board.generation = s.board.generation ∧ (∃ more, t.engine.posted = s.engine.posted ++ more)
      ∧ ∀ k : FetchNo, t.fetch k = (s.fetch k).map fun f => { f with orphan := true })
    ∧ (∃ t : State, exec .linkReset s = .next (conclude t) ∧ common t
      ∧ t.regs = { boardLow := 0, boardHigh := 0, run := false, irqEn := false, cardDone := false, statusNew := false, halted := false }
      ∧ t.board.tally = 0 ∧ t.board.generation = 0 ∧ t.board.statusAddr = none ∧ t.engine.posted = [] ∧ t.engine.pointer = 0
      ∧ ∀ k : FetchNo, t.fetch k = none)

/-! ### Host memory -/

/-- The end of a fetch: an orphan's slot is freed and nothing more; image data goes to its group's page; an extent record, a signature block, band
data, the anchor and the card table are put together from their pieces; a burn compare that agrees leaves the list, and one that differs does too,
gives SOURCE_CHANGED, fails the job and halts the drive; data of another length completes nothing (row 41). A failure, by error or by timeout, is
entered in the fault record with the line's bay and the docket of its channel. A burn channel's docket takes HOST_READ and fails its job, and
a failed compare leaves the list; a verify channel's docket takes HOST_READ and its job goes on; a failed board fetch abandons the scan, and a
failed band fetch aborts the print unless an abort has ended its load. A presented board or extent request that reaches 100 ms is aged, and is
then taken at PRINT class; the other lines do not age. A slot or a line without a fetch has no effect (row 2).
The burn streamer: pieces are cut from the cursor to the next 4 KiB boundary, the end of the extent or the end of the group, and presented one
at a time once the group has its page; extents that end early or overrun give EXTENT_MISMATCH, and so does an invalid record; a table that ends
exactly with a group that is not the last is found short at the next cut (row 32); extent records are asked for one fetch at a time, record 0,
record 1 after it, and each later one as the cursor enters the extent before it; the preloaded record becomes the current one at the end of the
extent; a group completes when its bytes are all there, no write is held and fewer than 8 compares are listed, and its page is FULL then (row 68).
The staging pool: below 2 pages a channel takes a reserved free page, from 2 to 7 a common one; a free page goes to the waiting channel that
comes first, those below 2 pages before the others. -/
def Obligations.FetchesBurnsAndPages : Prop :=
  (∀ (k : FetchNo) (data : List Byte) (s : State), s.fetch k = none →
    exec (.fetchComplete k data) s = .next (conclude s) ∧ exec (.fetchError k) s = .next (conclude s)
    ∧ exec (.fetchTimeout k) s = .next (conclude s))
  ∧ (∀ (k : FetchNo) (data : List Byte) (f : Fetch) (s : State), s.fetch k = some f →
    let freed : State := { s with engine := { s.engine with slots := s.engine.slots.set k none } }
    let fails (t u : State) : Prop := exec (.fetchError k) s = .next (conclude t) ∧ exec (.fetchTimeout k) s = .next (conclude u)
    (f.orphan = true → data.length = f.len →
      exec (.fetchComplete k data) s = .next (conclude freed) ∧ fails freed freed)
    ∧ (∀ b g off c, f.orphan = false → data.length = f.len → f.line = .image b → f.target = .image g off → s.burnOf b = some c →
      ∃ t : State, exec (.fetchComplete k data) s = .next (conclude t) ∧ t.fetch k = none
      ∧ t.burnOf b = some { c with
          pages := c.pages.map (fun p => if p.group = g then { p with got := insertPiece off data p.got } else p) }
      ∧ s.sameHost t ∧ s.sameWork t ∧ s.samePlant t ∧ t.transport = s.transport ∧ t.faults = s.faults ∧ s.otherBays t b)
    ∧ (data.length ≠ f.len → exec (.fetchComplete k data) s = .next (conclude s))
    ∧ (f.orphan = false → data.length = f.len →
      let gives (t : State) : Prop := exec (.fetchComplete k data) s = .next (conclude t)
      (∀ b g c e, f.line = .compare b → f.target = .compare g → f.len = 4 → s.burnOf b = some c →
          c.compares.find? (fun x => x.group == g) = some e →
        let left : State := freed.setBay b { s.bay b with channel := .burn { c with compares := c.compares.filter fun x => x.group != g } }
        (field data 0 4 = e.crc.toNat → gives left)
        ∧ (field data 0 4 ≠ e.crc.toNat → ∀ r j, s.docket c.docket = some r → s.job r.slot = some j →
          ∃ t : State, gives t
          ∧ t = stopJob r.slot .failed .sourceChanged .jobFailed (giveCause true c.docket .sourceChanged left)
          ∧ (∀ c', t.burnOf b = some c' → ∀ x ∈ c'.compares, x.group ≠ g)
          ∧ (r.cause = .none → r.state ≠ .reserved → ∃ r', t.docket c.docket = some r' ∧ r'.cause = .sourceChanged ∧ r'.verdict = some .reject)
          ∧ (r.cause = .none → r.state = .burning ∨ r.state = .finalizing → r.bay = b → s.unasked b .halt →
              (s.bay b).driveStopped = false → t.hasReq b .halt = true)
          ∧ (j.state = .active → ∃ j', t.job r.slot = some j' ∧ j'.state ≠ .active ∧ j'.outcome = some .failed
              ∧ j'.failCause = .sourceChanged)
          ∧ (j.state ≠ .active → t.jobs = s.jobs)))
      ∧ (∀ b i off c rd, f.line = .extent b → f.target = .extent i off → s.burnOf b = some c →
          c.extReads.find? (fun x => x.1 == i) = some (i, rd) →
        let placed : Burn := { c with extReads := c.extReads.map fun x => if x.1 = i then (x.1, x.2.place off data) else x }
        let held : State := freed.setBay b { s.bay b with channel := .burn placed }
        ((rd.place off data).data = none → gives held)
        ∧ (∀ record, (rd.place off data).data = some record → gives (takeExtent b placed i record held)))
      ∧ (∀ b n off, f.line = .compare b → f.target = .block n off → gives (arriveBlock b n off data freed))
      ∧ (∀ part off, f.line = .print → f.target = .band part off →
          (f.stale = true → gives freed) ∧ (f.stale = false → gives (arriveBand part off data freed)))
      ∧ (∀ off sc rd, f.line = .board → f.target = .board off → s.board.scan = some sc →
        (sc.phase = .anchor rd → (rd.place off data).data = none →
          gives { freed with board := { s.board with scan := some { sc with phase := .anchor (rd.place off data) } } })
        ∧ (∀ bytes, sc.phase = .anchor rd → (rd.place off data).data = some bytes → gives (takeAnchor sc bytes freed))
        ∧ (sc.phase = .table rd →
          gives { freed with board := { s.board with scan := some { sc with phase := .table (rd.place off data) } } })))
    ∧ (∀ b c r j, f.orphan = false → f.line = .image b ∨ f.line = .extent b ∨ f.line = .compare b → s.burnOf b = some c →
        s.docket c.docket = some r → s.job r.slot = some j → j.state = .active → r.cause = .none → s.faults.first = none →
      let rejected (v : State) (code : FaultCode) : Prop :=
        v.faults.first = some { code := code, bay := some b, docket := some c.docket, time := s.tower.time }
        ∧ v.fetch k = none ∧ s.sameHost v ∧ s.samePlant v
        ∧ (r.state ≠ .reserved → ∃ r', v.docket c.docket = some r' ∧ r'.cause = .hostRead ∧ r'.verdict = some .reject)
        ∧ (∀ g c', f.line = .compare b → f.target = .compare g → v.burnOf b = some c' → ∀ e ∈ c'.compares, e.group ≠ g)
        ∧ ∃ j', v.job r.slot = some j' ∧ j'.state ≠ .active ∧ j'.outcome = some .failed ∧ j'.failCause = .hostRead
      ∃ t u : State, fails t u ∧ rejected t .readError ∧ rejected u .readTimeout)
    ∧ (∀ b c r, f.orphan = false → f.line = .compare b → s.verifyOf b = some c → c.state = .reading → s.docket c.docket = some r →
        r.state = .verifying → r.bay = b → r.cause = .none → s.faults.first = none →
      let rejected (v : State) (code : FaultCode) : Prop :=
        v.faults.first = some { code := code, bay := some b, docket := some c.docket, time := s.tower.time }
        ∧ v.fetch k = none ∧ v.jobs = s.jobs ∧ s.sameHost v ∧ s.samePlant v
        ∧ v.docket c.docket = some { r with cause := .hostRead, verdict := some .reject, verdictTime := some s.tower.time }
        ∧ v.verifyOf b = some { c with state := .stopped }
      ∃ t u : State, fails t u ∧ rejected t .readError ∧ rejected u .readTimeout)
    ∧ (f.orphan = false → f.line = .board → fails (abandonScan (reportFault .readError none none freed))
        (abandonScan (reportFault .readTimeout none none freed)))
    ∧ (f.orphan = false → f.line = .print → f.stale = true → fails (reportFault .readError none none freed)
        (reportFault .readTimeout none none freed))
    ∧ (f.orphan = false → f.line = .print → f.stale = false →
        fails (abortPrint .printStarved none (reportFault .readError none none freed))
          (abortPrint .printStarved none (reportFault .readTimeout none none freed))))
  ∧ (∀ s : State,
    (∀ q : FetchReq, s.line .board = some q → ∃ t : State, exec (.requestAged .board) s = .next (conclude t)
      ∧ t = { s with engine := { s.engine with board := some { q with aged := true, ageTimer := none } } }
      ∧ t.classOf .board { q with aged := true, ageTimer := none } = .print)
    ∧ (∀ (b : BayNo) (q : FetchReq), s.line (.extent b) = some q → ∃ t : State, exec (.requestAged (.extent b)) s = .next (conclude t)
      ∧ t = s.setBay b { s.bay b with extent := some { q with aged := true, ageTimer := none } }
      ∧ t.classOf (.extent b) { q with aged := true, ageTimer := none } = .print)
    ∧ (∀ b : BayNo, exec (.requestAged (.image b)) s = .next (conclude s) ∧ exec (.requestAged (.compare b)) s = .next (conclude s))
    ∧ exec (.requestAged .print) s = .next (conclude s)
    ∧ (∀ id : LineId, s.line id = none → exec (.requestAged id) s = .next (conclude s)))
  ∧ (∀ (b : BayNo) (c : Burn) (r : Docket) (j : Job) (s : State), s.burnOf b = some c → s.docket c.docket = some r →
      s.job r.slot = some j → (c.state = .opening ∨ c.state = .streaming ∨ c.state = .draining) →
    let bytes (g : Nat) : Nat := 2048 * min 16 (j.totalSectors - 16 * g)
    let mismatch : State := stopJob r.slot .failed .extentMismatch .jobFailed (giveCause true c.docket .extentMismatch s)
    (∀ e, c.cur = some e → c.cutGroup < c.groups → (s.bay b).image = none →
      let atEnd := c.extOffset = e.sectors * 2048
      let n := min (min (e.sectors * 2048 - c.extOffset) (4096 - (e.addr + c.extOffset) % 4096)) (bytes c.cutGroup - c.cutBytes)
      let lastPiece := c.cutBytes + n = bytes c.cutGroup
      let endsThere := c.extOffset + n = e.sectors * 2048 ∧ c.extIndex + 1 = j.extentCount
      let held := ∃ p ∈ c.pages, p.group = c.cutGroup
      (atEnd → c.extIndex + 1 = j.extentCount → cutPiece b s = some mismatch)
      ∧ (atEnd → c.extIndex + 1 ≠ j.extentCount → cutPiece b s = none)
      ∧ (¬ atEnd → ¬ held → cutPiece b s = none)
      ∧ (¬ atEnd → held → (endsThere ∧ ¬ lastPiece) ∨ (lastPiece ∧ c.cutGroup + 1 = c.groups ∧ ¬ endsThere) →
        cutPiece b s = some mismatch)
      ∧ (¬ atEnd → held → ¬ ((endsThere ∧ ¬ lastPiece) ∨ (lastPiece ∧ c.cutGroup + 1 = c.groups ∧ ¬ endsThere)) →
        cutPiece b s = some (s.setBay b { s.bay b with
          image := some { addr := e.addr + c.extOffset, len := n, target := .image c.cutGroup c.cutBytes, stamp := s.event
                          aged := false, ageTimer := none }
          channel := .burn { c with
            extOffset := c.extOffset + n
            cutGroup := if lastPiece then c.cutGroup + 1 else c.cutGroup
            cutBytes := if lastPiece then 0 else c.cutBytes + n } })))
    ∧ ((s.bay b).image ≠ none ∨ c.groups ≤ c.cutGroup → cutPiece b s = none)
    ∧ ((s.bay b).extent ≠ none → presentExtent b s = none)
    ∧ (∀ before i rd after, (s.bay b).extent = none → c.extReads = before ++ (i, rd) :: after → (∀ x ∈ before, x.2.len ≤ x.2.cut) →
        rd.cut < rd.len → let n := min (rd.len - rd.cut) (4096 - (rd.base + rd.cut) % 4096)
      presentExtent b s = some (s.setBay b { s.bay b with
        extent := some { addr := rd.base + rd.cut, len := n, target := .extent i rd.cut, stamp := s.event
                         aged := false, ageTimer := some 100 }
        channel := .burn { c with
          extReads := c.extReads.map fun x => if x.1 = i then (x.1, { x.2 with cut := x.2.cut + n }) else x } }))
    ∧ ((s.bay b).extent = none → (∀ x ∈ c.extReads, x.2.len ≤ x.2.cut) →
      let asks := c.extAsk ≤ c.extIndex + 1 ∧ c.extAsk < j.extentCount
      (asks → presentExtent b s = some (s.setBay b { s.bay b with channel := .burn { c with
        extReads := c.extReads ++ [(c.extAsk, { base := j.extentTable + 16 * c.extAsk, len := 16, cut := 0, got := [] })]
        extAsk := c.extAsk + 1 } }))
      ∧ (¬ asks → presentExtent b s = none))
    ∧ (∀ e x, c.cur = some e → c.nxt = some x → c.extOffset = e.sectors * 2048 → advanceExtent b s = some (s.setBay b { s.bay b with
        channel := .burn { c with cur := some x, nxt := none, extIndex := c.extIndex + 1, extOffset := 0 } }))
    ∧ (∀ i record, let e : Extent := { addr := field record 0 8, sectors := field record 8 4 }
      let taken : Burn := { c with extReads := c.extReads.filter fun p => p.1 != i }
      (e.addr % 4 ≠ 0 ∨ e.sectors = 0 → takeExtent b c i record s =
        stopJob r.slot .failed .extentMismatch .jobFailed
          (giveCause true c.docket .extentMismatch (s.setBay b { s.bay b with channel := .burn taken })))
      ∧ (e.addr % 4 = 0 → e.sectors ≠ 0 → i = 0 → takeExtent b c i record s =
        s.setBay b { s.bay b with channel := .burn { taken with cur := some e } })
      ∧ (e.addr % 4 = 0 → e.sectors ≠ 0 → i ≠ 0 → takeExtent b c i record s =
        s.setBay b { s.bay b with channel := .burn { taken with nxt := some e } }))
    ∧ (∀ p, c.pages.find? (fun q => q.group == c.complete) = some p →
      let data := p.got.flatMap fun q => q.2
      let may := c.complete < c.groups ∧ c.held = [] ∧ c.compares.length < 8 ∧ data.length = bytes c.complete
      (may → completeGroup b s = some (signatureAction b r.slot j c.complete (crc32 data) (s.setBay b { s.bay b with
        channel := .burn { c with
          pages := c.pages.map (fun q => if q.group = c.complete then { q with full := true } else q)
          complete := c.complete + 1
          state := if c.complete + 1 = c.groups ∧ c.state = .streaming then .draining else c.state } })))
      ∧ (¬ may → completeGroup b s = none)))
  ∧ (∀ s : State,
    let free := 64 - (Config.allBays.map fun b => (s.bay b).channel.pages.length).sum
    let need := (Config.allBays.map fun b =>
      if (s.bay b).channel = .closed then 0 else 2 - (s.bay b).channel.pages.length).sum
    (∀ b : BayNo, let h := (s.bay b).channel.pages.length
      (s.canTakePage b = true ↔ (h < 2 ∧ 1 ≤ min free need) ∨ (2 ≤ h ∧ h < 8 ∧ 1 ≤ free - min free need)))
    ∧ ((∀ b ∈ s.pageWaiters, s.canTakePage b = false) → offerPage s = none)
    ∧ (∀ (b : BayNo) (before after : List BayNo), s.pageWaiters = before ++ b :: after → b ∉ before → s.canTakePage b = true →
      ((s.bay b).channel.pages.length < 2 ∧ (∀ x ∈ before, (s.bay x).channel.pages.length < 2 → s.canTakePage x = false)
        ∨ 2 ≤ (s.bay b).channel.pages.length
          ∧ (∀ x ∈ s.pageWaiters, (s.bay x).channel.pages.length < 2 → s.canTakePage x = false)
          ∧ (∀ x ∈ before, s.canTakePage x = false)) →
      let s1 : State := { s with pageWaiters := s.pageWaiters.filter (· != b) }
      (∀ c, s.burnOf b = some c → offerPage s = some (s1.setBay b { s.bay b with
        channel := .burn { c with pages := c.pages ++ [{ group := c.cutGroup, full := false, got := [] }] } }))
      ∧ (∀ c g, s.verifyOf b = some c → c.wanted = some g → ∃ t : State, offerPage s = some t ∧ s.otherBays t b
        ∧ t = { s1 with bays := t.bays, out := s.out ++ [.drive b (.read g)] }
        ∧ t.bay b = { s.bay b with
            reqs := (s.bay b).reqs ++ [{ req := .read g, purpose := .normal, left := 5000 }]
            channel := .verify { c with pages := c.pages ++ [{ group := g, full := false, got := [] }] } })))

/-- The oldest posted write is issued and leaves the queue, cut at a 4 KiB boundary; the result fields of a card leave as two runs, the host's byte
115 between them untouched (DEDUCED, row 24); a status block leaves as three pieces, the generation count odd before and even after, the rest
of the block between them with the values standing at the issue, and STATUS_NEW is set, with an MSI where IRQ_EN is set and the cause was
clear. The generation count is even between commands: every step keeps that, in states no run reaches as well. A failure reported for an
issued write is WRITE_ERROR with its docket, and nothing is repeated. A drain lowers every counter above 0 of the bays that are not RETIRED
by 1 and starts its timer again. An empty queue, a write that was not issued and a drain timer that does not run have no effect (row 2). How a
failed write is named is the model's choice (row 25).
The fetch arbiter: a request's class by the state at the decision; a request waits while a write that shares a byte with it is queued or waits
for room, with every write that a waiting block still has to make (row 33); a grant takes the lowest free slot, and the request of the highest
class that is not held back, within URGENT and BURN by the rotation after the pointer, in the others the oldest, then the print line, the board
line, and the lower bay. A burst keeps to its bay and group for up to 8 BURN grants. -/
def Obligations.WritesDrainAndGrants : Prop :=
  (∀ s : State,
    let cut (a : Nat) (l : List Byte) : List Output :=
      if l.length ≤ 4096 - a % 4096 then [.hostWrite a l]
      else [.hostWrite a (l.take (4096 - a % 4096)), .hostWrite (a + (4096 - a % 4096)) (l.drop (4096 - a % 4096))]
    let gone (w : PostedWrite) (rest : List PostedWrite) : Engine :=
      { s.engine with posted := rest, issued := s.engine.issued ++ [w] }
    (∀ w rest l, s.engine.posted = w :: rest → w.data = .bytes l → exec .postedWriteIssue s = .next (conclude
      { s with engine := gone w rest, out := s.out ++ cut w.addr l }))
    ∧ (∀ w rest codes counts, s.engine.posted = w :: rest → w.data = .fields codes counts → exec .postedWriteIssue s = .next (conclude
      { s with engine := gone w rest, out := s.out ++ cut w.addr codes ++ cut (w.addr + 4) counts }))
    ∧ (∀ w rest, s.engine.posted = w :: rest → w.data = .status → exec .postedWriteIssue s = .next (conclude { s with
        engine := gone w rest
        board := { s.board with generation := s.board.generation + 2 }
        regs := { s.regs with statusNew := true }
        out := s.out ++ cut w.addr (le 4 (s.board.generation + 1).toNat) ++ cut (w.addr + 4) (statusBody s)
          ++ cut w.addr (le 4 (s.board.generation + 2).toNat)
          ++ (if s.regs.statusNew = false ∧ s.regs.irqEn = true then [.msi] else []) }))
    ∧ (let body := statusBody s
      body.length = 508 ∧ field body 0 1 = s.tower.state.code ∧ field body 1 1 = s.transport.state.code
      ∧ field body 2 1 = s.printer.state.code ∧ field body 4 1 = s.bins.a.state.code ∧ field body 5 1 = s.bins.b.state.code
      ∧ field body 6 1 = (s.outBin .good).code ∧ field body 7 1 = (s.outBin .reject).code
      ∧ field body 8 2 = s.bins.good.count % 2 ^ 16 ∧ field body 10 2 = s.bins.reject.count % 2 ^ 16
      ∧ (s.faults.first = none → field body 12 12 = 0)
      ∧ (∀ e, s.faults.first = some e → field body 12 1 = e.code.cls.code ∧ field body 13 1 = e.code.code
          ∧ field body 14 1 = (match e.bay with | some b => b.val | none => 255)
          ∧ field body 15 1 = (match e.docket with | some d => d.val | none => 255) ∧ field body 16 8 = e.time % 2 ^ 64)
      ∧ field body 24 1 = s.faults.motion % 256 ∧ field body 25 1 = s.faults.bay % 256 ∧ field body 26 1 = s.faults.hostMemory % 256
      ∧ field body 27 1 = s.faults.print % 256 ∧ field body 28 1 = s.faults.config % 256
      ∧ ∀ b : BayNo, field body (60 + 8 * b.val) 1 = (s.bay b).state.code
          ∧ field body (61 + 8 * b.val) 1 = (match (s.bay b).logical with | some n => n.val | none => 255)
          ∧ field body (62 + 8 * b.val) 1 = (if (s.bay b).failing = true then 1 else 0)
          ∧ field body (63 + 8 * b.val) 1 = (s.bay b).soft % 256 ∧ field body (64 + 8 * b.val) 1 = (s.bay b).hard % 256
          ∧ field body (66 + 8 * b.val) 2 = (s.bay b).linkErrors % 2 ^ 16)
    ∧ (s.engine.posted = [] → exec .postedWriteIssue s = .next (conclude s))
    ∧ (∀ n w, s.engine.issued[n]? = some w → exec (.postedWriteFailed n) s = .next (conclude (reportFault .writeError none w.docket
        { s with engine := { s.engine with issued := s.engine.issued.eraseIdx n } })))
    ∧ (∀ n, s.engine.issued[n]? = none → exec (.postedWriteFailed n) s = .next (conclude s))
    ∧ (s.health.drainTimer ≠ none → ∃ t : State, exec .drainTimerExpiry s = .next (conclude t)
      ∧ t.health = { s.health with drainTimer := some (s.health.drainMinutes * 60000) }
      ∧ s.sameHost t ∧ s.sameWork t ∧ s.samePlant t ∧ t.transport = s.transport ∧ t.faults = s.faults
      ∧ ∀ b : BayNo, t.bay b = if (s.bay b).state = .retired then s.bay b
          else { s.bay b with soft := (s.bay b).soft - 1, hard := (s.bay b).hard - 1 })
    ∧ (s.health.drainTimer = none → exec .drainTimerExpiry s = .next (conclude s)))
  ∧ (∀ s t : State, s.generationEven → step s = .next t → t.generationEven)
  ∧ State.reset.generationEven
  ∧ (∀ (b : BayNo) (r : FetchReq) (s : State),
    (∀ c, s.burnOf b = some c → s.classOf (.image b) r = if c.pages.length < 2 ∧ c.cutGroup < c.groups then .urgent else .burn)
    ∧ s.classOf .print r = .print ∧ s.classOf (.compare b) r = .check
    ∧ s.classOf (.extent b) r = (if r.aged = true then .print else .board)
    ∧ s.classOf .board r = (if r.aged = true then .print else .board)
    ∧ (s.heldBack r = true ↔
        (∃ w ∈ s.engine.posted, w.addr < r.addr + r.len ∧ r.addr < w.addr + w.length)
        ∨ ∃ t x a n, t ∈ s.engine.waiting ++ s.engine.agenda ∧ x ∈ t ∧ s.todoRange x = some (a, n)
            ∧ a < r.addr + r.len ∧ r.addr < a + n))
  ∧ (∀ s : State,
    let place (c : FetchClass) : Nat := match c with | .urgent => 0 | .print => 1 | .burn => 2 | .check => 3 | .board => 4
    let waits (id : LineId) (r : FetchReq) : Prop := s.line id = some r ∧ s.heldBack r = false
    let after (p b : BayNo) : Nat := (b.val + 11 - p.val) % 12
    let order (id : LineId) : Nat := match id with
      | .print => 0 | .board => 1 | .image b => 2 + b.val | .extent b => 2 + b.val | .compare b => 2 + b.val
    let goesOn (u : Burst) (r : FetchReq) : Prop := s.engine.burst = some u ∧ u.count < 8 ∧ waits (.image u.bay) r
      ∧ s.classOf (.image u.bay) r = .burn ∧ targetGroup r.target = u.group
    ((∀ k : FetchNo, s.fetch k ≠ none) ∨ (∀ id r, ¬ waits id r) → grantFetch s = none)
    ∧ ((∃ k : FetchNo, s.fetch k = none) → (∃ id r, waits id r) → grantFetch s ≠ none)
    ∧ (∀ t : State, grantFetch s = some t → ∃ (k : FetchNo) (id : LineId) (r : FetchReq),
      s.fetch k = none ∧ (∀ x, x < k → s.fetch x ≠ none) ∧ waits id r
      ∧ (∀ x q, waits x q → place (s.classOf id r) ≤ place (s.classOf x q))
      ∧ t.fetch k = some { line := id, addr := r.addr, len := r.len, target := r.target, timer := 50, orphan := false, stale := false }
      ∧ (∀ x, x ≠ k → t.fetch x = s.fetch x) ∧ t.line id = none ∧ (∀ x, x ≠ id → t.line x = s.line x)
      ∧ t.out = s.out ++ [.hostRead k r.addr r.len] ∧ s.sameHost t ∧ s.sameWork t ∧ s.samePlant t ∧ t.transport = s.transport
      ∧ (s.classOf id r ≠ .urgent → s.classOf id r ≠ .burn → ∀ x q, waits x q → s.classOf x q = s.classOf id r →
          r.stamp < q.stamp ∨ (r.stamp = q.stamp ∧ order id ≤ order x))
      ∧ (s.classOf id r = .urgent → ∃ b, id = .image b ∧ ∀ x q, waits (.image x) q → s.classOf (.image x) q = .urgent →
          after s.engine.pointer b ≤ after s.engine.pointer x)
      ∧ (s.classOf id r = .burn → ∀ u q, goesOn u q → id = .image u.bay
          ∧ ∃ u', t.engine.burst = some u' ∧ u'.bay = u.bay ∧ u'.group = u.group ∧ u'.count = u.count + 1)
      ∧ (s.classOf id r = .burn → (∀ u q, ¬ goesOn u q) → ∃ b u', id = .image b ∧ t.engine.burst = some u' ∧ u'.bay = b
          ∧ u'.group = targetGroup r.target ∧ u'.count = 1
          ∧ ∀ x q, waits (.image x) q → s.classOf (.image x) q = .burn →
              let p := match s.engine.burst with | some u => u.bay | none => s.engine.pointer
              after p b ≤ after p x)))

/-! ### Printing -/

/-- The printer's timers: the clamp's 300 ms lead to SPINUP with a fresh capture; the 3 s of SPINUP and the 5 s of SETTLING abort the print with
PRINT_SPINDLE; 200 ms without an edge make SPINDOWN and FAULT READY_OUT, the clamp open; the 10 s of SPINDOWN are a SPINDOWN fault. READY_OUT
becomes EMPTY at the first event at which the printer holds no docket and tray-present is off. A timer that does not run has no effect.
The last is the model's reading (row 2). -/
def Obligations.PrinterTimers : Prop :=
  ∀ s : State,
    (s.printer.clampTimer ≠ none → s.printer.state = .seating → ∃ t : State, exec .clampTimerExpiry s = .next (conclude t)
      ∧ t.printer = { s.printer with state := .spinup, clampTimer := none, spinupTimer := some 3000, edge := none,
                                     edgeTime := none, interval := none }
      ∧ s.sameHost t ∧ s.sameWork t ∧ t.bays = s.bays ∧ t.transport = s.transport)
    ∧ (s.printer.clampTimer = none → exec .clampTimerExpiry s = .next s)
    ∧ (s.printer.spinupTimer = none → exec .spinupTimeout s = .next s)
    ∧ (s.printer.settleTimer = none → exec .settleTimeout s = .next s)
    ∧ (∀ d r, s.printer.docket = some d → s.docket d = some r → r.state = .printing → r.cause = .none →
      ∃ t : State, (s.printer.spinupTimer ≠ none → exec .spinupTimeout s = .next (conclude t))
      ∧ (s.printer.settleTimer ≠ none → exec .settleTimeout s = .next (conclude t))
      ∧ t.printer.state = .spindown ∧ t.printer.spindownTimer = some 10000 ∧ t.printer.carriageTarget = none
      ∧ s.sameHost t ∧ t.jobs = s.jobs ∧ t.bins = s.bins ∧ t.sensors = s.sensors
      ∧ t.printer.active = none ∧ t.printer.shadow = none ∧ (∀ lane : LaneNo, (t.printer.lanes.get lane).waiting = [])
      ∧ (s.faults.first = none → t.faults.first = some
          { code := .spindle, bay := none, docket := some d, time := s.tower.time })
      ∧ t.docket d = some { r with
          state := .rejectWait, place := some .printer, cause := .printSpindle, verdict := some .reject
          verdictTime := some s.tower.time })
    ∧ (s.printer.quietTimer ≠ none → s.printer.state = .spindown ∨ s.printer.state = .fault →
      ∃ t : State, exec .spindleStopped s = .next (conclude t)
      ∧ t.printer = { s.printer with state := .readyOut, clamped := false, spindownTimer := none, quietTimer := none }
      ∧ s.sameHost t ∧ s.sameWork t ∧ t.bays = s.bays ∧ t.transport = s.transport)
    ∧ (s.printer.quietTimer = none → exec .spindleStopped s = .next s)
    ∧ (s.printer.spindownTimer ≠ none → s.printer.state = .spindown → ∃ t : State, exec .spindownTimeout s = .next (conclude t)
      ∧ t.printer = { s.printer with state := .fault, spindownTimer := none }
      ∧ s.sameHost t ∧ s.sameWork t ∧ t.bays = s.bays ∧ t.transport = s.transport
      ∧ (s.faults.first = none → t.faults.first = some
          { code := .spindown, bay := none, docket := s.printer.docket, time := s.tower.time }))
    ∧ (s.printer.spindownTimer = none → exec .spindownTimeout s = .next s)
    ∧ (let empties := s.printer.state = .readyOut ∧ s.printer.docket = none ∧ s.sensor .trayPresent = false
      (¬ empties → printerEmpties s = none)
      ∧ (empties → settleStep s ≠ none ∧ ∃ t : State, printerEmpties s = some t ∧ t.printer = { s.printer with state := .empty }
        ∧ s.sameHost t ∧ s.sameWork t ∧ t.bays = s.bays ∧ t.transport = s.transport ∧ t.bins = s.bins ∧ t.sensors = s.sensors
        ∧ t.faults = s.faults))

/-- Spindle edges and indexes. An edge while no test is made is captured: its number, time and interval, and so is an index; while the spindle is
braked the 200 ms start afresh. The first index of SPINUP begins SETTLING; the index that ends the second clean revolution ends it. A breach
is an interval outside 2,000 to 50,000 ticks, a 2,048th edge, an index before the 2,048th, or a missing edge: it clears the count of clean
revolutions in SETTLING, returns STEPPING to SETTLING with 5 s of its own, aborts a print in PRINTING with PRINT_SPINDLE, and has no effect
elsewhere. The index after a missing one starts the count of clean revolutions afresh. A missing edge before any edge has been captured has no
effect: that is the model's reading (rows 2 and 40). That the 200 ms of an abort are counted afresh from its entry into SPINDOWN, where the last
edge is older, is the model's choice (row 63), and so is that an edge that is a breach in PRINTING clips and drops no dot, and an ending index that
is one drops none (row 71). That the edges after a missing index are numbered on and breach nothing more is the model's reading (row 21). -/
def Obligations.SpindleEvents : Prop :=
  ∀ (time : PrintTime) (s : State),
    let p := s.printer
    let took (e : Option Nat) : Printer := { p with
      edge := e, edgeTime := some time, interval := p.edgeTime.map fun x => time - x }
    let clean := ∀ x, p.edgeTime = some x → 2000 ≤ (time - x).toNat ∧ (time - x).toNat ≤ 50000
    let early := ¬ clean ∨ ∃ n, p.edge = some n ∧ n < 2047
    let settles (q : Printer) (late : Bool) : Printer := { q with
      state := .settling, spinupTimer := none, settleTimer := some 5000, clean := 0, breached := late }
    let keeps (t : State) : Prop := s.sameHost t ∧ s.sameWork t ∧ t.bays = s.bays ∧ t.transport = s.transport
    let aborted (t : State) : Prop := ∀ d r, p.docket = some d → s.docket d = some r → r.state = .printing → r.cause = .none →
      t.printer.state = .spindown ∧ t.printer.spindownTimer = some 10000 ∧ t.printer.quietTimer = some 200
      ∧ t.printer.carriageTarget = none ∧ t.printer.active = none ∧ t.printer.shadow = none ∧ t.printer.load = []
      ∧ (∀ lane : LaneNo, (t.printer.lanes.get lane).enabled = false ∧ (t.printer.lanes.get lane).waiting = [])
      ∧ (s.faults.first = none → t.faults.first = some
          { code := .spindle, bay := none, docket := some d, time := s.tower.time })
      ∧ s.sameHost t ∧ t.jobs = s.jobs ∧ t.bins = s.bins ∧ t.sensors = s.sensors
      ∧ t.docket d = some { r with
          state := .rejectWait, place := some .printer, cause := .printSpindle, verdict := some .reject
          verdictTime := some s.tower.time }
    (p.state = .spinup ∨ p.state = .seating ∨ p.state = .empty ∨ p.state = .readyOut →
      exec (.spindleEdge time) s = .next (conclude { s with printer := took (p.edge.map (· + 1)) }))
    ∧ (p.state = .spindown ∨ p.state = .fault →
      exec (.spindleEdge time) s = .next (conclude { s with printer :=
        { took (p.edge.map (· + 1)) with quietTimer := some 200 } }))
    ∧ (p.state = .settling → (p.edge = some 2047 ∨ ¬ clean) →
      exec (.spindleEdge time) s = .next (conclude { s with printer :=
        { took (p.edge.map (· + 1)) with clean := 0, breached := true } }))
    ∧ (p.state = .settling ∨ p.state = .stepping → p.edge ≠ some 2047 → clean →
      exec (.spindleEdge time) s = .next (conclude { s with printer := took (p.edge.map (· + 1)) }))
    ∧ (p.state = .stepping → (p.edge = some 2047 ∨ ¬ clean) → ∃ t : State, exec (.spindleEdge time) s = .next (conclude t)
      ∧ t.printer = settles (took (p.edge.map (· + 1))) true ∧ keeps t)
    ∧ (p.state = .printing → (p.edge = some 2047 ∨ ¬ clean) → ∃ t : State, exec (.spindleEdge time) s = .next (conclude t)
      ∧ aborted t)
    ∧ (p.state = .seating ∨ p.state = .empty ∨ p.state = .readyOut →
      exec (.spindleIndex time) s = .next (conclude { s with printer := took (some 0) }))
    ∧ (p.state = .spindown ∨ p.state = .fault →
      exec (.spindleIndex time) s = .next (conclude { s with printer := { took (some 0) with quietTimer := some 200 } }))
    ∧ (p.state = .spinup → ∃ t : State, exec (.spindleIndex time) s = .next (conclude t)
      ∧ t.printer = settles (took (some 0)) false ∧ keeps t)
    ∧ (p.state = .settling → early → exec (.spindleIndex time) s = .next (conclude { s with printer :=
        { took (some 0) with clean := 0, breached := false } }))
    ∧ (p.state = .stepping → early → ∃ t : State, exec (.spindleIndex time) s = .next (conclude t)
      ∧ t.printer = settles (took (some 0)) false ∧ keeps t)
    ∧ (p.state = .printing → early → ∃ t : State, exec (.spindleIndex time) s = .next (conclude t) ∧ aborted t)
    ∧ (p.state = .settling → ¬ early → p.breached = false → p.clean = 0 →
      exec (.spindleIndex time) s = .next (conclude { s with printer := { took (some 0) with clean := 1 } }))
    ∧ (p.state = .settling → ¬ early → p.breached = true →
      exec (.spindleIndex time) s = .next (conclude { s with printer := { took (some 0) with breached := false } }))
    ∧ (∀ r, p.state = .settling → ¬ early → p.breached = false → p.clean = 1 →
        p.nextRecord = some r → p.position ≠ r.ring → ∃ t : State,
      exec (.spindleIndex time) s = .next (conclude t)
      ∧ t.printer = { took (some 0) with state := .stepping, clean := 0, settleTimer := none } ∧ keeps t)
    ∧ (p.edgeTime ≠ none → p.state = .settling →
      exec .missingEdge s = .next (conclude { s with printer := { p with clean := 0, breached := true } }))
    ∧ (p.edgeTime ≠ none → p.state = .stepping → ∃ t : State, exec .missingEdge s = .next (conclude t)
      ∧ t.printer = settles p true ∧ keeps t)
    ∧ (p.edgeTime ≠ none → p.state = .printing → ∃ t : State, exec .missingEdge s = .next (conclude t) ∧ aborted t)
    ∧ (p.edgeTime ≠ none → p.state ≠ .settling → p.state ≠ .stepping → p.state ≠ .printing →
      exec .missingEdge s = .next (conclude s))
    ∧ (p.edgeTime = none → exec .missingEdge s = .next s)

/-- Bands, revolutions and the dots of an edge.
An index in STEPPING, the index that settles the spindle, and the index that ends a revolution test for the band (table of R153): without its record a
slip; a carriage not at its ring waits; an incomplete store is a slip; the fifth slip aborts the print; otherwise the band starts: the stores change
places, the load of the band after it begins, the printer is PRINTING, and every lane's accumulator is set from its ring entry before the dots due
at the index are taken. The end of a revolution drops and counts the dots still waiting and stops the lanes; the last band completes the label, whose
disc waits for the good bin as the spindle is braked.
A band load fetches its pieces one at a time on the print line: the 144 bytes of the record, of which the ring index, the dot counts and the phases
are clamped as it arrives, then the dot data of the enabled lanes in lane order, 4 bytes for every 32 dots. A lane's data joins the store when it is
whole. An enabled lane whose address is no multiple of 4 is BAD_BAND, and the print is aborted with PRINT_STARVED.
At an edge in PRINTING a waiting dot of the edge before, whose own time is later than the edge, is clipped to it, and then each enabled lane takes
its due dots: those whose target is this edge, in order, a set dot joining the list with its own time, or dropped and counted where 16 wait. -/
def Obligations.BandsAndRevolutions : Prop :=
  (∀ (d : DocketNo) (r : Docket) (j : Job) (p : PrintCounters) (i : Nat) (time : PrintTime) (s : State),
    s.printer.docket = some d → s.docket d = some r → r.print = some p → r.state = .printing → s.job r.slot = some j →
    let q := s.printer
    let starved (t : State) : Prop := t.printer.state = .spindown
      ∧ (∀ lane : LaneNo, (t.printer.lanes.get lane).enabled = false ∧ (t.printer.lanes.get lane).waiting = [])
      ∧ ∃ r', t.docket d = some r' ∧ r'.cause = .printStarved ∧ r'.verdict = some .reject ∧ r'.state = .rejectWait
        ∧ r'.print = some { p with slips := p.slips + 1 }
    let incomplete := ∃ rec_, q.nextRecord = some rec_ ∧ q.position = rec_.ring ∧ q.carriageTarget = none ∧ q.load ≠ []
    (∀ rec_, q.nextRecord = some rec_ → (q.position ≠ rec_.ring ∨ q.carriageTarget ≠ none) → testBand i time s = s)
    ∧ (q.nextRecord = none ∨ incomplete → p.slips < 4 →
      testBand i time s = s.setDocket d (some { r with print := some { p with slips := p.slips + 1 } }))
    ∧ (q.nextRecord = none ∨ incomplete → 4 ≤ p.slips → r.cause = .none → starved (testBand i time s))
    ∧ (∀ rec_ st, q.nextRecord = some rec_ → q.shadow = some st → q.position = rec_.ring → q.carriageTarget = none → q.load = [] →
      let t := testBand i time s
      t.printer.state = .printing ∧ t.printer.active = q.shadow ∧ t.printer.nextBand = q.nextBand
      ∧ (q.nextBand + 1 < j.bandCount → t.printer.shadow = some { band := q.nextBand + 1, record := none, dots := [] }
        ∧ t.printer.load = [(.record, Reading.start (j.bandTable + 144 * (q.nextBand + 1)) 144)])
      ∧ (j.bandCount ≤ q.nextBand + 1 → t.printer.shadow = none ∧ t.printer.load = [])
      ∧ ∀ lane : LaneNo,
        let e := rec_.lanes.get lane
        let begun : Lane := { q.lanes.get lane with
          enabled := e.enabled, k := 0, target := e.phase, err := 0, waiting := [], due := false }
        t.printer.lanes.get lane = if e.enabled = true then (takeDue e (st.dotsOf lane) 0 i time e.dots begun 0).1 else begun)
    ∧ (let n := ((Config.allLanes.map fun lane => (q.lanes.get lane).waiting.length)).sum
      let stopped (u : Printer) : Prop := u.active = none ∧ u.nextBand = q.nextBand + 1
        ∧ ∀ lane : LaneNo, u.lanes.get lane = { q.lanes.get lane with enabled := false, waiting := [], due := false }
      let dropped (r' : Docket) : Prop := r'.print = some { p with
        dropped := if p.dropped + n ≤ 16777215 then p.dropped + n else 16777215 }
      (q.nextBand + 1 = j.bandCount → q.state = .printing → (∀ t ∈ s.transport.queue, t.docket ≠ d) →
          (s.taskInFlight.map (·.docket)) ≠ some d →
        let t := endRevolution i time s
        t.printer.state = .spindown ∧ stopped t.printer ∧ t.printer.spindownTimer = some 10000
        ∧ t.printer.quietTimer = some 200 ∧ t.printer.docket = some d
        ∧ (∃ r', t.docket d = some r' ∧ r'.state = .printedWait ∧ r'.verdict = r.verdict ∧ r'.cause = r.cause ∧ dropped r')
        ∧ t.transport.queue = s.transport.queue ++
          [{ docket := d, kind := .printerOut, source := .printer, dest := .output .good, age := s.transport.nextAge }])
      ∧ (q.nextBand + 1 ≠ j.bandCount → q.state = .printing → ∃ u : State, endRevolution i time s = testBand i time u
        ∧ u.printer.state = .stepping ∧ stopped u.printer ∧ u.printer.shadow = q.shadow ∧ u.printer.load = q.load
        ∧ u.printer.position = q.position ∧ u.transport = s.transport ∧ u.bays = s.bays
        ∧ ∃ r', u.docket d = some r' ∧ r'.state = r.state ∧ dropped r')))
  ∧ (∀ (time x : PrintTime) (s : State),
    s.printer.edgeTime = some x → 2000 ≤ (time - x).toNat → (time - x).toNat ≤ 50000 → s.printer.edge = some 2047 →
    let i := (time - x).toNat
    let took : Printer := { s.printer with edge := some 0, edgeTime := some time, interval := some (time - x) }
    (s.printer.state = .stepping → exec (.spindleIndex time) s = .next (conclude (testBand i time { s with printer := took })))
    ∧ (s.printer.state = .printing → exec (.spindleIndex time) s = .next (conclude (endRevolution i time { s with printer := took })))
    ∧ (s.printer.state = .settling → s.printer.breached = false → s.printer.clean = 1 → ∃ u : State,
      exec (.spindleIndex time) s = .next (conclude (testBand i time u))
      ∧ u.printer = { took with state := .stepping, clean := 0, settleTimer := none }
      ∧ s.sameHost u ∧ s.sameWork u ∧ u.bays = s.bays ∧ u.transport = s.transport))
  ∧ (∀ (time x : PrintTime) (n : Nat) (d : DocketNo) (r : Docket) (p : PrintCounters) (s : State),
    s.printer.state = .printing → s.printer.edge = some n → n ≠ 2047 → s.printer.edgeTime = some x →
    2000 ≤ (time - x).toNat → (time - x).toNat ≤ 50000 →
    s.printer.docket = some d → s.docket d = some r → r.print = some p → p.dropped ≤ 16777215 →
    let i := (time - x).toNat
    let late (dot : Dot) : Bool := decide (dot.edge = n ∧ dot.own ≠ time ∧ (dot.own - time).toNat < 2 ^ 31)
    let clip (dot : Dot) : Dot := if late dot = true then { dot with own := time, clipped := true } else dot
    let clipped (lane : LaneNo) : Lane := { s.printer.lanes.get lane with waiting := (s.printer.lanes.get lane).waiting.map clip }
    let due (lane : LaneNo) : Lane × Nat := match s.printer.ring lane with
      | some (st, e) =>
        if (s.printer.lanes.get lane).enabled = true then takeDue e (st.dotsOf lane) (n + 1) i time e.dots (clipped lane) 0
        else (clipped lane, 0)
      | none => (clipped lane, 0)
    let cut := (Config.allLanes.map fun lane => ((s.printer.lanes.get lane).waiting.filter late).length).sum
    let full := (Config.allLanes.map fun lane => (due lane).2).sum
    ∃ t : State, exec (.spindleEdge time) s = .next (conclude t)
      ∧ t.printer.state = .printing ∧ t.printer.edge = some (n + 1) ∧ t.printer.edgeTime = some time
      ∧ t.printer.active = s.printer.active ∧ t.printer.shadow = s.printer.shadow
      ∧ s.sameHost t ∧ t.jobs = s.jobs ∧ t.bays = s.bays ∧ t.transport = s.transport ∧ t.faults = s.faults
      ∧ (∀ lane : LaneNo, t.printer.lanes.get lane = (due lane).1)
      ∧ t.docket d = some { r with print := some { p with
          clipped := if p.clipped + cut ≤ 16777215 then p.clipped + cut else 16777215
          dropped := if p.dropped + full ≤ 16777215 then p.dropped + full else 16777215 } })
  ∧ (∀ (e : RingEntry) (data : List Byte) (edge i fuel dropped : Nat) (time : PrintTime) (l : Lane),
    let isDue := l.k < e.dots ∧ l.target / 256 = edge
    let set := dotBit data l.k = true
    let dot : Dot := { edge := edge, own := time + BitVec.ofNat 32 (((l.target % 256) * i + 128) / 256), clipped := false }
    (¬ isDue → takeDue e data edge i time (fuel + 1) l dropped = (l, dropped))
    ∧ (isDue → ¬ set → takeDue e data edge i time (fuel + 1) l dropped
        = takeDue e data edge i time fuel (l.nextDot e) dropped)
    ∧ (isDue → set → l.waiting.length < 16 → takeDue e data edge i time (fuel + 1) l dropped
        = takeDue e data edge i time fuel (Lane.nextDot { l with waiting := l.waiting ++ [dot] } e) dropped)
    ∧ (isDue → set → 16 ≤ l.waiting.length → takeDue e data edge i time (fuel + 1) l dropped
        = takeDue e data edge i time fuel (l.nextDot e) (dropped + 1))
    ∧ (l.k + fuel = e.dots → (takeDue e data edge i time fuel l dropped).1.k ≤ e.dots
        ∧ ((takeDue e data edge i time fuel l dropped).1.k < e.dots →
            (takeDue e data edge i time fuel l dropped).1.target / 256 ≠ edge)))
  ∧ (∀ (off : Nat) (data : List Byte) (rd : Reading) (s : State), s.printer.load = [(.record, rd)] →
    ((rd.place off data).data = none →
      arriveBand .record off data s = { s with printer := { s.printer with load := [(.record, rd.place off data)] } })
    ∧ (∀ bytes, (rd.place off data).data = some bytes → ∃ rec_ : BandRecord,
      rec_.ring = min 504 (field bytes 0 2)
      ∧ (∀ lane : LaneNo,
        let d := min 16384 (max 64 (field bytes (18 + 16 * lane.val) 2))
        rec_.lanes.get lane = { enabled := field bytes (16 + 16 * lane.val) 1 % 2 == 1, dots := d
                                phase := min (field bytes (20 + 16 * lane.val) 4) (2 ^ 19 / d - 1)
                                addr := field bytes (24 + 16 * lane.val) 8 })
      ∧ (let loaded : State := { s with printer := { s.printer with
            shadow := s.printer.shadow.map fun st => { st with record := some rec_ }
            load := (Config.allLanes.filter fun lane => (rec_.lanes.get lane).enabled).map fun lane =>
              (.dots lane, { base := (rec_.lanes.get lane).addr, len := 4 * (((rec_.lanes.get lane).dots + 31) / 32)
                             cut := 0, got := [] }) } }
        let bad := ∃ lane : LaneNo, (rec_.lanes.get lane).enabled = true ∧ (rec_.lanes.get lane).addr % 4 ≠ 0
        (¬ bad → arriveBand .record off data s = loaded)
        ∧ (bad → arriveBand .record off data s = abortPrint .printStarved (some .badBand) loaded
          ∧ ∀ d r, s.printer.docket = some d → s.docket d = some r → r.state = .printing → r.cause = .none →
            let t := abortPrint .printStarved (some .badBand) loaded
            t.printer.state = .spindown ∧ t.printer.load = [] ∧ t.printer.shadow = none ∧ t.printer.active = none
            ∧ (s.faults.first = none → t.faults.first = some
              { code := .badBand, bay := none, docket := some d, time := s.tower.time })
            ∧ t.docket d = some { r with
                state := .rejectWait, place := some .printer, cause := .printStarved, verdict := some .reject
                verdictTime := some s.tower.time }))))
  ∧ (∀ (lane : LaneNo) (off : Nat) (data : List Byte) (rd : Reading) (s : State),
    s.printer.load.find? (fun x => x.1 == .dots lane) = some (.dots lane, rd) →
    ((rd.place off data).data = none → arriveBand (.dots lane) off data s = { s with printer := { s.printer with
      load := s.printer.load.map fun x => if x.1 = .dots lane then (x.1, x.2.place off data) else x } })
    ∧ (∀ bytes, (rd.place off data).data = some bytes → arriveBand (.dots lane) off data s = { s with printer := { s.printer with
      load := s.printer.load.filter fun x => x.1 != .dots lane
      shadow := s.printer.shadow.map fun st => { st with dots := st.dots ++ [(lane, bytes)] } } }))
  ∧ (∀ s : State,
    (s.engine.print ≠ none ∨ (∀ x ∈ s.printer.load, x.2.len ≤ x.2.cut) → presentBand s = none)
    ∧ (∀ before part rd after, s.engine.print = none → s.printer.load = before ++ (part, rd) :: after →
        (∀ x ∈ before, x.2.len ≤ x.2.cut) → rd.cut < rd.len → let n := min (rd.len - rd.cut) (4096 - (rd.base + rd.cut) % 4096)
      presentBand s = some { s with
        printer := { s.printer with
          load := s.printer.load.map fun x => if x.1 = part then (x.1, { x.2 with cut := x.2.cut + n }) else x }
        engine := { s.engine with print := some { addr := rd.base + rd.cut, len := n, target := .band part rd.cut, stamp := s.event
                                                  aged := false, ageTimer := none } } }))

/-- Where the dots of a ring fall (R154). The accumulator of a lane is set at the index that starts a revolution and goes from dot to dot in three
steps, so that at dot k the target is φ + k·q + floor(k·r / D), which is φ + floor(k·2^19 / D), and the error term k·r mod D. A disabled lane
places no dots. At an edge or index the enabled lane takes, in order of k, exactly the dots whose edge is the one that has arrived: each set dot is
given its own time and joins the waiting list, which holds up to 16; one that finds it full is counted as dropped, and an unset dot is counted
nowhere and goes no further. Of a ring record with its clamps every dot's target is below 2^19, so that every dot is due at one of the 2,048 edges
of the revolution. -/
def Obligations.DotTargets : Prop :=
  (∀ (l : Lane) (e : RingEntry),
    l.begin e = { l with enabled := e.enabled, k := 0, target := e.phase, err := 0, waiting := [], due := false }
    ∧ e.q = 2 ^ 19 / e.dots ∧ e.r = 2 ^ 19 - e.q * e.dots
    ∧ (l.err + e.r < e.dots → l.nextDot e = { l with k := l.k + 1, target := l.target + e.q, err := l.err + e.r })
    ∧ (e.dots ≤ l.err + e.r → l.nextDot e = { l with k := l.k + 1, target := l.target + e.q + 1, err := l.err + e.r - e.dots })
    ∧ ∀ k : Nat, 1 ≤ e.dots →
      let at_ := Nat.repeat (fun x => Lane.nextDot x e) k (l.begin e)
      at_.k = k ∧ at_.target = e.phase + k * e.q + k * e.r / e.dots ∧ at_.target = e.phase + k * 2 ^ 19 / e.dots
      ∧ at_.err = k * e.r % e.dots)
  ∧ (∀ (bytes : List Byte) (k : Nat),
    let e := parseRing bytes
    k < e.dots → e.phase + k * 2 ^ 19 / e.dots < 2 ^ 19 ∧ (e.phase + k * 2 ^ 19 / e.dots) / 256 ≤ 2047)
  ∧ (∀ (lane : LaneNo) (st : BandStore) (e : RingEntry) (n i : Nat) (time : PrintTime) (s : State),
    let l := s.printer.lanes.get lane
    let target (k : Nat) : Nat := e.phase + k * 2 ^ 19 / e.dots
    s.printer.ring lane = some (st, e) →
    (l.enabled = false → laneDue n i time lane s = s)
    ∧ (l.enabled = true → 1 ≤ e.dots → l.k ≤ e.dots → l.target = target l.k → l.err = l.k * e.r % e.dots →
      (∀ x, x < l.k → target x / 256 < n) → (∀ x, l.k ≤ x → x < e.dots → n ≤ target x / 256) →
      ∃ m : Nat, l.k + m ≤ e.dots ∧ (∀ x, x < l.k + m → target x / 256 < n + 1)
        ∧ (∀ x, l.k + m ≤ x → x < e.dots → n + 1 ≤ target x / 256)
        ∧ (let dots : List Dot := (List.range m).filterMap fun x =>
            if dotBit (st.dotsOf lane) (l.k + x) = true then
              some { edge := n, own := time + BitVec.ofNat 32 (((target (l.k + x) % 256) * i + 128) / 256), clipped := false }
            else none
          (laneDue n i time lane s).printer.lanes = s.printer.lanes.set lane { l with
            k := l.k + m, target := target (l.k + m), err := (l.k + m) * e.r % e.dots
            waiting := l.waiting ++ dots.take (16 - l.waiting.length) }
          ∧ ∀ d r p, s.printer.docket = some d → s.docket d = some r → r.print = some p →
            (laneDue n i time lane s).docket d = some { r with print := some { p with
              dropped := min 16777215 (p.dropped + (dots.length - (16 - l.waiting.length))) } })))

/-- DOT_FIRE fires the dot at the head of a lane's list: the dots fired are counted, a dot whose own time falls within the lane's recovery fires at
the end of it and is crowded, and the list of no other lane changes. An empty list fires nothing. LANE_RECOVERY_END ends the recovery of its lane
alone: a crowded head dot is then due at that end. Where the crowded dot has fired before the end was reported, the end is the older recovery's,
and the new one goes on. A carriage move begins in SETTLING and STEPPING once the record of the band next to print is in the shadow store and names
another ring, with no move and no homing under way. CARRIAGE_STEP moves the carriage one ring toward its target.
That an empty list fires nothing, that the two commands of one tick may come in either order, and that an end with no recovery has no effect, are
the model's reading (rows 2 and 40). -/
def Obligations.DotsFire : Prop :=
  ∀ (lane : LaneNo) (s : State),
    let l := s.printer.lanes.get lane
    (l.waiting = [] → exec (.dotFire lane) s = .next s)
    ∧ (∀ x rest d r p, l.waiting = x :: rest → s.printer.docket = some d → s.docket d = some r → r.print = some p →
        p.fired < 16777215 → p.crowded < 16777215 → ∃ t : State, exec (.dotFire lane) s = .next t
      ∧ (∀ last, l.lastFire = some last → (l.recovering = true ∨ l.due = true) → (last + 1000 - x.own).toNat < 2 ^ 31 →
            last + 1000 ≠ x.own →
          t.printer.lanes = s.printer.lanes.set lane { l with
            waiting := rest, lastFire := some (last + 1000), recovering := true, due := false, stale := l.stale || l.recovering }
          ∧ t.docket d = some { r with print := some { p with fired := p.fired + 1, crowded := p.crowded + 1 } })
      ∧ (l.lastFire = none ∨ (l.recovering = false ∧ l.due = false)
            ∨ (∃ last, l.lastFire = some last ∧ (last + 1000 = x.own ∨ 2 ^ 31 ≤ (last + 1000 - x.own).toNat)) →
          t.printer.lanes = s.printer.lanes.set lane { l with
            waiting := rest, lastFire := some x.own, recovering := true, due := false, stale := l.stale || l.recovering }
          ∧ t.docket d = some { r with print := some { p with fired := p.fired + 1 } })
      ∧ (∀ other : LaneNo, other ≠ lane → t.printer.lanes.get other = s.printer.lanes.get other)
      ∧ t.jobs = s.jobs ∧ t.bays = s.bays ∧ t.transport = s.transport ∧ t.engine = s.engine)
    ∧ (let gives (l' : Lane) := exec (.laneRecoveryEnd lane) s =
          .next { s with printer := { s.printer with lanes := s.printer.lanes.set lane l' } }
      (l.stale = true → gives { l with stale := false })
      ∧ (∀ x rest last, l.stale = false → l.recovering = true → l.waiting = x :: rest → l.lastFire = some last →
          (last + 1000 - x.own).toNat < 2 ^ 31 → last + 1000 ≠ x.own → gives { l with recovering := false, due := true })
      ∧ (l.stale = false → l.recovering = true → (l.waiting = [] ∨ l.lastFire = none
          ∨ ∃ x rest last, l.waiting = x :: rest ∧ l.lastFire = some last
              ∧ (last + 1000 = x.own ∨ 2 ^ 31 ≤ (last + 1000 - x.own).toNat)) → gives { l with recovering := false, due := false })
      ∧ (l.stale = false → l.recovering = false → gives l))
    ∧ (∀ target, s.printer.homingSteps = 0 → s.printer.carriageTarget = some target → s.printer.position ≠ target →
      exec .carriageStep s = .next (conclude { s with printer := { s.printer with
        position := if s.printer.position < target then s.printer.position + 1 else s.printer.position - 1
        carriageTarget :=
          if (if s.printer.position < target then s.printer.position + 1 else s.printer.position - 1) = target then none
          else some target } }))
    ∧ (s.printer.homingSteps = 0 → s.printer.carriageTarget = none → exec .carriageStep s = .next (conclude s))
    ∧ (s.printer.homingSteps = 1 → exec .carriageStep s = .next (conclude
        { s with printer := { s.printer with homingSteps := 0, position := 0 } }))
    ∧ (let may := (s.printer.state = .settling ∨ s.printer.state = .stepping) ∧ s.printer.carriageTarget = none
        ∧ s.printer.homingSteps = 0
      let held (r : BandRecord) := ∃ st, s.printer.shadow = some st ∧ st.band = s.printer.nextBand ∧ st.record = some r
      (∀ r, may → held r → r.ring ≠ s.printer.position →
        startCarriage s = some { s with printer := { s.printer with carriageTarget := some r.ring } } ∧ settleStep s ≠ none)
      ∧ ((¬ may ∨ ∀ r, held r → r.ring = s.printer.position) → startCarriage s = none))

/-! ### Signatures -/

/-- A group that completes at the frontier, or at an open entry, has its signature queued for the job's table, 4 bytes an entry, and the frontier
moves or the entry closes; any other is listed for a compare. The listed compares are presented one at a time, in their order, each a fetch of the
4 bytes of its entry, by a channel that is OPENING, STREAMING or DRAINING. A group read back that matches moves the channel on, or to GOOD after
the last; a reread that matches is counted and is a soft event; a mismatch is read again once, and a second gives VERIFY and a hard event. -/
def Obligations.GroupsSigned : Prop :=
  (∀ (b : BayNo) (k : SlotNo) (j : Job) (g : Nat) (crc : BitVec 32) (s : State), s.engine.posted.length < 32 →
    (g = j.frontier → signatureAction b k j g crc s =
      post (plainWrite (j.signatureTable + 4 * g) (le 4 crc.toNat)) (s.setJob k (some { j with frontier := j.frontier + 1 })))
    ∧ (g ≠ j.frontier → g ∈ j.openEntries → signatureAction b k j g crc s =
      post (plainWrite (j.signatureTable + 4 * g) (le 4 crc.toNat))
        (s.setJob k (some { j with openEntries := j.openEntries.filter (· != g) })))
    ∧ (∀ c, g ≠ j.frontier → g ∉ j.openEntries → s.burnOf b = some c → signatureAction b k j g crc s =
      s.setBay b { s.bay b with channel := .burn { c with
        compares := c.compares ++ [{ group := g, crc := crc, phase := .listed }] } }))
  ∧ (∀ (b : BayNo) (c : Burn) (r : Docket) (j : Job) (s : State), s.burnOf b = some c → s.docket c.docket = some r →
      s.job r.slot = some j →
    let may := (c.state = .opening ∨ c.state = .streaming ∨ c.state = .draining) ∧ (s.bay b).compare = none
    (¬ may ∨ (∀ e ∈ c.compares, e.phase ≠ .listed) → presentCompare b s = none)
    ∧ (∀ before e after, may → c.compares = before ++ e :: after → (∀ x ∈ before, x.phase ≠ .listed) → e.phase = .listed →
      presentCompare b s = some (s.setBay b { s.bay b with
        compare := some { addr := j.signatureTable + 4 * e.group, len := 4, target := .compare e.group, stamp := s.event
                          aged := false, ageTimer := none }
        channel := .burn { c with
          compares := c.compares.map fun x => if x.group = e.group then { x with phase := .presented } else x } })))
  ∧ (∀ (b : BayNo) (c : Verify) (j : Job) (r : Docket) (crc entry : BitVec 32) (s : State),
    s.verifyOf b = some c → s.docket c.docket = some r → r.state = .verifying → r.bay = b → (s.bay b).state = .verifying →
    r.cause = .none → r.rereads < 255 → (s.bay b).soft < 15 → (s.bay b).hard < 15 →
    let t := compareGroup b c j crc entry s
    (crc ≠ entry → c.check ∉ c.marks → t.dockets = s.dockets ∧ (t.bay b).hard = (s.bay b).hard
      ∧ t.verifyOf b = some { c with pages := c.pages.filter (fun p => p.group != c.check), marks := c.check :: c.marks })
    ∧ (crc ≠ entry → c.check ∈ c.marks → (t.bay b).hard = (s.bay b).hard + 1
      ∧ (∃ c', t.verifyOf b = some c' ∧ c'.state = .stopped)
      ∧ ∃ r', t.docket c.docket = some r' ∧ r'.cause = .verify ∧ r'.verdict = some .reject)
    ∧ (crc = entry → c.check + 1 < c.groups →
      (∃ c', t.verifyOf b = some c' ∧ c'.check = c.check + 1 ∧ c'.state = c.state
        ∧ c'.pages = c.pages.filter fun p => p.group != c.check)
      ∧ (c.check ∉ c.marks → t.dockets = s.dockets ∧ (t.bay b).soft = (s.bay b).soft)
      ∧ (c.check ∈ c.marks → t.docket c.docket = some { r with rereads := r.rereads + 1 }
          ∧ (t.bay b).soft = (s.bay b).soft + 1))
    ∧ (crc = entry → c.check + 1 = c.groups → (t.bay b).channel = .closed ∧ (t.bay b).state = .holding
      ∧ ∃ r', t.docket c.docket = some r' ∧ r'.state = .goodWait ∧ r'.verdict = some .good
        ∧ r'.verdictTime = some s.tower.time))
end

