-- ==== Sys2Proof/Laws/Frames.lean ====
section
/-! SUPPORT. The frame of every operation: the fields of the state it leaves as they were. -/

set_option linter.unusedTactic false
set_option linter.unnecessarySeqFocus false
set_option linter.unreachableTactic false
set_option linter.unusedSimpArgs false
set_option linter.unusedVariables false

namespace Sys2Proof.Machine

/-- What no step of a fold changes, the fold does not change. -/
theorem foldl_same {α β γ : Type} (p : α → γ) (f : α → β → α) (hf : ∀ a b, p (f a b) = p a) (l : List β) (a : α) :
    p (l.foldl f a) = p a := by
  induction l generalizing a with
  | nil => rfl
  | cons x t ih => simp only [List.foldl_cons]; rw [ih, hf]

@[simp] theorem State.setBay_frame (s : State) (b : BayNo) (r : Bay) :
    (State.setBay s b r).pending = s.pending ∧ (State.setBay s b r).tower = s.tower ∧ (State.setBay s b r).regs = s.regs ∧ (State.setBay s b r).board = s.board ∧ (State.setBay s b r).faults = s.faults ∧ (State.setBay s b r).jobs = s.jobs ∧ (State.setBay s b r).dockets = s.dockets ∧ (State.setBay s b r).roundDue = s.roundDue ∧ (State.setBay s b r).transport = s.transport ∧ (State.setBay s b r).sensors = s.sensors ∧ (State.setBay s b r).bins = s.bins ∧ (State.setBay s b r).health = s.health ∧ (State.setBay s b r).pageWaiters = s.pageWaiters ∧ (State.setBay s b r).engine = s.engine ∧ (State.setBay s b r).printer = s.printer ∧ (State.setBay s b r).event = s.event ∧ (State.setBay s b r).out = s.out := by
  unfold State.setBay; (try dsimp only); (repeat' split) <;> simp

@[simp] theorem State.setDocket_frame (s : State) (d : DocketNo) (r : Option Docket) :
    (State.setDocket s d r).pending = s.pending ∧ (State.setDocket s d r).tower = s.tower ∧ (State.setDocket s d r).regs = s.regs ∧ (State.setDocket s d r).board = s.board ∧ (State.setDocket s d r).faults = s.faults ∧ (State.setDocket s d r).jobs = s.jobs ∧ (State.setDocket s d r).roundDue = s.roundDue ∧ (State.setDocket s d r).transport = s.transport ∧ (State.setDocket s d r).sensors = s.sensors ∧ (State.setDocket s d r).bins = s.bins ∧ (State.setDocket s d r).bays = s.bays ∧ (State.setDocket s d r).health = s.health ∧ (State.setDocket s d r).pageWaiters = s.pageWaiters ∧ (State.setDocket s d r).engine = s.engine ∧ (State.setDocket s d r).printer = s.printer ∧ (State.setDocket s d r).event = s.event ∧ (State.setDocket s d r).out = s.out := by
  unfold State.setDocket; (try dsimp only); (repeat' split) <;> simp

@[simp] theorem State.updDocket_frame (s : State) (d : DocketNo) (f : Docket → Docket) :
    (State.updDocket s d f).pending = s.pending ∧ (State.updDocket s d f).tower = s.tower ∧ (State.updDocket s d f).regs = s.regs ∧ (State.updDocket s d f).board = s.board ∧ (State.updDocket s d f).faults = s.faults ∧ (State.updDocket s d f).jobs = s.jobs ∧ (State.updDocket s d f).roundDue = s.roundDue ∧ (State.updDocket s d f).transport = s.transport ∧ (State.updDocket s d f).sensors = s.sensors ∧ (State.updDocket s d f).bins = s.bins ∧ (State.updDocket s d f).bays = s.bays ∧ (State.updDocket s d f).health = s.health ∧ (State.updDocket s d f).pageWaiters = s.pageWaiters ∧ (State.updDocket s d f).engine = s.engine ∧ (State.updDocket s d f).printer = s.printer ∧ (State.updDocket s d f).event = s.event ∧ (State.updDocket s d f).out = s.out := by
  unfold State.updDocket; (try dsimp only); (repeat' split) <;> simp

@[simp] theorem State.setJob_frame (s : State) (j : SlotNo) (r : Option Job) :
    (State.setJob s j r).pending = s.pending ∧ (State.setJob s j r).tower = s.tower ∧ (State.setJob s j r).regs = s.regs ∧ (State.setJob s j r).board = s.board ∧ (State.setJob s j r).faults = s.faults ∧ (State.setJob s j r).dockets = s.dockets ∧ (State.setJob s j r).roundDue = s.roundDue ∧ (State.setJob s j r).transport = s.transport ∧ (State.setJob s j r).sensors = s.sensors ∧ (State.setJob s j r).bins = s.bins ∧ (State.setJob s j r).bays = s.bays ∧ (State.setJob s j r).health = s.health ∧ (State.setJob s j r).pageWaiters = s.pageWaiters ∧ (State.setJob s j r).engine = s.engine ∧ (State.setJob s j r).printer = s.printer ∧ (State.setJob s j r).event = s.event ∧ (State.setJob s j r).out = s.out := by
  unfold State.setJob; (try dsimp only); (repeat' split) <;> simp

@[simp] theorem State.updJob_frame (s : State) (j : SlotNo) (f : Job → Job) :
    (State.updJob s j f).pending = s.pending ∧ (State.updJob s j f).tower = s.tower ∧ (State.updJob s j f).regs = s.regs ∧ (State.updJob s j f).board = s.board ∧ (State.updJob s j f).faults = s.faults ∧ (State.updJob s j f).dockets = s.dockets ∧ (State.updJob s j f).roundDue = s.roundDue ∧ (State.updJob s j f).transport = s.transport ∧ (State.updJob s j f).sensors = s.sensors ∧ (State.updJob s j f).bins = s.bins ∧ (State.updJob s j f).bays = s.bays ∧ (State.updJob s j f).health = s.health ∧ (State.updJob s j f).pageWaiters = s.pageWaiters ∧ (State.updJob s j f).engine = s.engine ∧ (State.updJob s j f).printer = s.printer ∧ (State.updJob s j f).event = s.event ∧ (State.updJob s j f).out = s.out := by
  unfold State.updJob; (try dsimp only); (repeat' split) <;> simp

@[simp] theorem State.setFilter_frame (s : State) (x : Sensor) (f : Filter) :
    (State.setFilter s x f).pending = s.pending ∧ (State.setFilter s x f).tower = s.tower ∧ (State.setFilter s x f).regs = s.regs ∧ (State.setFilter s x f).board = s.board ∧ (State.setFilter s x f).faults = s.faults ∧ (State.setFilter s x f).jobs = s.jobs ∧ (State.setFilter s x f).dockets = s.dockets ∧ (State.setFilter s x f).roundDue = s.roundDue ∧ (State.setFilter s x f).transport = s.transport ∧ (State.setFilter s x f).bins = s.bins ∧ (State.setFilter s x f).bays = s.bays ∧ (State.setFilter s x f).health = s.health ∧ (State.setFilter s x f).pageWaiters = s.pageWaiters ∧ (State.setFilter s x f).engine = s.engine ∧ (State.setFilter s x f).printer = s.printer ∧ (State.setFilter s x f).event = s.event ∧ (State.setFilter s x f).out = s.out := by
  unfold State.setFilter; (try dsimp only); (repeat' split) <;> simp

@[simp] theorem emit_frame (o : Output) (s : State) :
    (emit o s).pending = s.pending ∧ (emit o s).tower = s.tower ∧ (emit o s).regs = s.regs ∧ (emit o s).board = s.board ∧ (emit o s).faults = s.faults ∧ (emit o s).jobs = s.jobs ∧ (emit o s).dockets = s.dockets ∧ (emit o s).roundDue = s.roundDue ∧ (emit o s).transport = s.transport ∧ (emit o s).sensors = s.sensors ∧ (emit o s).bins = s.bins ∧ (emit o s).bays = s.bays ∧ (emit o s).health = s.health ∧ (emit o s).pageWaiters = s.pageWaiters ∧ (emit o s).engine = s.engine ∧ (emit o s).printer = s.printer ∧ (emit o s).event = s.event := by
  unfold emit; (try dsimp only); (repeat' split) <;> simp

@[simp] theorem raiseAttention_frame (a : Attention) (s : State) :
    (raiseAttention a s).pending = s.pending ∧ (raiseAttention a s).tower = s.tower ∧ (raiseAttention a s).board = s.board ∧ (raiseAttention a s).faults = s.faults ∧ (raiseAttention a s).jobs = s.jobs ∧ (raiseAttention a s).dockets = s.dockets ∧ (raiseAttention a s).roundDue = s.roundDue ∧ (raiseAttention a s).transport = s.transport ∧ (raiseAttention a s).sensors = s.sensors ∧ (raiseAttention a s).bins = s.bins ∧ (raiseAttention a s).bays = s.bays ∧ (raiseAttention a s).health = s.health ∧ (raiseAttention a s).pageWaiters = s.pageWaiters ∧ (raiseAttention a s).engine = s.engine ∧ (raiseAttention a s).printer = s.printer ∧ (raiseAttention a s).event = s.event := by
  unfold raiseAttention; (try dsimp only); (repeat' split) <;> simp

@[simp] theorem post_frame (w : PostedWrite) (s : State) :
    (post w s).pending = s.pending ∧ (post w s).tower = s.tower ∧ (post w s).regs = s.regs ∧ (post w s).board = s.board ∧ (post w s).faults = s.faults ∧ (post w s).jobs = s.jobs ∧ (post w s).dockets = s.dockets ∧ (post w s).roundDue = s.roundDue ∧ (post w s).transport = s.transport ∧ (post w s).sensors = s.sensors ∧ (post w s).bins = s.bins ∧ (post w s).bays = s.bays ∧ (post w s).health = s.health ∧ (post w s).pageWaiters = s.pageWaiters ∧ (post w s).printer = s.printer ∧ (post w s).event = s.event ∧ (post w s).out = s.out := by
  unfold post; (try dsimp only); (repeat' split) <;> simp

@[simp] theorem waitForRoom_frame (t : Thread) (s : State) :
    (waitForRoom t s).pending = s.pending ∧ (waitForRoom t s).tower = s.tower ∧ (waitForRoom t s).regs = s.regs ∧ (waitForRoom t s).board = s.board ∧ (waitForRoom t s).faults = s.faults ∧ (waitForRoom t s).jobs = s.jobs ∧ (waitForRoom t s).dockets = s.dockets ∧ (waitForRoom t s).roundDue = s.roundDue ∧ (waitForRoom t s).transport = s.transport ∧ (waitForRoom t s).sensors = s.sensors ∧ (waitForRoom t s).bins = s.bins ∧ (waitForRoom t s).bays = s.bays ∧ (waitForRoom t s).health = s.health ∧ (waitForRoom t s).pageWaiters = s.pageWaiters ∧ (waitForRoom t s).printer = s.printer ∧ (waitForRoom t s).event = s.event ∧ (waitForRoom t s).out = s.out := by
  unfold waitForRoom; (try dsimp only); (repeat' split) <;> simp

@[simp] theorem startThread_frame (t : Thread) (s : State) :
    (startThread t s).pending = s.pending ∧ (startThread t s).tower = s.tower ∧ (startThread t s).regs = s.regs ∧ (startThread t s).board = s.board ∧ (startThread t s).faults = s.faults ∧ (startThread t s).jobs = s.jobs ∧ (startThread t s).dockets = s.dockets ∧ (startThread t s).roundDue = s.roundDue ∧ (startThread t s).transport = s.transport ∧ (startThread t s).sensors = s.sensors ∧ (startThread t s).bins = s.bins ∧ (startThread t s).bays = s.bays ∧ (startThread t s).health = s.health ∧ (startThread t s).pageWaiters = s.pageWaiters ∧ (startThread t s).printer = s.printer ∧ (startThread t s).event = s.event ∧ (startThread t s).out = s.out := by
  unfold startThread; (try dsimp only); (repeat' split) <;> simp

@[simp] theorem queueStatus_frame (s : State) :
    (queueStatus s).pending = s.pending ∧ (queueStatus s).tower = s.tower ∧ (queueStatus s).regs = s.regs ∧ (queueStatus s).board = s.board ∧ (queueStatus s).faults = s.faults ∧ (queueStatus s).jobs = s.jobs ∧ (queueStatus s).dockets = s.dockets ∧ (queueStatus s).roundDue = s.roundDue ∧ (queueStatus s).transport = s.transport ∧ (queueStatus s).sensors = s.sensors ∧ (queueStatus s).bins = s.bins ∧ (queueStatus s).bays = s.bays ∧ (queueStatus s).health = s.health ∧ (queueStatus s).pageWaiters = s.pageWaiters ∧ (queueStatus s).printer = s.printer ∧ (queueStatus s).event = s.event ∧ (queueStatus s).out = s.out := by
  unfold queueStatus; (try dsimp only); (repeat' split) <;> simp

@[simp] theorem reportStatus_frame (s : State) :
    (reportStatus s).pending = s.pending ∧ (reportStatus s).tower = s.tower ∧ (reportStatus s).regs = s.regs ∧ (reportStatus s).board = s.board ∧ (reportStatus s).faults = s.faults ∧ (reportStatus s).jobs = s.jobs ∧ (reportStatus s).dockets = s.dockets ∧ (reportStatus s).roundDue = s.roundDue ∧ (reportStatus s).transport = s.transport ∧ (reportStatus s).sensors = s.sensors ∧ (reportStatus s).bins = s.bins ∧ (reportStatus s).bays = s.bays ∧ (reportStatus s).health = s.health ∧ (reportStatus s).pageWaiters = s.pageWaiters ∧ (reportStatus s).printer = s.printer ∧ (reportStatus s).event = s.event ∧ (reportStatus s).out = s.out := by
  unfold reportStatus; (try dsimp only); (repeat' split) <;> simp

@[simp] theorem reportFault_frame (code : FaultCode) (bay : Option BayNo) (docket : Option DocketNo) (s : State) :
    (reportFault code bay docket s).pending = s.pending ∧ (reportFault code bay docket s).tower = s.tower ∧ (reportFault code bay docket s).regs = s.regs ∧ (reportFault code bay docket s).board = s.board ∧ (reportFault code bay docket s).jobs = s.jobs ∧ (reportFault code bay docket s).dockets = s.dockets ∧ (reportFault code bay docket s).roundDue = s.roundDue ∧ (reportFault code bay docket s).transport = s.transport ∧ (reportFault code bay docket s).sensors = s.sensors ∧ (reportFault code bay docket s).bins = s.bins ∧ (reportFault code bay docket s).bays = s.bays ∧ (reportFault code bay docket s).health = s.health ∧ (reportFault code bay docket s).pageWaiters = s.pageWaiters ∧ (reportFault code bay docket s).printer = s.printer ∧ (reportFault code bay docket s).event = s.event ∧ (reportFault code bay docket s).out = s.out := by
  unfold reportFault; (try dsimp only); (repeat' split) <;> simp

@[simp] theorem triggerRound_frame (s : State) :
    (triggerRound s).pending = s.pending ∧ (triggerRound s).tower = s.tower ∧ (triggerRound s).regs = s.regs ∧ (triggerRound s).board = s.board ∧ (triggerRound s).faults = s.faults ∧ (triggerRound s).jobs = s.jobs ∧ (triggerRound s).dockets = s.dockets ∧ (triggerRound s).transport = s.transport ∧ (triggerRound s).sensors = s.sensors ∧ (triggerRound s).bins = s.bins ∧ (triggerRound s).bays = s.bays ∧ (triggerRound s).health = s.health ∧ (triggerRound s).pageWaiters = s.pageWaiters ∧ (triggerRound s).engine = s.engine ∧ (triggerRound s).printer = s.printer ∧ (triggerRound s).event = s.event ∧ (triggerRound s).out = s.out := by
  unfold triggerRound; (try dsimp only); (repeat' split) <;> simp

@[simp] theorem setTower_frame (st : TowerState) (s : State) :
    (setTower st s).pending = s.pending ∧ (setTower st s).regs = s.regs ∧ (setTower st s).board = s.board ∧ (setTower st s).faults = s.faults ∧ (setTower st s).jobs = s.jobs ∧ (setTower st s).dockets = s.dockets ∧ (setTower st s).transport = s.transport ∧ (setTower st s).sensors = s.sensors ∧ (setTower st s).bins = s.bins ∧ (setTower st s).bays = s.bays ∧ (setTower st s).health = s.health ∧ (setTower st s).pageWaiters = s.pageWaiters ∧ (setTower st s).printer = s.printer ∧ (setTower st s).event = s.event ∧ (setTower st s).out = s.out := by
  unfold setTower; (try dsimp only); (repeat' split) <;> simp

@[simp] theorem setTransport_frame (st : TransportState) (s : State) :
    (setTransport st s).pending = s.pending ∧ (setTransport st s).tower = s.tower ∧ (setTransport st s).regs = s.regs ∧ (setTransport st s).board = s.board ∧ (setTransport st s).faults = s.faults ∧ (setTransport st s).jobs = s.jobs ∧ (setTransport st s).dockets = s.dockets ∧ (setTransport st s).roundDue = s.roundDue ∧ (setTransport st s).sensors = s.sensors ∧ (setTransport st s).bins = s.bins ∧ (setTransport st s).bays = s.bays ∧ (setTransport st s).health = s.health ∧ (setTransport st s).pageWaiters = s.pageWaiters ∧ (setTransport st s).printer = s.printer ∧ (setTransport st s).event = s.event ∧ (setTransport st s).out = s.out := by
  unfold setTransport; (try dsimp only); (repeat' split) <;> simp

@[simp] theorem setPrinter_frame (st : PrinterState) (s : State) :
    (setPrinter st s).pending = s.pending ∧ (setPrinter st s).tower = s.tower ∧ (setPrinter st s).regs = s.regs ∧ (setPrinter st s).board = s.board ∧ (setPrinter st s).faults = s.faults ∧ (setPrinter st s).jobs = s.jobs ∧ (setPrinter st s).dockets = s.dockets ∧ (setPrinter st s).roundDue = s.roundDue ∧ (setPrinter st s).transport = s.transport ∧ (setPrinter st s).sensors = s.sensors ∧ (setPrinter st s).bins = s.bins ∧ (setPrinter st s).bays = s.bays ∧ (setPrinter st s).health = s.health ∧ (setPrinter st s).pageWaiters = s.pageWaiters ∧ (setPrinter st s).event = s.event ∧ (setPrinter st s).out = s.out := by
  unfold setPrinter; (try dsimp only); (repeat' split) <;> simp

@[simp] theorem setBayState_frame (b : BayNo) (st : BayState) (s : State) :
    (setBayState b st s).pending = s.pending ∧ (setBayState b st s).tower = s.tower ∧ (setBayState b st s).regs = s.regs ∧ (setBayState b st s).board = s.board ∧ (setBayState b st s).faults = s.faults ∧ (setBayState b st s).jobs = s.jobs ∧ (setBayState b st s).dockets = s.dockets ∧ (setBayState b st s).roundDue = s.roundDue ∧ (setBayState b st s).transport = s.transport ∧ (setBayState b st s).sensors = s.sensors ∧ (setBayState b st s).bins = s.bins ∧ (setBayState b st s).health = s.health ∧ (setBayState b st s).pageWaiters = s.pageWaiters ∧ (setBayState b st s).printer = s.printer ∧ (setBayState b st s).event = s.event ∧ (setBayState b st s).out = s.out := by
  unfold setBayState; (try dsimp only); (repeat' split) <;> simp

@[simp] theorem setLogical_frame (b : BayNo) (n : Option BayNo) (s : State) :
    (setLogical b n s).pending = s.pending ∧ (setLogical b n s).tower = s.tower ∧ (setLogical b n s).regs = s.regs ∧ (setLogical b n s).board = s.board ∧ (setLogical b n s).faults = s.faults ∧ (setLogical b n s).jobs = s.jobs ∧ (setLogical b n s).dockets = s.dockets ∧ (setLogical b n s).roundDue = s.roundDue ∧ (setLogical b n s).transport = s.transport ∧ (setLogical b n s).sensors = s.sensors ∧ (setLogical b n s).bins = s.bins ∧ (setLogical b n s).health = s.health ∧ (setLogical b n s).pageWaiters = s.pageWaiters ∧ (setLogical b n s).printer = s.printer ∧ (setLogical b n s).event = s.event ∧ (setLogical b n s).out = s.out := by
  unfold setLogical; (try dsimp only); (repeat' split) <;> simp

@[simp] theorem setInput_frame (i : InputBin) (st : InputBinState) (s : State) :
    (setInput i st s).pending = s.pending ∧ (setInput i st s).tower = s.tower ∧ (setInput i st s).regs = s.regs ∧ (setInput i st s).board = s.board ∧ (setInput i st s).faults = s.faults ∧ (setInput i st s).jobs = s.jobs ∧ (setInput i st s).dockets = s.dockets ∧ (setInput i st s).roundDue = s.roundDue ∧ (setInput i st s).transport = s.transport ∧ (setInput i st s).sensors = s.sensors ∧ (setInput i st s).bays = s.bays ∧ (setInput i st s).health = s.health ∧ (setInput i st s).pageWaiters = s.pageWaiters ∧ (setInput i st s).printer = s.printer ∧ (setInput i st s).event = s.event ∧ (setInput i st s).out = s.out := by
  unfold setInput; (try dsimp only); (repeat' split) <;> simp

@[simp] theorem binUp_frame (o : OutputBin) (s : State) :
    (binUp o s).pending = s.pending ∧ (binUp o s).tower = s.tower ∧ (binUp o s).regs = s.regs ∧ (binUp o s).board = s.board ∧ (binUp o s).faults = s.faults ∧ (binUp o s).jobs = s.jobs ∧ (binUp o s).dockets = s.dockets ∧ (binUp o s).roundDue = s.roundDue ∧ (binUp o s).transport = s.transport ∧ (binUp o s).sensors = s.sensors ∧ (binUp o s).bays = s.bays ∧ (binUp o s).health = s.health ∧ (binUp o s).pageWaiters = s.pageWaiters ∧ (binUp o s).printer = s.printer ∧ (binUp o s).event = s.event ∧ (binUp o s).out = s.out := by
  unfold binUp; (try dsimp only); (repeat' split) <;> simp

@[simp] theorem enterReq_frame (b : BayNo) (q : Request) (p : Purpose) (m : DriveMsg) (s : State) :
    (enterReq b q p m s).pending = s.pending ∧ (enterReq b q p m s).tower = s.tower ∧ (enterReq b q p m s).regs = s.regs ∧ (enterReq b q p m s).board = s.board ∧ (enterReq b q p m s).faults = s.faults ∧ (enterReq b q p m s).jobs = s.jobs ∧ (enterReq b q p m s).dockets = s.dockets ∧ (enterReq b q p m s).roundDue = s.roundDue ∧ (enterReq b q p m s).transport = s.transport ∧ (enterReq b q p m s).sensors = s.sensors ∧ (enterReq b q p m s).bins = s.bins ∧ (enterReq b q p m s).health = s.health ∧ (enterReq b q p m s).pageWaiters = s.pageWaiters ∧ (enterReq b q p m s).engine = s.engine ∧ (enterReq b q p m s).printer = s.printer ∧ (enterReq b q p m s).event = s.event := by
  unfold enterReq; (try dsimp only); (repeat' split) <;> simp

@[simp] theorem sendReq_frame (b : BayNo) (q : Request) (p : Purpose) (m : DriveMsg) (s : State) :
    (sendReq b q p m s).pending = s.pending ∧ (sendReq b q p m s).tower = s.tower ∧ (sendReq b q p m s).regs = s.regs ∧ (sendReq b q p m s).board = s.board ∧ (sendReq b q p m s).faults = s.faults ∧ (sendReq b q p m s).jobs = s.jobs ∧ (sendReq b q p m s).dockets = s.dockets ∧ (sendReq b q p m s).roundDue = s.roundDue ∧ (sendReq b q p m s).transport = s.transport ∧ (sendReq b q p m s).sensors = s.sensors ∧ (sendReq b q p m s).bins = s.bins ∧ (sendReq b q p m s).health = s.health ∧ (sendReq b q p m s).pageWaiters = s.pageWaiters ∧ (sendReq b q p m s).engine = s.engine ∧ (sendReq b q p m s).printer = s.printer ∧ (sendReq b q p m s).event = s.event := by
  unfold sendReq; (try dsimp only); (repeat' split) <;> simp

@[simp] theorem dropReq_frame (b : BayNo) (q : Request) (s : State) :
    (dropReq b q s).pending = s.pending ∧ (dropReq b q s).tower = s.tower ∧ (dropReq b q s).regs = s.regs ∧ (dropReq b q s).board = s.board ∧ (dropReq b q s).faults = s.faults ∧ (dropReq b q s).jobs = s.jobs ∧ (dropReq b q s).dockets = s.dockets ∧ (dropReq b q s).roundDue = s.roundDue ∧ (dropReq b q s).transport = s.transport ∧ (dropReq b q s).sensors = s.sensors ∧ (dropReq b q s).bins = s.bins ∧ (dropReq b q s).health = s.health ∧ (dropReq b q s).pageWaiters = s.pageWaiters ∧ (dropReq b q s).engine = s.engine ∧ (dropReq b q s).printer = s.printer ∧ (dropReq b q s).event = s.event ∧ (dropReq b q s).out = s.out := by
  unfold dropReq; (try dsimp only); (repeat' split) <;> simp

@[simp] theorem withdrawBurn_frame (b : BayNo) (s : State) :
    (withdrawBurn b s).pending = s.pending ∧ (withdrawBurn b s).tower = s.tower ∧ (withdrawBurn b s).regs = s.regs ∧ (withdrawBurn b s).board = s.board ∧ (withdrawBurn b s).faults = s.faults ∧ (withdrawBurn b s).jobs = s.jobs ∧ (withdrawBurn b s).dockets = s.dockets ∧ (withdrawBurn b s).roundDue = s.roundDue ∧ (withdrawBurn b s).transport = s.transport ∧ (withdrawBurn b s).sensors = s.sensors ∧ (withdrawBurn b s).bins = s.bins ∧ (withdrawBurn b s).health = s.health ∧ (withdrawBurn b s).pageWaiters = s.pageWaiters ∧ (withdrawBurn b s).engine = s.engine ∧ (withdrawBurn b s).printer = s.printer ∧ (withdrawBurn b s).event = s.event ∧ (withdrawBurn b s).out = s.out := by
  unfold withdrawBurn; (try dsimp only); (repeat' split) <;> simp

@[simp] theorem linkError_frame (b : BayNo) (s : State) :
    (linkError b s).pending = s.pending ∧ (linkError b s).tower = s.tower ∧ (linkError b s).regs = s.regs ∧ (linkError b s).board = s.board ∧ (linkError b s).faults = s.faults ∧ (linkError b s).jobs = s.jobs ∧ (linkError b s).dockets = s.dockets ∧ (linkError b s).roundDue = s.roundDue ∧ (linkError b s).transport = s.transport ∧ (linkError b s).sensors = s.sensors ∧ (linkError b s).bins = s.bins ∧ (linkError b s).health = s.health ∧ (linkError b s).pageWaiters = s.pageWaiters ∧ (linkError b s).engine = s.engine ∧ (linkError b s).printer = s.printer ∧ (linkError b s).event = s.event ∧ (linkError b s).out = s.out := by
  unfold linkError; (try dsimp only); (repeat' split) <;> simp

@[simp] theorem discardMsg_frame (b : BayNo) (s : State) :
    (discardMsg b s).pending = s.pending ∧ (discardMsg b s).tower = s.tower ∧ (discardMsg b s).regs = s.regs ∧ (discardMsg b s).board = s.board ∧ (discardMsg b s).faults = s.faults ∧ (discardMsg b s).jobs = s.jobs ∧ (discardMsg b s).dockets = s.dockets ∧ (discardMsg b s).roundDue = s.roundDue ∧ (discardMsg b s).transport = s.transport ∧ (discardMsg b s).sensors = s.sensors ∧ (discardMsg b s).bins = s.bins ∧ (discardMsg b s).health = s.health ∧ (discardMsg b s).pageWaiters = s.pageWaiters ∧ (discardMsg b s).engine = s.engine ∧ (discardMsg b s).printer = s.printer ∧ (discardMsg b s).event = s.event ∧ (discardMsg b s).out = s.out := by
  unfold discardMsg; (try dsimp only); (repeat' split) <;> simp

@[simp] theorem setSpare_frame (d : Option BayNo) (s : State) :
    (setSpare d s).pending = s.pending ∧ (setSpare d s).tower = s.tower ∧ (setSpare d s).regs = s.regs ∧ (setSpare d s).board = s.board ∧ (setSpare d s).faults = s.faults ∧ (setSpare d s).jobs = s.jobs ∧ (setSpare d s).dockets = s.dockets ∧ (setSpare d s).roundDue = s.roundDue ∧ (setSpare d s).transport = s.transport ∧ (setSpare d s).sensors = s.sensors ∧ (setSpare d s).bins = s.bins ∧ (setSpare d s).bays = s.bays ∧ (setSpare d s).pageWaiters = s.pageWaiters ∧ (setSpare d s).engine = s.engine ∧ (setSpare d s).printer = s.printer ∧ (setSpare d s).event = s.event ∧ (setSpare d s).out = s.out := by
  unfold setSpare; (try dsimp only); (repeat' split) <;> simp

@[simp] theorem takeover_frame (number : Option BayNo) (s : State) :
    (takeover number s).pending = s.pending ∧ (takeover number s).tower = s.tower ∧ (takeover number s).regs = s.regs ∧ (takeover number s).board = s.board ∧ (takeover number s).faults = s.faults ∧ (takeover number s).jobs = s.jobs ∧ (takeover number s).dockets = s.dockets ∧ (takeover number s).roundDue = s.roundDue ∧ (takeover number s).transport = s.transport ∧ (takeover number s).sensors = s.sensors ∧ (takeover number s).bins = s.bins ∧ (takeover number s).pageWaiters = s.pageWaiters ∧ (takeover number s).printer = s.printer ∧ (takeover number s).event = s.event := by
  unfold takeover; (try dsimp only); (repeat' split) <;> simp

@[simp] theorem retire_frame (b : BayNo) (s : State) :
    (retire b s).pending = s.pending ∧ (retire b s).tower = s.tower ∧ (retire b s).regs = s.regs ∧ (retire b s).board = s.board ∧ (retire b s).jobs = s.jobs ∧ (retire b s).dockets = s.dockets ∧ (retire b s).roundDue = s.roundDue ∧ (retire b s).transport = s.transport ∧ (retire b s).sensors = s.sensors ∧ (retire b s).bins = s.bins ∧ (retire b s).pageWaiters = s.pageWaiters ∧ (retire b s).printer = s.printer ∧ (retire b s).event = s.event := by
  unfold retire; (try dsimp only); (repeat' split) <;> simp

@[simp] theorem enterIdle_frame (b : BayNo) (s : State) :
    (enterIdle b s).pending = s.pending ∧ (enterIdle b s).tower = s.tower ∧ (enterIdle b s).regs = s.regs ∧ (enterIdle b s).board = s.board ∧ (enterIdle b s).jobs = s.jobs ∧ (enterIdle b s).dockets = s.dockets ∧ (enterIdle b s).transport = s.transport ∧ (enterIdle b s).sensors = s.sensors ∧ (enterIdle b s).bins = s.bins ∧ (enterIdle b s).pageWaiters = s.pageWaiters ∧ (enterIdle b s).printer = s.printer ∧ (enterIdle b s).event = s.event := by
  unfold enterIdle; (try dsimp only); (repeat' split) <;> simp

@[simp] theorem endDesignation_frame (b : BayNo) (s : State) :
    (endDesignation b s).pending = s.pending ∧ (endDesignation b s).tower = s.tower ∧ (endDesignation b s).regs = s.regs ∧ (endDesignation b s).board = s.board ∧ (endDesignation b s).faults = s.faults ∧ (endDesignation b s).jobs = s.jobs ∧ (endDesignation b s).dockets = s.dockets ∧ (endDesignation b s).roundDue = s.roundDue ∧ (endDesignation b s).transport = s.transport ∧ (endDesignation b s).sensors = s.sensors ∧ (endDesignation b s).bins = s.bins ∧ (endDesignation b s).bays = s.bays ∧ (endDesignation b s).pageWaiters = s.pageWaiters ∧ (endDesignation b s).engine = s.engine ∧ (endDesignation b s).printer = s.printer ∧ (endDesignation b s).event = s.event ∧ (endDesignation b s).out = s.out := by
  unfold endDesignation; (try dsimp only); (repeat' split) <;> simp

@[simp] theorem retireSpare_frame (b : BayNo) (s : State) :
    (retireSpare b s).pending = s.pending ∧ (retireSpare b s).tower = s.tower ∧ (retireSpare b s).regs = s.regs ∧ (retireSpare b s).board = s.board ∧ (retireSpare b s).jobs = s.jobs ∧ (retireSpare b s).dockets = s.dockets ∧ (retireSpare b s).roundDue = s.roundDue ∧ (retireSpare b s).transport = s.transport ∧ (retireSpare b s).sensors = s.sensors ∧ (retireSpare b s).bins = s.bins ∧ (retireSpare b s).pageWaiters = s.pageWaiters ∧ (retireSpare b s).printer = s.printer ∧ (retireSpare b s).event = s.event := by
  unfold retireSpare; (try dsimp only); (repeat' split) <;> simp

@[simp] theorem enterSpare_frame (b : BayNo) (s : State) :
    (enterSpare b s).pending = s.pending ∧ (enterSpare b s).tower = s.tower ∧ (enterSpare b s).regs = s.regs ∧ (enterSpare b s).board = s.board ∧ (enterSpare b s).jobs = s.jobs ∧ (enterSpare b s).dockets = s.dockets ∧ (enterSpare b s).roundDue = s.roundDue ∧ (enterSpare b s).transport = s.transport ∧ (enterSpare b s).sensors = s.sensors ∧ (enterSpare b s).bins = s.bins ∧ (enterSpare b s).pageWaiters = s.pageWaiters ∧ (enterSpare b s).printer = s.printer ∧ (enterSpare b s).event = s.event := by
  unfold enterSpare; (try dsimp only); (repeat' split) <;> simp

@[simp] theorem markFailing_frame (b : BayNo) (s : State) :
    (markFailing b s).pending = s.pending ∧ (markFailing b s).tower = s.tower ∧ (markFailing b s).regs = s.regs ∧ (markFailing b s).board = s.board ∧ (markFailing b s).jobs = s.jobs ∧ (markFailing b s).dockets = s.dockets ∧ (markFailing b s).roundDue = s.roundDue ∧ (markFailing b s).transport = s.transport ∧ (markFailing b s).sensors = s.sensors ∧ (markFailing b s).bins = s.bins ∧ (markFailing b s).pageWaiters = s.pageWaiters ∧ (markFailing b s).printer = s.printer ∧ (markFailing b s).event = s.event := by
  unfold markFailing; (try dsimp only); (repeat' split) <;> simp

@[simp] theorem testLimits_frame (b : BayNo) (s : State) :
    (testLimits b s).pending = s.pending ∧ (testLimits b s).tower = s.tower ∧ (testLimits b s).regs = s.regs ∧ (testLimits b s).board = s.board ∧ (testLimits b s).jobs = s.jobs ∧ (testLimits b s).dockets = s.dockets ∧ (testLimits b s).roundDue = s.roundDue ∧ (testLimits b s).transport = s.transport ∧ (testLimits b s).sensors = s.sensors ∧ (testLimits b s).bins = s.bins ∧ (testLimits b s).pageWaiters = s.pageWaiters ∧ (testLimits b s).printer = s.printer ∧ (testLimits b s).event = s.event := by
  unfold testLimits; (try dsimp only); (repeat' split) <;> simp

@[simp] theorem hardUp_frame (b : BayNo) (s : State) :
    (hardUp b s).pending = s.pending ∧ (hardUp b s).tower = s.tower ∧ (hardUp b s).regs = s.regs ∧ (hardUp b s).board = s.board ∧ (hardUp b s).jobs = s.jobs ∧ (hardUp b s).dockets = s.dockets ∧ (hardUp b s).roundDue = s.roundDue ∧ (hardUp b s).transport = s.transport ∧ (hardUp b s).sensors = s.sensors ∧ (hardUp b s).bins = s.bins ∧ (hardUp b s).pageWaiters = s.pageWaiters ∧ (hardUp b s).printer = s.printer ∧ (hardUp b s).event = s.event := by
  unfold hardUp; (try dsimp only); (repeat' split) <;> simp

@[simp] theorem softUp_frame (b : BayNo) (s : State) :
    (softUp b s).pending = s.pending ∧ (softUp b s).tower = s.tower ∧ (softUp b s).regs = s.regs ∧ (softUp b s).board = s.board ∧ (softUp b s).jobs = s.jobs ∧ (softUp b s).dockets = s.dockets ∧ (softUp b s).roundDue = s.roundDue ∧ (softUp b s).transport = s.transport ∧ (softUp b s).sensors = s.sensors ∧ (softUp b s).bins = s.bins ∧ (softUp b s).pageWaiters = s.pageWaiters ∧ (softUp b s).printer = s.printer ∧ (softUp b s).event = s.event := by
  unfold softUp; (try dsimp only); (repeat' split) <;> simp

@[simp] theorem setLine_frame (id : LineId) (r : Option FetchReq) (s : State) :
    (setLine id r s).pending = s.pending ∧ (setLine id r s).tower = s.tower ∧ (setLine id r s).regs = s.regs ∧ (setLine id r s).board = s.board ∧ (setLine id r s).faults = s.faults ∧ (setLine id r s).jobs = s.jobs ∧ (setLine id r s).dockets = s.dockets ∧ (setLine id r s).roundDue = s.roundDue ∧ (setLine id r s).transport = s.transport ∧ (setLine id r s).sensors = s.sensors ∧ (setLine id r s).bins = s.bins ∧ (setLine id r s).health = s.health ∧ (setLine id r s).pageWaiters = s.pageWaiters ∧ (setLine id r s).printer = s.printer ∧ (setLine id r s).event = s.event ∧ (setLine id r s).out = s.out := by
  unfold setLine; (try dsimp only); (repeat' split) <;> simp

@[simp] theorem present_frame (id : LineId) (addr len : Nat) (target : Target) (s : State) :
    (present id addr len target s).pending = s.pending ∧ (present id addr len target s).tower = s.tower ∧ (present id addr len target s).regs = s.regs ∧ (present id addr len target s).board = s.board ∧ (present id addr len target s).faults = s.faults ∧ (present id addr len target s).jobs = s.jobs ∧ (present id addr len target s).dockets = s.dockets ∧ (present id addr len target s).roundDue = s.roundDue ∧ (present id addr len target s).transport = s.transport ∧ (present id addr len target s).sensors = s.sensors ∧ (present id addr len target s).bins = s.bins ∧ (present id addr len target s).health = s.health ∧ (present id addr len target s).pageWaiters = s.pageWaiters ∧ (present id addr len target s).printer = s.printer ∧ (present id addr len target s).event = s.event ∧ (present id addr len target s).out = s.out := by
  unfold present; (try dsimp only); (repeat' split) <;> simp

@[simp] theorem orphanLine_frame (id : LineId) (s : State) :
    (orphanLine id s).pending = s.pending ∧ (orphanLine id s).tower = s.tower ∧ (orphanLine id s).regs = s.regs ∧ (orphanLine id s).board = s.board ∧ (orphanLine id s).faults = s.faults ∧ (orphanLine id s).jobs = s.jobs ∧ (orphanLine id s).dockets = s.dockets ∧ (orphanLine id s).roundDue = s.roundDue ∧ (orphanLine id s).transport = s.transport ∧ (orphanLine id s).sensors = s.sensors ∧ (orphanLine id s).bins = s.bins ∧ (orphanLine id s).bays = s.bays ∧ (orphanLine id s).health = s.health ∧ (orphanLine id s).pageWaiters = s.pageWaiters ∧ (orphanLine id s).printer = s.printer ∧ (orphanLine id s).event = s.event ∧ (orphanLine id s).out = s.out := by
  unfold orphanLine; (try dsimp only); (repeat' split) <;> simp

@[simp] theorem setChannel_frame (b : BayNo) (c : Channel) (s : State) :
    (setChannel b c s).pending = s.pending ∧ (setChannel b c s).tower = s.tower ∧ (setChannel b c s).regs = s.regs ∧ (setChannel b c s).board = s.board ∧ (setChannel b c s).faults = s.faults ∧ (setChannel b c s).jobs = s.jobs ∧ (setChannel b c s).dockets = s.dockets ∧ (setChannel b c s).roundDue = s.roundDue ∧ (setChannel b c s).transport = s.transport ∧ (setChannel b c s).sensors = s.sensors ∧ (setChannel b c s).bins = s.bins ∧ (setChannel b c s).health = s.health ∧ (setChannel b c s).pageWaiters = s.pageWaiters ∧ (setChannel b c s).engine = s.engine ∧ (setChannel b c s).printer = s.printer ∧ (setChannel b c s).event = s.event ∧ (setChannel b c s).out = s.out := by
  unfold setChannel; (try dsimp only); (repeat' split) <;> simp

@[simp] theorem recordSignature_frame (b : BayNo) (j : Job) (g : Nat) (crc : BitVec 32) (s : State) :
    (recordSignature b j g crc s).pending = s.pending ∧ (recordSignature b j g crc s).tower = s.tower ∧ (recordSignature b j g crc s).regs = s.regs ∧ (recordSignature b j g crc s).board = s.board ∧ (recordSignature b j g crc s).faults = s.faults ∧ (recordSignature b j g crc s).jobs = s.jobs ∧ (recordSignature b j g crc s).dockets = s.dockets ∧ (recordSignature b j g crc s).roundDue = s.roundDue ∧ (recordSignature b j g crc s).transport = s.transport ∧ (recordSignature b j g crc s).sensors = s.sensors ∧ (recordSignature b j g crc s).bins = s.bins ∧ (recordSignature b j g crc s).health = s.health ∧ (recordSignature b j g crc s).pageWaiters = s.pageWaiters ∧ (recordSignature b j g crc s).printer = s.printer ∧ (recordSignature b j g crc s).event = s.event ∧ (recordSignature b j g crc s).out = s.out := by
  unfold recordSignature; (try dsimp only); (repeat' split) <;> simp

@[simp] theorem openEntry_frame (j : SlotNo) (g : Nat) (s : State) :
    (openEntry j g s).pending = s.pending ∧ (openEntry j g s).tower = s.tower ∧ (openEntry j g s).regs = s.regs ∧ (openEntry j g s).board = s.board ∧ (openEntry j g s).faults = s.faults ∧ (openEntry j g s).dockets = s.dockets ∧ (openEntry j g s).roundDue = s.roundDue ∧ (openEntry j g s).transport = s.transport ∧ (openEntry j g s).sensors = s.sensors ∧ (openEntry j g s).bins = s.bins ∧ (openEntry j g s).health = s.health ∧ (openEntry j g s).pageWaiters = s.pageWaiters ∧ (openEntry j g s).printer = s.printer ∧ (openEntry j g s).event = s.event ∧ (openEntry j g s).out = s.out := by
  unfold openEntry; (try dsimp only); (repeat' split) <;> simp

@[simp] theorem endBurstOf_frame (b : BayNo) (s : State) :
    (endBurstOf b s).pending = s.pending ∧ (endBurstOf b s).tower = s.tower ∧ (endBurstOf b s).regs = s.regs ∧ (endBurstOf b s).board = s.board ∧ (endBurstOf b s).faults = s.faults ∧ (endBurstOf b s).jobs = s.jobs ∧ (endBurstOf b s).dockets = s.dockets ∧ (endBurstOf b s).roundDue = s.roundDue ∧ (endBurstOf b s).transport = s.transport ∧ (endBurstOf b s).sensors = s.sensors ∧ (endBurstOf b s).bins = s.bins ∧ (endBurstOf b s).bays = s.bays ∧ (endBurstOf b s).health = s.health ∧ (endBurstOf b s).pageWaiters = s.pageWaiters ∧ (endBurstOf b s).printer = s.printer ∧ (endBurstOf b s).event = s.event ∧ (endBurstOf b s).out = s.out := by
  unfold endBurstOf; (try dsimp only); (repeat' split) <;> simp

@[simp] theorem dropChannel_frame (b : BayNo) (s : State) :
    (dropChannel b s).pending = s.pending ∧ (dropChannel b s).tower = s.tower ∧ (dropChannel b s).regs = s.regs ∧ (dropChannel b s).board = s.board ∧ (dropChannel b s).faults = s.faults ∧ (dropChannel b s).jobs = s.jobs ∧ (dropChannel b s).dockets = s.dockets ∧ (dropChannel b s).roundDue = s.roundDue ∧ (dropChannel b s).transport = s.transport ∧ (dropChannel b s).sensors = s.sensors ∧ (dropChannel b s).bins = s.bins ∧ (dropChannel b s).health = s.health ∧ (dropChannel b s).printer = s.printer ∧ (dropChannel b s).event = s.event ∧ (dropChannel b s).out = s.out := by
  unfold dropChannel; (try dsimp only); (repeat' split) <;> simp

@[simp] theorem discardChannel_frame (b : BayNo) (s : State) :
    (discardChannel b s).pending = s.pending ∧ (discardChannel b s).tower = s.tower ∧ (discardChannel b s).regs = s.regs ∧ (discardChannel b s).board = s.board ∧ (discardChannel b s).faults = s.faults ∧ (discardChannel b s).dockets = s.dockets ∧ (discardChannel b s).roundDue = s.roundDue ∧ (discardChannel b s).transport = s.transport ∧ (discardChannel b s).sensors = s.sensors ∧ (discardChannel b s).bins = s.bins ∧ (discardChannel b s).health = s.health ∧ (discardChannel b s).printer = s.printer ∧ (discardChannel b s).event = s.event ∧ (discardChannel b s).out = s.out := by
  unfold discardChannel; split
  · simp
  · simp
  · dsimp only; split
    · exact ⟨(foldl_same (fun u : State => u.pending) _ (by intro a b; (try split) <;> simp) _ _).trans (by simp), (foldl_same (fun u : State => u.tower) _ (by intro a b; (try split) <;> simp) _ _).trans (by simp), (foldl_same (fun u : State => u.regs) _ (by intro a b; (try split) <;> simp) _ _).trans (by simp), (foldl_same (fun u : State => u.board) _ (by intro a b; (try split) <;> simp) _ _).trans (by simp), (foldl_same (fun u : State => u.faults) _ (by intro a b; (try split) <;> simp) _ _).trans (by simp), (foldl_same (fun u : State => u.dockets) _ (by intro a b; (try split) <;> simp) _ _).trans (by simp), (foldl_same (fun u : State => u.roundDue) _ (by intro a b; (try split) <;> simp) _ _).trans (by simp), (foldl_same (fun u : State => u.transport) _ (by intro a b; (try split) <;> simp) _ _).trans (by simp), (foldl_same (fun u : State => u.sensors) _ (by intro a b; (try split) <;> simp) _ _).trans (by simp), (foldl_same (fun u : State => u.bins) _ (by intro a b; (try split) <;> simp) _ _).trans (by simp), (foldl_same (fun u : State => u.health) _ (by intro a b; (try split) <;> simp) _ _).trans (by simp), (foldl_same (fun u : State => u.printer) _ (by intro a b; (try split) <;> simp) _ _).trans (by simp), (foldl_same (fun u : State => u.event) _ (by intro a b; (try split) <;> simp) _ _).trans (by simp), (foldl_same (fun u : State => u.out) _ (by intro a b; (try split) <;> simp) _ _).trans (by simp)⟩
    · simp

@[simp] theorem abortBurn_frame (b : BayNo) (s : State) :
    (abortBurn b s).pending = s.pending ∧ (abortBurn b s).tower = s.tower ∧ (abortBurn b s).regs = s.regs ∧ (abortBurn b s).board = s.board ∧ (abortBurn b s).faults = s.faults ∧ (abortBurn b s).jobs = s.jobs ∧ (abortBurn b s).dockets = s.dockets ∧ (abortBurn b s).roundDue = s.roundDue ∧ (abortBurn b s).transport = s.transport ∧ (abortBurn b s).sensors = s.sensors ∧ (abortBurn b s).bins = s.bins ∧ (abortBurn b s).health = s.health ∧ (abortBurn b s).pageWaiters = s.pageWaiters ∧ (abortBurn b s).engine = s.engine ∧ (abortBurn b s).printer = s.printer ∧ (abortBurn b s).event = s.event ∧ (abortBurn b s).out = s.out := by
  unfold abortBurn; (try dsimp only); (repeat' split) <;> simp

@[simp] theorem stopVerify_frame (b : BayNo) (s : State) :
    (stopVerify b s).pending = s.pending ∧ (stopVerify b s).tower = s.tower ∧ (stopVerify b s).regs = s.regs ∧ (stopVerify b s).board = s.board ∧ (stopVerify b s).faults = s.faults ∧ (stopVerify b s).jobs = s.jobs ∧ (stopVerify b s).dockets = s.dockets ∧ (stopVerify b s).roundDue = s.roundDue ∧ (stopVerify b s).transport = s.transport ∧ (stopVerify b s).sensors = s.sensors ∧ (stopVerify b s).bins = s.bins ∧ (stopVerify b s).health = s.health ∧ (stopVerify b s).engine = s.engine ∧ (stopVerify b s).printer = s.printer ∧ (stopVerify b s).event = s.event ∧ (stopVerify b s).out = s.out := by
  unfold stopVerify; (try dsimp only); (repeat' split) <;> simp

@[simp] theorem setLift_frame (l : Lift) (s : State) :
    (setLift l s).pending = s.pending ∧ (setLift l s).tower = s.tower ∧ (setLift l s).regs = s.regs ∧ (setLift l s).board = s.board ∧ (setLift l s).faults = s.faults ∧ (setLift l s).jobs = s.jobs ∧ (setLift l s).dockets = s.dockets ∧ (setLift l s).roundDue = s.roundDue ∧ (setLift l s).sensors = s.sensors ∧ (setLift l s).bins = s.bins ∧ (setLift l s).bays = s.bays ∧ (setLift l s).health = s.health ∧ (setLift l s).pageWaiters = s.pageWaiters ∧ (setLift l s).engine = s.engine ∧ (setLift l s).printer = s.printer ∧ (setLift l s).event = s.event ∧ (setLift l s).out = s.out := by
  unfold setLift; (try dsimp only); (repeat' split) <;> simp

@[simp] theorem setPhase_frame (p : Phase) (s : State) :
    (setPhase p s).pending = s.pending ∧ (setPhase p s).tower = s.tower ∧ (setPhase p s).regs = s.regs ∧ (setPhase p s).board = s.board ∧ (setPhase p s).faults = s.faults ∧ (setPhase p s).jobs = s.jobs ∧ (setPhase p s).dockets = s.dockets ∧ (setPhase p s).roundDue = s.roundDue ∧ (setPhase p s).sensors = s.sensors ∧ (setPhase p s).bins = s.bins ∧ (setPhase p s).bays = s.bays ∧ (setPhase p s).health = s.health ∧ (setPhase p s).pageWaiters = s.pageWaiters ∧ (setPhase p s).engine = s.engine ∧ (setPhase p s).printer = s.printer ∧ (setPhase p s).event = s.event ∧ (setPhase p s).out = s.out := by
  unfold setPhase; (try dsimp only); (repeat' split) <;> simp

@[simp] theorem setErrand_frame (e : Option Errand) (s : State) :
    (setErrand e s).pending = s.pending ∧ (setErrand e s).tower = s.tower ∧ (setErrand e s).regs = s.regs ∧ (setErrand e s).board = s.board ∧ (setErrand e s).faults = s.faults ∧ (setErrand e s).jobs = s.jobs ∧ (setErrand e s).dockets = s.dockets ∧ (setErrand e s).roundDue = s.roundDue ∧ (setErrand e s).sensors = s.sensors ∧ (setErrand e s).bins = s.bins ∧ (setErrand e s).bays = s.bays ∧ (setErrand e s).health = s.health ∧ (setErrand e s).pageWaiters = s.pageWaiters ∧ (setErrand e s).engine = s.engine ∧ (setErrand e s).printer = s.printer ∧ (setErrand e s).event = s.event ∧ (setErrand e s).out = s.out := by
  unfold setErrand; (try dsimp only); (repeat' split) <;> simp

@[simp] theorem startMove_frame (target : Nat) (s : State) :
    (startMove target s).pending = s.pending ∧ (startMove target s).tower = s.tower ∧ (startMove target s).regs = s.regs ∧ (startMove target s).board = s.board ∧ (startMove target s).faults = s.faults ∧ (startMove target s).jobs = s.jobs ∧ (startMove target s).dockets = s.dockets ∧ (startMove target s).roundDue = s.roundDue ∧ (startMove target s).sensors = s.sensors ∧ (startMove target s).bins = s.bins ∧ (startMove target s).bays = s.bays ∧ (startMove target s).health = s.health ∧ (startMove target s).pageWaiters = s.pageWaiters ∧ (startMove target s).engine = s.engine ∧ (startMove target s).printer = s.printer ∧ (startMove target s).event = s.event ∧ (startMove target s).out = s.out := by
  unfold startMove; (try dsimp only); (repeat' split) <;> simp

@[simp] theorem stopLift_frame (s : State) :
    (stopLift s).pending = s.pending ∧ (stopLift s).tower = s.tower ∧ (stopLift s).regs = s.regs ∧ (stopLift s).board = s.board ∧ (stopLift s).faults = s.faults ∧ (stopLift s).jobs = s.jobs ∧ (stopLift s).dockets = s.dockets ∧ (stopLift s).roundDue = s.roundDue ∧ (stopLift s).sensors = s.sensors ∧ (stopLift s).bins = s.bins ∧ (stopLift s).bays = s.bays ∧ (stopLift s).health = s.health ∧ (stopLift s).pageWaiters = s.pageWaiters ∧ (stopLift s).engine = s.engine ∧ (stopLift s).printer = s.printer ∧ (stopLift s).event = s.event ∧ (stopLift s).out = s.out := by
  unfold stopLift; (try dsimp only); (repeat' split) <;> simp

@[simp] theorem stopMotors_frame (s : State) :
    (stopMotors s).pending = s.pending ∧ (stopMotors s).tower = s.tower ∧ (stopMotors s).regs = s.regs ∧ (stopMotors s).board = s.board ∧ (stopMotors s).faults = s.faults ∧ (stopMotors s).jobs = s.jobs ∧ (stopMotors s).dockets = s.dockets ∧ (stopMotors s).roundDue = s.roundDue ∧ (stopMotors s).sensors = s.sensors ∧ (stopMotors s).bins = s.bins ∧ (stopMotors s).bays = s.bays ∧ (stopMotors s).health = s.health ∧ (stopMotors s).pageWaiters = s.pageWaiters ∧ (stopMotors s).engine = s.engine ∧ (stopMotors s).printer = s.printer ∧ (stopMotors s).event = s.event ∧ (stopMotors s).out = s.out := by
  unfold stopMotors; (try dsimp only); (repeat' split) <;> simp

@[simp] theorem startHoming_frame (s : State) :
    (startHoming s).pending = s.pending ∧ (startHoming s).tower = s.tower ∧ (startHoming s).regs = s.regs ∧ (startHoming s).board = s.board ∧ (startHoming s).faults = s.faults ∧ (startHoming s).jobs = s.jobs ∧ (startHoming s).dockets = s.dockets ∧ (startHoming s).roundDue = s.roundDue ∧ (startHoming s).sensors = s.sensors ∧ (startHoming s).bins = s.bins ∧ (startHoming s).bays = s.bays ∧ (startHoming s).health = s.health ∧ (startHoming s).pageWaiters = s.pageWaiters ∧ (startHoming s).engine = s.engine ∧ (startHoming s).printer = s.printer ∧ (startHoming s).event = s.event ∧ (startHoming s).out = s.out := by
  unfold startHoming; (try dsimp only); (repeat' split) <;> simp

@[simp] theorem startGripper_frame (c : GripCommand) (s : State) :
    (startGripper c s).pending = s.pending ∧ (startGripper c s).tower = s.tower ∧ (startGripper c s).regs = s.regs ∧ (startGripper c s).board = s.board ∧ (startGripper c s).faults = s.faults ∧ (startGripper c s).jobs = s.jobs ∧ (startGripper c s).dockets = s.dockets ∧ (startGripper c s).roundDue = s.roundDue ∧ (startGripper c s).sensors = s.sensors ∧ (startGripper c s).bins = s.bins ∧ (startGripper c s).bays = s.bays ∧ (startGripper c s).health = s.health ∧ (startGripper c s).pageWaiters = s.pageWaiters ∧ (startGripper c s).engine = s.engine ∧ (startGripper c s).printer = s.printer ∧ (startGripper c s).event = s.event ∧ (startGripper c s).out = s.out := by
  unfold startGripper; (try dsimp only); (repeat' split) <;> simp

@[simp] theorem askTrayOpen_frame (b : BayNo) (p : Purpose) (s : State) :
    (askTrayOpen b p s).pending = s.pending ∧ (askTrayOpen b p s).tower = s.tower ∧ (askTrayOpen b p s).regs = s.regs ∧ (askTrayOpen b p s).board = s.board ∧ (askTrayOpen b p s).faults = s.faults ∧ (askTrayOpen b p s).jobs = s.jobs ∧ (askTrayOpen b p s).dockets = s.dockets ∧ (askTrayOpen b p s).roundDue = s.roundDue ∧ (askTrayOpen b p s).transport = s.transport ∧ (askTrayOpen b p s).sensors = s.sensors ∧ (askTrayOpen b p s).bins = s.bins ∧ (askTrayOpen b p s).health = s.health ∧ (askTrayOpen b p s).pageWaiters = s.pageWaiters ∧ (askTrayOpen b p s).printer = s.printer ∧ (askTrayOpen b p s).event = s.event := by
  unfold askTrayOpen; (try dsimp only); (repeat' split) <;> simp

@[simp] theorem askTrayClose_frame (b : BayNo) (s : State) :
    (askTrayClose b s).pending = s.pending ∧ (askTrayClose b s).tower = s.tower ∧ (askTrayClose b s).regs = s.regs ∧ (askTrayClose b s).board = s.board ∧ (askTrayClose b s).faults = s.faults ∧ (askTrayClose b s).jobs = s.jobs ∧ (askTrayClose b s).dockets = s.dockets ∧ (askTrayClose b s).roundDue = s.roundDue ∧ (askTrayClose b s).transport = s.transport ∧ (askTrayClose b s).sensors = s.sensors ∧ (askTrayClose b s).bins = s.bins ∧ (askTrayClose b s).health = s.health ∧ (askTrayClose b s).pageWaiters = s.pageWaiters ∧ (askTrayClose b s).printer = s.printer ∧ (askTrayClose b s).event = s.event := by
  unfold askTrayClose; (try dsimp only); (repeat' split) <;> simp

@[simp] theorem releaseBay_frame (b : BayNo) (s : State) :
    (releaseBay b s).pending = s.pending ∧ (releaseBay b s).tower = s.tower ∧ (releaseBay b s).regs = s.regs ∧ (releaseBay b s).board = s.board ∧ (releaseBay b s).jobs = s.jobs ∧ (releaseBay b s).dockets = s.dockets ∧ (releaseBay b s).transport = s.transport ∧ (releaseBay b s).sensors = s.sensors ∧ (releaseBay b s).bins = s.bins ∧ (releaseBay b s).pageWaiters = s.pageWaiters ∧ (releaseBay b s).printer = s.printer ∧ (releaseBay b s).event = s.event := by
  unfold releaseBay; (try dsimp only); (repeat' split) <;> simp

@[simp] theorem beginLeg_frame (leg : Leg) (s : State) :
    (beginLeg leg s).pending = s.pending ∧ (beginLeg leg s).tower = s.tower ∧ (beginLeg leg s).regs = s.regs ∧ (beginLeg leg s).board = s.board ∧ (beginLeg leg s).faults = s.faults ∧ (beginLeg leg s).jobs = s.jobs ∧ (beginLeg leg s).dockets = s.dockets ∧ (beginLeg leg s).roundDue = s.roundDue ∧ (beginLeg leg s).sensors = s.sensors ∧ (beginLeg leg s).bins = s.bins ∧ (beginLeg leg s).bays = s.bays ∧ (beginLeg leg s).health = s.health ∧ (beginLeg leg s).pageWaiters = s.pageWaiters ∧ (beginLeg leg s).engine = s.engine ∧ (beginLeg leg s).printer = s.printer ∧ (beginLeg leg s).event = s.event ∧ (beginLeg leg s).out = s.out := by
  unfold beginLeg; (try dsimp only); (repeat' split) <;> simp

@[simp] theorem endErrand_frame (s : State) :
    (endErrand s).pending = s.pending ∧ (endErrand s).tower = s.tower ∧ (endErrand s).regs = s.regs ∧ (endErrand s).board = s.board ∧ (endErrand s).faults = s.faults ∧ (endErrand s).jobs = s.jobs ∧ (endErrand s).dockets = s.dockets ∧ (endErrand s).roundDue = s.roundDue ∧ (endErrand s).sensors = s.sensors ∧ (endErrand s).bins = s.bins ∧ (endErrand s).bays = s.bays ∧ (endErrand s).health = s.health ∧ (endErrand s).pageWaiters = s.pageWaiters ∧ (endErrand s).printer = s.printer ∧ (endErrand s).event = s.event ∧ (endErrand s).out = s.out := by
  unfold endErrand; (try dsimp only); (repeat' split) <;> simp

@[simp] theorem haltTransport_frame (code : FaultCode) (bay : Option BayNo) (docket : Option DocketNo) (s : State) :
    (haltTransport code bay docket s).pending = s.pending ∧ (haltTransport code bay docket s).board = s.board ∧ (haltTransport code bay docket s).jobs = s.jobs ∧ (haltTransport code bay docket s).dockets = s.dockets ∧ (haltTransport code bay docket s).sensors = s.sensors ∧ (haltTransport code bay docket s).bins = s.bins ∧ (haltTransport code bay docket s).bays = s.bays ∧ (haltTransport code bay docket s).health = s.health ∧ (haltTransport code bay docket s).pageWaiters = s.pageWaiters ∧ (haltTransport code bay docket s).printer = s.printer ∧ (haltTransport code bay docket s).event = s.event := by
  unfold haltTransport; (try dsimp only); (repeat' split) <;> simp

@[simp] theorem transportFault_frame (code : FaultCode) (s : State) :
    (transportFault code s).pending = s.pending ∧ (transportFault code s).board = s.board ∧ (transportFault code s).jobs = s.jobs ∧ (transportFault code s).dockets = s.dockets ∧ (transportFault code s).sensors = s.sensors ∧ (transportFault code s).bins = s.bins ∧ (transportFault code s).bays = s.bays ∧ (transportFault code s).health = s.health ∧ (transportFault code s).pageWaiters = s.pageWaiters ∧ (transportFault code s).printer = s.printer ∧ (transportFault code s).event = s.event := by
  unfold transportFault; (try dsimp only); (repeat' split) <;> simp

@[simp] theorem setQueue_frame (q : List Task) (s : State) :
    (setQueue q s).pending = s.pending ∧ (setQueue q s).tower = s.tower ∧ (setQueue q s).regs = s.regs ∧ (setQueue q s).board = s.board ∧ (setQueue q s).faults = s.faults ∧ (setQueue q s).jobs = s.jobs ∧ (setQueue q s).dockets = s.dockets ∧ (setQueue q s).roundDue = s.roundDue ∧ (setQueue q s).sensors = s.sensors ∧ (setQueue q s).bins = s.bins ∧ (setQueue q s).bays = s.bays ∧ (setQueue q s).health = s.health ∧ (setQueue q s).pageWaiters = s.pageWaiters ∧ (setQueue q s).engine = s.engine ∧ (setQueue q s).printer = s.printer ∧ (setQueue q s).event = s.event ∧ (setQueue q s).out = s.out := by
  unfold setQueue; (try dsimp only); (repeat' split) <;> simp

@[simp] theorem queueTask_frame (d : DocketNo) (kind : TaskKind) (source dest : Station) (s : State) :
    (queueTask d kind source dest s).pending = s.pending ∧ (queueTask d kind source dest s).tower = s.tower ∧ (queueTask d kind source dest s).regs = s.regs ∧ (queueTask d kind source dest s).board = s.board ∧ (queueTask d kind source dest s).faults = s.faults ∧ (queueTask d kind source dest s).jobs = s.jobs ∧ (queueTask d kind source dest s).dockets = s.dockets ∧ (queueTask d kind source dest s).roundDue = s.roundDue ∧ (queueTask d kind source dest s).sensors = s.sensors ∧ (queueTask d kind source dest s).bins = s.bins ∧ (queueTask d kind source dest s).bays = s.bays ∧ (queueTask d kind source dest s).health = s.health ∧ (queueTask d kind source dest s).pageWaiters = s.pageWaiters ∧ (queueTask d kind source dest s).engine = s.engine ∧ (queueTask d kind source dest s).printer = s.printer ∧ (queueTask d kind source dest s).event = s.event ∧ (queueTask d kind source dest s).out = s.out := by
  unfold queueTask; (try dsimp only); (repeat' split) <;> simp

@[simp] theorem unqueueTask_frame (d : DocketNo) (s : State) :
    (unqueueTask d s).pending = s.pending ∧ (unqueueTask d s).tower = s.tower ∧ (unqueueTask d s).regs = s.regs ∧ (unqueueTask d s).board = s.board ∧ (unqueueTask d s).faults = s.faults ∧ (unqueueTask d s).jobs = s.jobs ∧ (unqueueTask d s).dockets = s.dockets ∧ (unqueueTask d s).roundDue = s.roundDue ∧ (unqueueTask d s).sensors = s.sensors ∧ (unqueueTask d s).bins = s.bins ∧ (unqueueTask d s).bays = s.bays ∧ (unqueueTask d s).health = s.health ∧ (unqueueTask d s).pageWaiters = s.pageWaiters ∧ (unqueueTask d s).engine = s.engine ∧ (unqueueTask d s).printer = s.printer ∧ (unqueueTask d s).event = s.event ∧ (unqueueTask d s).out = s.out := by
  unfold unqueueTask; (try dsimp only); (repeat' split) <;> simp

@[simp] theorem rejectQueued_frame (d : DocketNo) (s : State) :
    (rejectQueued d s).pending = s.pending ∧ (rejectQueued d s).tower = s.tower ∧ (rejectQueued d s).regs = s.regs ∧ (rejectQueued d s).board = s.board ∧ (rejectQueued d s).faults = s.faults ∧ (rejectQueued d s).jobs = s.jobs ∧ (rejectQueued d s).dockets = s.dockets ∧ (rejectQueued d s).roundDue = s.roundDue ∧ (rejectQueued d s).sensors = s.sensors ∧ (rejectQueued d s).bins = s.bins ∧ (rejectQueued d s).bays = s.bays ∧ (rejectQueued d s).health = s.health ∧ (rejectQueued d s).pageWaiters = s.pageWaiters ∧ (rejectQueued d s).engine = s.engine ∧ (rejectQueued d s).printer = s.printer ∧ (rejectQueued d s).event = s.event ∧ (rejectQueued d s).out = s.out := by
  unfold rejectQueued; (try dsimp only); (repeat' split) <;> simp

@[simp] theorem returnTask_frame (s : State) :
    (returnTask s).pending = s.pending ∧ (returnTask s).tower = s.tower ∧ (returnTask s).regs = s.regs ∧ (returnTask s).board = s.board ∧ (returnTask s).faults = s.faults ∧ (returnTask s).jobs = s.jobs ∧ (returnTask s).dockets = s.dockets ∧ (returnTask s).roundDue = s.roundDue ∧ (returnTask s).sensors = s.sensors ∧ (returnTask s).bins = s.bins ∧ (returnTask s).bays = s.bays ∧ (returnTask s).health = s.health ∧ (returnTask s).pageWaiters = s.pageWaiters ∧ (returnTask s).printer = s.printer ∧ (returnTask s).event = s.event ∧ (returnTask s).out = s.out := by
  unfold returnTask; (try dsimp only); (repeat' split) <;> simp

@[simp] theorem returnToEnd_frame (s : State) :
    (returnToEnd s).pending = s.pending ∧ (returnToEnd s).tower = s.tower ∧ (returnToEnd s).regs = s.regs ∧ (returnToEnd s).board = s.board ∧ (returnToEnd s).faults = s.faults ∧ (returnToEnd s).jobs = s.jobs ∧ (returnToEnd s).dockets = s.dockets ∧ (returnToEnd s).roundDue = s.roundDue ∧ (returnToEnd s).sensors = s.sensors ∧ (returnToEnd s).bins = s.bins ∧ (returnToEnd s).bays = s.bays ∧ (returnToEnd s).health = s.health ∧ (returnToEnd s).pageWaiters = s.pageWaiters ∧ (returnToEnd s).printer = s.printer ∧ (returnToEnd s).event = s.event ∧ (returnToEnd s).out = s.out := by
  unfold returnToEnd; (try dsimp only); (repeat' split) <;> simp

@[simp] theorem sendHalt_frame (b : BayNo) (s : State) :
    (sendHalt b s).pending = s.pending ∧ (sendHalt b s).tower = s.tower ∧ (sendHalt b s).regs = s.regs ∧ (sendHalt b s).board = s.board ∧ (sendHalt b s).faults = s.faults ∧ (sendHalt b s).jobs = s.jobs ∧ (sendHalt b s).dockets = s.dockets ∧ (sendHalt b s).roundDue = s.roundDue ∧ (sendHalt b s).transport = s.transport ∧ (sendHalt b s).sensors = s.sensors ∧ (sendHalt b s).bins = s.bins ∧ (sendHalt b s).health = s.health ∧ (sendHalt b s).pageWaiters = s.pageWaiters ∧ (sendHalt b s).engine = s.engine ∧ (sendHalt b s).printer = s.printer ∧ (sendHalt b s).event = s.event := by
  unfold sendHalt; (try dsimp only); (repeat' split) <;> simp

@[simp] theorem stopWork_frame (halt : Bool) (r : Docket) (s : State) :
    (stopWork halt r s).pending = s.pending ∧ (stopWork halt r s).tower = s.tower ∧ (stopWork halt r s).regs = s.regs ∧ (stopWork halt r s).board = s.board ∧ (stopWork halt r s).faults = s.faults ∧ (stopWork halt r s).jobs = s.jobs ∧ (stopWork halt r s).dockets = s.dockets ∧ (stopWork halt r s).roundDue = s.roundDue ∧ (stopWork halt r s).transport = s.transport ∧ (stopWork halt r s).sensors = s.sensors ∧ (stopWork halt r s).bins = s.bins ∧ (stopWork halt r s).health = s.health ∧ (stopWork halt r s).engine = s.engine ∧ (stopWork halt r s).printer = s.printer ∧ (stopWork halt r s).event = s.event := by
  unfold stopWork; (try dsimp only); (repeat' split) <;> simp

@[simp] theorem giveCause_frame (halt : Bool) (d : DocketNo) (c : Cause) (s : State) :
    (giveCause halt d c s).pending = s.pending ∧ (giveCause halt d c s).tower = s.tower ∧ (giveCause halt d c s).regs = s.regs ∧ (giveCause halt d c s).board = s.board ∧ (giveCause halt d c s).faults = s.faults ∧ (giveCause halt d c s).jobs = s.jobs ∧ (giveCause halt d c s).roundDue = s.roundDue ∧ (giveCause halt d c s).sensors = s.sensors ∧ (giveCause halt d c s).bins = s.bins ∧ (giveCause halt d c s).health = s.health ∧ (giveCause halt d c s).engine = s.engine ∧ (giveCause halt d c s).printer = s.printer ∧ (giveCause halt d c s).event = s.event := by
  unfold giveCause; (try dsimp only); (repeat' split) <;> simp

@[simp] theorem giveGood_frame (d : DocketNo) (s : State) :
    (giveGood d s).pending = s.pending ∧ (giveGood d s).tower = s.tower ∧ (giveGood d s).regs = s.regs ∧ (giveGood d s).board = s.board ∧ (giveGood d s).faults = s.faults ∧ (giveGood d s).jobs = s.jobs ∧ (giveGood d s).roundDue = s.roundDue ∧ (giveGood d s).transport = s.transport ∧ (giveGood d s).sensors = s.sensors ∧ (giveGood d s).bins = s.bins ∧ (giveGood d s).bays = s.bays ∧ (giveGood d s).health = s.health ∧ (giveGood d s).pageWaiters = s.pageWaiters ∧ (giveGood d s).engine = s.engine ∧ (giveGood d s).printer = s.printer ∧ (giveGood d s).event = s.event ∧ (giveGood d s).out = s.out := by
  unfold giveGood; (try dsimp only); (repeat' split) <;> simp

@[simp] theorem setDocketState_frame (d : DocketNo) (st : DocketState) (s : State) :
    (setDocketState d st s).pending = s.pending ∧ (setDocketState d st s).tower = s.tower ∧ (setDocketState d st s).regs = s.regs ∧ (setDocketState d st s).board = s.board ∧ (setDocketState d st s).faults = s.faults ∧ (setDocketState d st s).jobs = s.jobs ∧ (setDocketState d st s).roundDue = s.roundDue ∧ (setDocketState d st s).transport = s.transport ∧ (setDocketState d st s).sensors = s.sensors ∧ (setDocketState d st s).bins = s.bins ∧ (setDocketState d st s).bays = s.bays ∧ (setDocketState d st s).health = s.health ∧ (setDocketState d st s).pageWaiters = s.pageWaiters ∧ (setDocketState d st s).engine = s.engine ∧ (setDocketState d st s).printer = s.printer ∧ (setDocketState d st s).event = s.event ∧ (setDocketState d st s).out = s.out := by
  unfold setDocketState; (try dsimp only); (repeat' split) <;> simp

@[simp] theorem endJob_frame (j : SlotNo) (s : State) :
    (endJob j s).pending = s.pending ∧ (endJob j s).tower = s.tower ∧ (endJob j s).regs = s.regs ∧ (endJob j s).board = s.board ∧ (endJob j s).faults = s.faults ∧ (endJob j s).dockets = s.dockets ∧ (endJob j s).roundDue = s.roundDue ∧ (endJob j s).transport = s.transport ∧ (endJob j s).sensors = s.sensors ∧ (endJob j s).bins = s.bins ∧ (endJob j s).bays = s.bays ∧ (endJob j s).health = s.health ∧ (endJob j s).pageWaiters = s.pageWaiters ∧ (endJob j s).printer = s.printer ∧ (endJob j s).event = s.event ∧ (endJob j s).out = s.out := by
  unfold endJob; (try dsimp only); (repeat' split) <;> simp

@[simp] theorem endIfStopped_frame (j : SlotNo) (s : State) :
    (endIfStopped j s).pending = s.pending ∧ (endIfStopped j s).tower = s.tower ∧ (endIfStopped j s).regs = s.regs ∧ (endIfStopped j s).board = s.board ∧ (endIfStopped j s).faults = s.faults ∧ (endIfStopped j s).dockets = s.dockets ∧ (endIfStopped j s).roundDue = s.roundDue ∧ (endIfStopped j s).transport = s.transport ∧ (endIfStopped j s).sensors = s.sensors ∧ (endIfStopped j s).bins = s.bins ∧ (endIfStopped j s).bays = s.bays ∧ (endIfStopped j s).health = s.health ∧ (endIfStopped j s).pageWaiters = s.pageWaiters ∧ (endIfStopped j s).printer = s.printer ∧ (endIfStopped j s).event = s.event ∧ (endIfStopped j s).out = s.out := by
  unfold endIfStopped; (try dsimp only); (repeat' split) <;> simp

@[simp] theorem land_frame (d : DocketNo) (place : Option Place) (bin : Option OutputBin) (s : State) :
    (land d place bin s).pending = s.pending ∧ (land d place bin s).tower = s.tower ∧ (land d place bin s).regs = s.regs ∧ (land d place bin s).board = s.board ∧ (land d place bin s).faults = s.faults ∧ (land d place bin s).jobs = s.jobs ∧ (land d place bin s).roundDue = s.roundDue ∧ (land d place bin s).transport = s.transport ∧ (land d place bin s).sensors = s.sensors ∧ (land d place bin s).bins = s.bins ∧ (land d place bin s).bays = s.bays ∧ (land d place bin s).health = s.health ∧ (land d place bin s).pageWaiters = s.pageWaiters ∧ (land d place bin s).printer = s.printer ∧ (land d place bin s).event = s.event ∧ (land d place bin s).out = s.out := by
  unfold land; (try dsimp only); (repeat' split) <;> simp

@[simp] theorem loseDisc_frame (dropped : Bool) (d : DocketNo) (place : Place) (s : State) :
    (loseDisc dropped d place s).pending = s.pending ∧ (loseDisc dropped d place s).tower = s.tower ∧ (loseDisc dropped d place s).regs = s.regs ∧ (loseDisc dropped d place s).board = s.board ∧ (loseDisc dropped d place s).jobs = s.jobs ∧ (loseDisc dropped d place s).sensors = s.sensors ∧ (loseDisc dropped d place s).bins = s.bins ∧ (loseDisc dropped d place s).event = s.event := by
  unfold loseDisc; (try dsimp only); (repeat' split) <;> simp

@[simp] theorem stopPick_frame (s : State) :
    (stopPick s).pending = s.pending ∧ (stopPick s).tower = s.tower ∧ (stopPick s).regs = s.regs ∧ (stopPick s).board = s.board ∧ (stopPick s).faults = s.faults ∧ (stopPick s).jobs = s.jobs ∧ (stopPick s).dockets = s.dockets ∧ (stopPick s).roundDue = s.roundDue ∧ (stopPick s).sensors = s.sensors ∧ (stopPick s).bins = s.bins ∧ (stopPick s).bays = s.bays ∧ (stopPick s).health = s.health ∧ (stopPick s).pageWaiters = s.pageWaiters ∧ (stopPick s).printer = s.printer ∧ (stopPick s).event = s.event ∧ (stopPick s).out = s.out := by
  unfold stopPick; (try dsimp only); (repeat' split) <;> simp

@[simp] theorem forgetDissolved_frame (d : DocketNo) (j : SlotNo) (s : State) :
    (forgetDissolved d j s).pending = s.pending ∧ (forgetDissolved d j s).tower = s.tower ∧ (forgetDissolved d j s).regs = s.regs ∧ (forgetDissolved d j s).board = s.board ∧ (forgetDissolved d j s).faults = s.faults ∧ (forgetDissolved d j s).transport = s.transport ∧ (forgetDissolved d j s).sensors = s.sensors ∧ (forgetDissolved d j s).bins = s.bins ∧ (forgetDissolved d j s).bays = s.bays ∧ (forgetDissolved d j s).health = s.health ∧ (forgetDissolved d j s).pageWaiters = s.pageWaiters ∧ (forgetDissolved d j s).printer = s.printer ∧ (forgetDissolved d j s).event = s.event ∧ (forgetDissolved d j s).out = s.out := by
  unfold forgetDissolved; (try dsimp only); (repeat' split) <;> simp

@[simp] theorem dissolve_frame (d : DocketNo) (s : State) :
    (dissolve d s).pending = s.pending ∧ (dissolve d s).tower = s.tower ∧ (dissolve d s).regs = s.regs ∧ (dissolve d s).board = s.board ∧ (dissolve d s).sensors = s.sensors ∧ (dissolve d s).bins = s.bins ∧ (dissolve d s).pageWaiters = s.pageWaiters ∧ (dissolve d s).printer = s.printer ∧ (dissolve d s).event = s.event := by
  unfold dissolve; (try dsimp only); (repeat' split) <;> simp

@[simp] theorem redirectArm_frame (s : State) :
    (redirectArm s).pending = s.pending ∧ (redirectArm s).tower = s.tower ∧ (redirectArm s).regs = s.regs ∧ (redirectArm s).board = s.board ∧ (redirectArm s).faults = s.faults ∧ (redirectArm s).jobs = s.jobs ∧ (redirectArm s).dockets = s.dockets ∧ (redirectArm s).roundDue = s.roundDue ∧ (redirectArm s).sensors = s.sensors ∧ (redirectArm s).bins = s.bins ∧ (redirectArm s).bays = s.bays ∧ (redirectArm s).health = s.health ∧ (redirectArm s).pageWaiters = s.pageWaiters ∧ (redirectArm s).engine = s.engine ∧ (redirectArm s).printer = s.printer ∧ (redirectArm s).event = s.event ∧ (redirectArm s).out = s.out := by
  unfold redirectArm; (try dsimp only); (repeat' split) <;> simp

@[simp] theorem reroute_frame (d : DocketNo) (c : Cause) (s : State) :
    (reroute d c s).pending = s.pending ∧ (reroute d c s).tower = s.tower ∧ (reroute d c s).regs = s.regs ∧ (reroute d c s).board = s.board ∧ (reroute d c s).jobs = s.jobs ∧ (reroute d c s).sensors = s.sensors ∧ (reroute d c s).bins = s.bins ∧ (reroute d c s).printer = s.printer ∧ (reroute d c s).event = s.event := by
  unfold reroute; (try dsimp only); (repeat' split) <;> simp

@[simp] theorem stopDocket_frame (c : Cause) (d : DocketNo) (s : State) :
    (stopDocket c d s).pending = s.pending ∧ (stopDocket c d s).tower = s.tower ∧ (stopDocket c d s).regs = s.regs ∧ (stopDocket c d s).board = s.board ∧ (stopDocket c d s).sensors = s.sensors ∧ (stopDocket c d s).bins = s.bins ∧ (stopDocket c d s).printer = s.printer ∧ (stopDocket c d s).event = s.event := by
  unfold stopDocket; (try dsimp only); (repeat' split) <;> simp

@[simp] theorem stopJob_frame (j : SlotNo) (outcome : JobOutcome) (fail : Cause) (given : Cause) (s : State) :
    (stopJob j outcome fail given s).pending = s.pending ∧ (stopJob j outcome fail given s).tower = s.tower ∧ (stopJob j outcome fail given s).regs = s.regs ∧ (stopJob j outcome fail given s).board = s.board ∧ (stopJob j outcome fail given s).sensors = s.sensors ∧ (stopJob j outcome fail given s).bins = s.bins ∧ (stopJob j outcome fail given s).printer = s.printer ∧ (stopJob j outcome fail given s).event = s.event := by
  unfold stopJob; split
  · simp
  · split
    · dsimp only
      have h : ∀ (l : List DocketNo) (u : State), (l.foldl (fun u d => stopDocket given d u) u).pending = u.pending ∧ (l.foldl (fun u d => stopDocket given d u) u).tower = u.tower ∧ (l.foldl (fun u d => stopDocket given d u) u).regs = u.regs ∧ (l.foldl (fun u d => stopDocket given d u) u).board = u.board ∧ (l.foldl (fun u d => stopDocket given d u) u).sensors = u.sensors ∧ (l.foldl (fun u d => stopDocket given d u) u).bins = u.bins ∧ (l.foldl (fun u d => stopDocket given d u) u).printer = u.printer ∧ (l.foldl (fun u d => stopDocket given d u) u).event = u.event := by
        intro l u; exact ⟨(foldl_same (fun u : State => u.pending) _ (by intro a b; (try split) <;> simp) _ _).trans (by simp), (foldl_same (fun u : State => u.tower) _ (by intro a b; (try split) <;> simp) _ _).trans (by simp), (foldl_same (fun u : State => u.regs) _ (by intro a b; (try split) <;> simp) _ _).trans (by simp), (foldl_same (fun u : State => u.board) _ (by intro a b; (try split) <;> simp) _ _).trans (by simp), (foldl_same (fun u : State => u.sensors) _ (by intro a b; (try split) <;> simp) _ _).trans (by simp), (foldl_same (fun u : State => u.bins) _ (by intro a b; (try split) <;> simp) _ _).trans (by simp), (foldl_same (fun u : State => u.printer) _ (by intro a b; (try split) <;> simp) _ _).trans (by simp), (foldl_same (fun u : State => u.event) _ (by intro a b; (try split) <;> simp) _ _).trans (by simp)⟩
      (repeat' split) <;> simp [h]
    · simp

@[simp] theorem failJob_frame (d : DocketNo) (c : Cause) (s : State) :
    (failJob d c s).pending = s.pending ∧ (failJob d c s).tower = s.tower ∧ (failJob d c s).regs = s.regs ∧ (failJob d c s).board = s.board ∧ (failJob d c s).sensors = s.sensors ∧ (failJob d c s).bins = s.bins ∧ (failJob d c s).printer = s.printer ∧ (failJob d c s).event = s.event := by
  unfold failJob; (try dsimp only); (repeat' split) <;> simp

@[simp] theorem decideLanding_frame (j : SlotNo) (s : State) :
    (decideLanding j s).pending = s.pending ∧ (decideLanding j s).tower = s.tower ∧ (decideLanding j s).regs = s.regs ∧ (decideLanding j s).board = s.board ∧ (decideLanding j s).sensors = s.sensors ∧ (decideLanding j s).bins = s.bins ∧ (decideLanding j s).printer = s.printer ∧ (decideLanding j s).event = s.event := by
  unfold decideLanding; (try dsimp only); (repeat' split) <;> simp

@[simp] theorem toRejectWait_frame (d : DocketNo) (s : State) :
    (toRejectWait d s).pending = s.pending ∧ (toRejectWait d s).tower = s.tower ∧ (toRejectWait d s).regs = s.regs ∧ (toRejectWait d s).board = s.board ∧ (toRejectWait d s).faults = s.faults ∧ (toRejectWait d s).jobs = s.jobs ∧ (toRejectWait d s).roundDue = s.roundDue ∧ (toRejectWait d s).sensors = s.sensors ∧ (toRejectWait d s).bins = s.bins ∧ (toRejectWait d s).bays = s.bays ∧ (toRejectWait d s).health = s.health ∧ (toRejectWait d s).pageWaiters = s.pageWaiters ∧ (toRejectWait d s).engine = s.engine ∧ (toRejectWait d s).printer = s.printer ∧ (toRejectWait d s).event = s.event ∧ (toRejectWait d s).out = s.out := by
  unfold toRejectWait; (try dsimp only); (repeat' split) <;> simp

@[simp] theorem handOff_frame (b : BayNo) (d : DocketNo) (s : State) :
    (handOff b d s).pending = s.pending ∧ (handOff b d s).tower = s.tower ∧ (handOff b d s).regs = s.regs ∧ (handOff b d s).board = s.board ∧ (handOff b d s).faults = s.faults ∧ (handOff b d s).roundDue = s.roundDue ∧ (handOff b d s).sensors = s.sensors ∧ (handOff b d s).bins = s.bins ∧ (handOff b d s).health = s.health ∧ (handOff b d s).printer = s.printer ∧ (handOff b d s).event = s.event ∧ (handOff b d s).out = s.out := by
  unfold handOff; (try dsimp only); (repeat' split) <;> simp

@[simp] theorem resetErrand_frame (b : BayNo) (s : State) :
    (resetErrand b s).pending = s.pending ∧ (resetErrand b s).tower = s.tower ∧ (resetErrand b s).regs = s.regs ∧ (resetErrand b s).board = s.board ∧ (resetErrand b s).faults = s.faults ∧ (resetErrand b s).jobs = s.jobs ∧ (resetErrand b s).dockets = s.dockets ∧ (resetErrand b s).roundDue = s.roundDue ∧ (resetErrand b s).sensors = s.sensors ∧ (resetErrand b s).bins = s.bins ∧ (resetErrand b s).health = s.health ∧ (resetErrand b s).pageWaiters = s.pageWaiters ∧ (resetErrand b s).printer = s.printer ∧ (resetErrand b s).event = s.event ∧ (resetErrand b s).out = s.out := by
  unfold resetErrand; (try dsimp only); (repeat' split) <;> simp

@[simp] theorem resetDocket_frame (b : BayNo) (s : State) :
    (resetDocket b s).pending = s.pending ∧ (resetDocket b s).tower = s.tower ∧ (resetDocket b s).regs = s.regs ∧ (resetDocket b s).board = s.board ∧ (resetDocket b s).sensors = s.sensors ∧ (resetDocket b s).bins = s.bins ∧ (resetDocket b s).printer = s.printer ∧ (resetDocket b s).event = s.event := by
  unfold resetDocket; (try dsimp only); (repeat' split) <;> simp

@[simp] theorem startReset_frame (b : BayNo) (s : State) :
    (startReset b s).pending = s.pending ∧ (startReset b s).tower = s.tower ∧ (startReset b s).regs = s.regs ∧ (startReset b s).board = s.board ∧ (startReset b s).sensors = s.sensors ∧ (startReset b s).bins = s.bins ∧ (startReset b s).printer = s.printer ∧ (startReset b s).event = s.event := by
  unfold startReset; (try dsimp only); (repeat' split) <;> simp

@[simp] theorem discover_frame (p : Purpose) (b : BayNo) (s : State) :
    (discover p b s).pending = s.pending ∧ (discover p b s).tower = s.tower ∧ (discover p b s).regs = s.regs ∧ (discover p b s).board = s.board ∧ (discover p b s).faults = s.faults ∧ (discover p b s).jobs = s.jobs ∧ (discover p b s).dockets = s.dockets ∧ (discover p b s).roundDue = s.roundDue ∧ (discover p b s).transport = s.transport ∧ (discover p b s).sensors = s.sensors ∧ (discover p b s).bins = s.bins ∧ (discover p b s).health = s.health ∧ (discover p b s).pageWaiters = s.pageWaiters ∧ (discover p b s).printer = s.printer ∧ (discover p b s).event = s.event := by
  unfold discover; (try dsimp only); (repeat' split) <;> simp

@[simp] theorem leaveDiscovering_frame (v : Bool) (b : BayNo) (s : State) :
    (leaveDiscovering v b s).pending = s.pending ∧ (leaveDiscovering v b s).tower = s.tower ∧ (leaveDiscovering v b s).regs = s.regs ∧ (leaveDiscovering v b s).board = s.board ∧ (leaveDiscovering v b s).jobs = s.jobs ∧ (leaveDiscovering v b s).dockets = s.dockets ∧ (leaveDiscovering v b s).transport = s.transport ∧ (leaveDiscovering v b s).sensors = s.sensors ∧ (leaveDiscovering v b s).bins = s.bins ∧ (leaveDiscovering v b s).pageWaiters = s.pageWaiters ∧ (leaveDiscovering v b s).printer = s.printer ∧ (leaveDiscovering v b s).event = s.event := by
  unfold leaveDiscovering; (try dsimp only); (repeat' split) <;> simp

@[simp] theorem onIdentity_frame (b : BayNo) (drive : Drive) (s : State) :
    (onIdentity b drive s).pending = s.pending ∧ (onIdentity b drive s).tower = s.tower ∧ (onIdentity b drive s).regs = s.regs ∧ (onIdentity b drive s).board = s.board ∧ (onIdentity b drive s).jobs = s.jobs ∧ (onIdentity b drive s).dockets = s.dockets ∧ (onIdentity b drive s).transport = s.transport ∧ (onIdentity b drive s).sensors = s.sensors ∧ (onIdentity b drive s).bins = s.bins ∧ (onIdentity b drive s).pageWaiters = s.pageWaiters ∧ (onIdentity b drive s).printer = s.printer ∧ (onIdentity b drive s).event = s.event := by
  unfold onIdentity; (try dsimp only); (repeat' split) <;> simp

@[simp] theorem onTrayOpen_frame (b : BayNo) (s : State) :
    (onTrayOpen b s).pending = s.pending ∧ (onTrayOpen b s).tower = s.tower ∧ (onTrayOpen b s).regs = s.regs ∧ (onTrayOpen b s).board = s.board ∧ (onTrayOpen b s).faults = s.faults ∧ (onTrayOpen b s).jobs = s.jobs ∧ (onTrayOpen b s).roundDue = s.roundDue ∧ (onTrayOpen b s).sensors = s.sensors ∧ (onTrayOpen b s).bins = s.bins ∧ (onTrayOpen b s).health = s.health ∧ (onTrayOpen b s).pageWaiters = s.pageWaiters ∧ (onTrayOpen b s).printer = s.printer ∧ (onTrayOpen b s).event = s.event := by
  unfold onTrayOpen; (try dsimp only); (repeat' split) <;> simp

@[simp] theorem bayEmptied_frame (b : BayNo) (s : State) :
    (bayEmptied b s).pending = s.pending ∧ (bayEmptied b s).tower = s.tower ∧ (bayEmptied b s).regs = s.regs ∧ (bayEmptied b s).board = s.board ∧ (bayEmptied b s).jobs = s.jobs ∧ (bayEmptied b s).dockets = s.dockets ∧ (bayEmptied b s).transport = s.transport ∧ (bayEmptied b s).sensors = s.sensors ∧ (bayEmptied b s).bins = s.bins ∧ (bayEmptied b s).pageWaiters = s.pageWaiters ∧ (bayEmptied b s).printer = s.printer ∧ (bayEmptied b s).event = s.event := by
  unfold bayEmptied; (try dsimp only); (repeat' split) <;> simp

@[simp] theorem onTrayClosed_frame (b : BayNo) (s : State) :
    (onTrayClosed b s).pending = s.pending ∧ (onTrayClosed b s).tower = s.tower ∧ (onTrayClosed b s).regs = s.regs ∧ (onTrayClosed b s).board = s.board ∧ (onTrayClosed b s).jobs = s.jobs ∧ (onTrayClosed b s).dockets = s.dockets ∧ (onTrayClosed b s).transport = s.transport ∧ (onTrayClosed b s).sensors = s.sensors ∧ (onTrayClosed b s).bins = s.bins ∧ (onTrayClosed b s).pageWaiters = s.pageWaiters ∧ (onTrayClosed b s).printer = s.printer ∧ (onTrayClosed b s).event = s.event := by
  unfold onTrayClosed; (try dsimp only); (repeat' split) <;> simp

@[simp] theorem openBurn_frame (b : BayNo) (d : DocketNo) (j : Job) (s : State) :
    (openBurn b d j s).pending = s.pending ∧ (openBurn b d j s).tower = s.tower ∧ (openBurn b d j s).regs = s.regs ∧ (openBurn b d j s).board = s.board ∧ (openBurn b d j s).faults = s.faults ∧ (openBurn b d j s).jobs = s.jobs ∧ (openBurn b d j s).roundDue = s.roundDue ∧ (openBurn b d j s).transport = s.transport ∧ (openBurn b d j s).sensors = s.sensors ∧ (openBurn b d j s).bins = s.bins ∧ (openBurn b d j s).health = s.health ∧ (openBurn b d j s).pageWaiters = s.pageWaiters ∧ (openBurn b d j s).printer = s.printer ∧ (openBurn b d j s).event = s.event := by
  unfold openBurn; (try dsimp only); (repeat' split) <;> simp

@[simp] theorem mediaSeated_frame (b : BayNo) (d : DocketNo) (r : Docket) (kind : MediaKind) (cls : MediaClass) (capacity : Nat) (s : State) :
    (mediaSeated b d r kind cls capacity s).pending = s.pending ∧ (mediaSeated b d r kind cls capacity s).tower = s.tower ∧ (mediaSeated b d r kind cls capacity s).regs = s.regs ∧ (mediaSeated b d r kind cls capacity s).board = s.board ∧ (mediaSeated b d r kind cls capacity s).sensors = s.sensors ∧ (mediaSeated b d r kind cls capacity s).bins = s.bins ∧ (mediaSeated b d r kind cls capacity s).printer = s.printer ∧ (mediaSeated b d r kind cls capacity s).event = s.event := by
  unfold mediaSeated; (try dsimp only); (repeat' split) <;> simp

@[simp] theorem listForSweep_frame (b : BayNo) (s : State) :
    (listForSweep b s).pending = s.pending ∧ (listForSweep b s).tower = s.tower ∧ (listForSweep b s).regs = s.regs ∧ (listForSweep b s).board = s.board ∧ (listForSweep b s).faults = s.faults ∧ (listForSweep b s).jobs = s.jobs ∧ (listForSweep b s).dockets = s.dockets ∧ (listForSweep b s).roundDue = s.roundDue ∧ (listForSweep b s).sensors = s.sensors ∧ (listForSweep b s).bins = s.bins ∧ (listForSweep b s).bays = s.bays ∧ (listForSweep b s).health = s.health ∧ (listForSweep b s).pageWaiters = s.pageWaiters ∧ (listForSweep b s).engine = s.engine ∧ (listForSweep b s).printer = s.printer ∧ (listForSweep b s).event = s.event ∧ (listForSweep b s).out = s.out := by
  unfold listForSweep; (try dsimp only); (repeat' split) <;> simp

@[simp] theorem endSweepProbe_frame (b : BayNo) (s : State) :
    (endSweepProbe b s).pending = s.pending ∧ (endSweepProbe b s).tower = s.tower ∧ (endSweepProbe b s).regs = s.regs ∧ (endSweepProbe b s).board = s.board ∧ (endSweepProbe b s).jobs = s.jobs ∧ (endSweepProbe b s).dockets = s.dockets ∧ (endSweepProbe b s).transport = s.transport ∧ (endSweepProbe b s).sensors = s.sensors ∧ (endSweepProbe b s).bins = s.bins ∧ (endSweepProbe b s).pageWaiters = s.pageWaiters ∧ (endSweepProbe b s).printer = s.printer ∧ (endSweepProbe b s).event = s.event := by
  unfold endSweepProbe; (try dsimp only); (repeat' split) <;> simp

@[simp] theorem onMedia_frame (b : BayNo) (kind : MediaKind) (cls : MediaClass) (capacity : Nat) (s : State) :
    (onMedia b kind cls capacity s).pending = s.pending ∧ (onMedia b kind cls capacity s).tower = s.tower ∧ (onMedia b kind cls capacity s).regs = s.regs ∧ (onMedia b kind cls capacity s).board = s.board ∧ (onMedia b kind cls capacity s).sensors = s.sensors ∧ (onMedia b kind cls capacity s).bins = s.bins ∧ (onMedia b kind cls capacity s).printer = s.printer ∧ (onMedia b kind cls capacity s).event = s.event := by
  unfold onMedia; (try dsimp only); (repeat' split) <;> simp

@[simp] theorem onCredit_frame (b : BayNo) (n : Nat) (s : State) :
    (onCredit b n s).pending = s.pending ∧ (onCredit b n s).tower = s.tower ∧ (onCredit b n s).regs = s.regs ∧ (onCredit b n s).board = s.board ∧ (onCredit b n s).faults = s.faults ∧ (onCredit b n s).jobs = s.jobs ∧ (onCredit b n s).dockets = s.dockets ∧ (onCredit b n s).roundDue = s.roundDue ∧ (onCredit b n s).transport = s.transport ∧ (onCredit b n s).sensors = s.sensors ∧ (onCredit b n s).bins = s.bins ∧ (onCredit b n s).health = s.health ∧ (onCredit b n s).pageWaiters = s.pageWaiters ∧ (onCredit b n s).engine = s.engine ∧ (onCredit b n s).printer = s.printer ∧ (onCredit b n s).event = s.event ∧ (onCredit b n s).out = s.out := by
  unfold onCredit; (try dsimp only); (repeat' split) <;> simp

@[simp] theorem groupWritten_frame (d : DocketNo) (s : State) :
    (groupWritten d s).pending = s.pending ∧ (groupWritten d s).tower = s.tower ∧ (groupWritten d s).regs = s.regs ∧ (groupWritten d s).board = s.board ∧ (groupWritten d s).faults = s.faults ∧ (groupWritten d s).jobs = s.jobs ∧ (groupWritten d s).roundDue = s.roundDue ∧ (groupWritten d s).transport = s.transport ∧ (groupWritten d s).sensors = s.sensors ∧ (groupWritten d s).bins = s.bins ∧ (groupWritten d s).bays = s.bays ∧ (groupWritten d s).health = s.health ∧ (groupWritten d s).pageWaiters = s.pageWaiters ∧ (groupWritten d s).engine = s.engine ∧ (groupWritten d s).printer = s.printer ∧ (groupWritten d s).event = s.event ∧ (groupWritten d s).out = s.out := by
  unfold groupWritten; (try dsimp only); (repeat' split) <;> simp

@[simp] theorem closeBurn_frame (b : BayNo) (d : DocketNo) (c : Burn) (s : State) :
    (closeBurn b d c s).pending = s.pending ∧ (closeBurn b d c s).tower = s.tower ∧ (closeBurn b d c s).regs = s.regs ∧ (closeBurn b d c s).board = s.board ∧ (closeBurn b d c s).faults = s.faults ∧ (closeBurn b d c s).jobs = s.jobs ∧ (closeBurn b d c s).roundDue = s.roundDue ∧ (closeBurn b d c s).transport = s.transport ∧ (closeBurn b d c s).sensors = s.sensors ∧ (closeBurn b d c s).bins = s.bins ∧ (closeBurn b d c s).health = s.health ∧ (closeBurn b d c s).pageWaiters = s.pageWaiters ∧ (closeBurn b d c s).printer = s.printer ∧ (closeBurn b d c s).event = s.event := by
  unfold closeBurn; (try dsimp only); (repeat' split) <;> simp

@[simp] theorem onWritten_frame (b : BayNo) (g : Nat) (s : State) :
    (onWritten b g s).pending = s.pending ∧ (onWritten b g s).tower = s.tower ∧ (onWritten b g s).regs = s.regs ∧ (onWritten b g s).board = s.board ∧ (onWritten b g s).faults = s.faults ∧ (onWritten b g s).jobs = s.jobs ∧ (onWritten b g s).roundDue = s.roundDue ∧ (onWritten b g s).transport = s.transport ∧ (onWritten b g s).sensors = s.sensors ∧ (onWritten b g s).bins = s.bins ∧ (onWritten b g s).health = s.health ∧ (onWritten b g s).pageWaiters = s.pageWaiters ∧ (onWritten b g s).printer = s.printer ∧ (onWritten b g s).event = s.event := by
  unfold onWritten; (try dsimp only); (repeat' split) <;> simp

@[simp] theorem onStarvedLinked_frame (b : BayNo) (s : State) :
    (onStarvedLinked b s).pending = s.pending ∧ (onStarvedLinked b s).tower = s.tower ∧ (onStarvedLinked b s).regs = s.regs ∧ (onStarvedLinked b s).board = s.board ∧ (onStarvedLinked b s).faults = s.faults ∧ (onStarvedLinked b s).jobs = s.jobs ∧ (onStarvedLinked b s).roundDue = s.roundDue ∧ (onStarvedLinked b s).sensors = s.sensors ∧ (onStarvedLinked b s).bins = s.bins ∧ (onStarvedLinked b s).health = s.health ∧ (onStarvedLinked b s).engine = s.engine ∧ (onStarvedLinked b s).printer = s.printer ∧ (onStarvedLinked b s).event = s.event := by
  unfold onStarvedLinked; (try dsimp only); (repeat' split) <;> simp

@[simp] theorem onStarvedFailed_frame (b : BayNo) (s : State) :
    (onStarvedFailed b s).pending = s.pending ∧ (onStarvedFailed b s).tower = s.tower ∧ (onStarvedFailed b s).regs = s.regs ∧ (onStarvedFailed b s).board = s.board ∧ (onStarvedFailed b s).faults = s.faults ∧ (onStarvedFailed b s).jobs = s.jobs ∧ (onStarvedFailed b s).roundDue = s.roundDue ∧ (onStarvedFailed b s).sensors = s.sensors ∧ (onStarvedFailed b s).bins = s.bins ∧ (onStarvedFailed b s).health = s.health ∧ (onStarvedFailed b s).engine = s.engine ∧ (onStarvedFailed b s).printer = s.printer ∧ (onStarvedFailed b s).event = s.event := by
  unfold onStarvedFailed; (try dsimp only); (repeat' split) <;> simp

@[simp] theorem goodInBay_frame (b : BayNo) (d : DocketNo) (s : State) :
    (goodInBay b d s).pending = s.pending ∧ (goodInBay b d s).tower = s.tower ∧ (goodInBay b d s).regs = s.regs ∧ (goodInBay b d s).board = s.board ∧ (goodInBay b d s).faults = s.faults ∧ (goodInBay b d s).jobs = s.jobs ∧ (goodInBay b d s).roundDue = s.roundDue ∧ (goodInBay b d s).sensors = s.sensors ∧ (goodInBay b d s).bins = s.bins ∧ (goodInBay b d s).health = s.health ∧ (goodInBay b d s).pageWaiters = s.pageWaiters ∧ (goodInBay b d s).printer = s.printer ∧ (goodInBay b d s).event = s.event ∧ (goodInBay b d s).out = s.out := by
  unfold goodInBay; (try dsimp only); (repeat' split) <;> simp

@[simp] theorem onClosed_frame (b : BayNo) (s : State) :
    (onClosed b s).pending = s.pending ∧ (onClosed b s).tower = s.tower ∧ (onClosed b s).regs = s.regs ∧ (onClosed b s).board = s.board ∧ (onClosed b s).faults = s.faults ∧ (onClosed b s).jobs = s.jobs ∧ (onClosed b s).roundDue = s.roundDue ∧ (onClosed b s).sensors = s.sensors ∧ (onClosed b s).bins = s.bins ∧ (onClosed b s).health = s.health ∧ (onClosed b s).printer = s.printer ∧ (onClosed b s).event = s.event ∧ (onClosed b s).out = s.out := by
  unfold onClosed; (try dsimp only); (repeat' split) <;> simp

@[simp] theorem onHalted_frame (b : BayNo) (s : State) :
    (onHalted b s).pending = s.pending ∧ (onHalted b s).tower = s.tower ∧ (onHalted b s).regs = s.regs ∧ (onHalted b s).board = s.board ∧ (onHalted b s).faults = s.faults ∧ (onHalted b s).jobs = s.jobs ∧ (onHalted b s).dockets = s.dockets ∧ (onHalted b s).roundDue = s.roundDue ∧ (onHalted b s).transport = s.transport ∧ (onHalted b s).sensors = s.sensors ∧ (onHalted b s).bins = s.bins ∧ (onHalted b s).health = s.health ∧ (onHalted b s).pageWaiters = s.pageWaiters ∧ (onHalted b s).engine = s.engine ∧ (onHalted b s).printer = s.printer ∧ (onHalted b s).event = s.event ∧ (onHalted b s).out = s.out := by
  unfold onHalted; (try dsimp only); (repeat' split) <;> simp

@[simp] theorem onReadData_frame (b : BayNo) (g : Nat) (data : List Byte) (s : State) :
    (onReadData b g data s).pending = s.pending ∧ (onReadData b g data s).tower = s.tower ∧ (onReadData b g data s).regs = s.regs ∧ (onReadData b g data s).board = s.board ∧ (onReadData b g data s).faults = s.faults ∧ (onReadData b g data s).jobs = s.jobs ∧ (onReadData b g data s).dockets = s.dockets ∧ (onReadData b g data s).roundDue = s.roundDue ∧ (onReadData b g data s).transport = s.transport ∧ (onReadData b g data s).sensors = s.sensors ∧ (onReadData b g data s).bins = s.bins ∧ (onReadData b g data s).health = s.health ∧ (onReadData b g data s).pageWaiters = s.pageWaiters ∧ (onReadData b g data s).engine = s.engine ∧ (onReadData b g data s).printer = s.printer ∧ (onReadData b g data s).event = s.event ∧ (onReadData b g data s).out = s.out := by
  unfold onReadData; (try dsimp only); (repeat' split) <;> simp

@[simp] theorem onReadFail_frame (b : BayNo) (g : Nat) (s : State) :
    (onReadFail b g s).pending = s.pending ∧ (onReadFail b g s).tower = s.tower ∧ (onReadFail b g s).regs = s.regs ∧ (onReadFail b g s).board = s.board ∧ (onReadFail b g s).jobs = s.jobs ∧ (onReadFail b g s).roundDue = s.roundDue ∧ (onReadFail b g s).sensors = s.sensors ∧ (onReadFail b g s).bins = s.bins ∧ (onReadFail b g s).printer = s.printer ∧ (onReadFail b g s).event = s.event := by
  unfold onReadFail; (try dsimp only); (repeat' split) <;> simp

@[simp] theorem onFault_frame (b : BayNo) (s : State) :
    (onFault b s).pending = s.pending ∧ (onFault b s).tower = s.tower ∧ (onFault b s).regs = s.regs ∧ (onFault b s).board = s.board ∧ (onFault b s).sensors = s.sensors ∧ (onFault b s).bins = s.bins ∧ (onFault b s).printer = s.printer ∧ (onFault b s).event = s.event := by
  unfold onFault; (try dsimp only); (repeat' split) <;> simp

@[simp] theorem openAfterReset_frame (b : BayNo) (p : Purpose) (d : DocketNo) (s : State) :
    (openAfterReset b p d s).pending = s.pending ∧ (openAfterReset b p d s).tower = s.tower ∧ (openAfterReset b p d s).regs = s.regs ∧ (openAfterReset b p d s).board = s.board ∧ (openAfterReset b p d s).faults = s.faults ∧ (openAfterReset b p d s).jobs = s.jobs ∧ (openAfterReset b p d s).roundDue = s.roundDue ∧ (openAfterReset b p d s).sensors = s.sensors ∧ (openAfterReset b p d s).bins = s.bins ∧ (openAfterReset b p d s).health = s.health ∧ (openAfterReset b p d s).pageWaiters = s.pageWaiters ∧ (openAfterReset b p d s).engine = s.engine ∧ (openAfterReset b p d s).printer = s.printer ∧ (openAfterReset b p d s).event = s.event := by
  unfold openAfterReset; (try dsimp only); (repeat' split) <;> simp

@[simp] theorem onResetDone_frame (b : BayNo) (s : State) :
    (onResetDone b s).pending = s.pending ∧ (onResetDone b s).tower = s.tower ∧ (onResetDone b s).regs = s.regs ∧ (onResetDone b s).board = s.board ∧ (onResetDone b s).faults = s.faults ∧ (onResetDone b s).jobs = s.jobs ∧ (onResetDone b s).roundDue = s.roundDue ∧ (onResetDone b s).sensors = s.sensors ∧ (onResetDone b s).bins = s.bins ∧ (onResetDone b s).health = s.health ∧ (onResetDone b s).pageWaiters = s.pageWaiters ∧ (onResetDone b s).printer = s.printer ∧ (onResetDone b s).event = s.event := by
  unfold onResetDone; (try dsimp only); (repeat' split) <;> simp

@[simp] theorem seatDocket_frame (b : BayNo) (d : DocketNo) (s : State) :
    (seatDocket b d s).pending = s.pending ∧ (seatDocket b d s).tower = s.tower ∧ (seatDocket b d s).regs = s.regs ∧ (seatDocket b d s).board = s.board ∧ (seatDocket b d s).faults = s.faults ∧ (seatDocket b d s).jobs = s.jobs ∧ (seatDocket b d s).roundDue = s.roundDue ∧ (seatDocket b d s).sensors = s.sensors ∧ (seatDocket b d s).bins = s.bins ∧ (seatDocket b d s).health = s.health ∧ (seatDocket b d s).pageWaiters = s.pageWaiters ∧ (seatDocket b d s).printer = s.printer ∧ (seatDocket b d s).event = s.event := by
  unfold seatDocket; (try dsimp only); (repeat' split) <;> simp

@[simp] theorem goAbsent_frame (b : BayNo) (s : State) :
    (goAbsent b s).pending = s.pending ∧ (goAbsent b s).tower = s.tower ∧ (goAbsent b s).regs = s.regs ∧ (goAbsent b s).board = s.board ∧ (goAbsent b s).faults = s.faults ∧ (goAbsent b s).jobs = s.jobs ∧ (goAbsent b s).dockets = s.dockets ∧ (goAbsent b s).roundDue = s.roundDue ∧ (goAbsent b s).transport = s.transport ∧ (goAbsent b s).sensors = s.sensors ∧ (goAbsent b s).bins = s.bins ∧ (goAbsent b s).health = s.health ∧ (goAbsent b s).pageWaiters = s.pageWaiters ∧ (goAbsent b s).printer = s.printer ∧ (goAbsent b s).event = s.event ∧ (goAbsent b s).out = s.out := by
  unfold goAbsent; (try dsimp only); (repeat' split) <;> simp

@[simp] theorem strand_frame (b : BayNo) (s : State) :
    (strand b s).pending = s.pending ∧ (strand b s).tower = s.tower ∧ (strand b s).regs = s.regs ∧ (strand b s).board = s.board ∧ (strand b s).jobs = s.jobs ∧ (strand b s).sensors = s.sensors ∧ (strand b s).bins = s.bins ∧ (strand b s).event = s.event := by
  unfold strand; (try dsimp only); (repeat' split) <;> simp

@[simp] theorem resetFailed_frame (b : BayNo) (s : State) :
    (resetFailed b s).pending = s.pending ∧ (resetFailed b s).tower = s.tower ∧ (resetFailed b s).regs = s.regs ∧ (resetFailed b s).board = s.board ∧ (resetFailed b s).faults = s.faults ∧ (resetFailed b s).jobs = s.jobs ∧ (resetFailed b s).dockets = s.dockets ∧ (resetFailed b s).roundDue = s.roundDue ∧ (resetFailed b s).transport = s.transport ∧ (resetFailed b s).sensors = s.sensors ∧ (resetFailed b s).bins = s.bins ∧ (resetFailed b s).health = s.health ∧ (resetFailed b s).pageWaiters = s.pageWaiters ∧ (resetFailed b s).printer = s.printer ∧ (resetFailed b s).event = s.event := by
  unfold resetFailed; (try dsimp only); (repeat' split) <;> simp

@[simp] theorem afterTimeout_frame (b : BayNo) (o : Outstanding) (s : State) :
    (afterTimeout b o s).pending = s.pending ∧ (afterTimeout b o s).tower = s.tower ∧ (afterTimeout b o s).regs = s.regs ∧ (afterTimeout b o s).board = s.board ∧ (afterTimeout b o s).sensors = s.sensors ∧ (afterTimeout b o s).bins = s.bins ∧ (afterTimeout b o s).event = s.event := by
  unfold afterTimeout; (try dsimp only); (repeat' split) <;> simp

@[simp] theorem onTimeout_frame (b : BayNo) (q : Request) (s : State) :
    (onTimeout b q s).pending = s.pending ∧ (onTimeout b q s).tower = s.tower ∧ (onTimeout b q s).regs = s.regs ∧ (onTimeout b q s).board = s.board ∧ (onTimeout b q s).sensors = s.sensors ∧ (onTimeout b q s).bins = s.bins ∧ (onTimeout b q s).event = s.event := by
  unfold onTimeout; (try dsimp only); (repeat' split) <;> simp

@[simp] theorem signatureAction_frame (b : BayNo) (slot : SlotNo) (j : Job) (g : Nat) (crc : BitVec 32) (s : State) :
    (signatureAction b slot j g crc s).pending = s.pending ∧ (signatureAction b slot j g crc s).tower = s.tower ∧ (signatureAction b slot j g crc s).regs = s.regs ∧ (signatureAction b slot j g crc s).board = s.board ∧ (signatureAction b slot j g crc s).faults = s.faults ∧ (signatureAction b slot j g crc s).dockets = s.dockets ∧ (signatureAction b slot j g crc s).roundDue = s.roundDue ∧ (signatureAction b slot j g crc s).transport = s.transport ∧ (signatureAction b slot j g crc s).sensors = s.sensors ∧ (signatureAction b slot j g crc s).bins = s.bins ∧ (signatureAction b slot j g crc s).health = s.health ∧ (signatureAction b slot j g crc s).pageWaiters = s.pageWaiters ∧ (signatureAction b slot j g crc s).printer = s.printer ∧ (signatureAction b slot j g crc s).event = s.event ∧ (signatureAction b slot j g crc s).out = s.out := by
  unfold signatureAction; (try dsimp only); (repeat' split) <;> simp

theorem completeGroup_frame (b : BayNo) (s : State) (t : State) (h : completeGroup b s = some t) :
    t.pending = s.pending ∧ t.tower = s.tower ∧ t.regs = s.regs ∧ t.board = s.board ∧ t.faults = s.faults ∧ t.dockets = s.dockets ∧ t.roundDue = s.roundDue ∧ t.transport = s.transport ∧ t.sensors = s.sensors ∧ t.bins = s.bins ∧ t.health = s.health ∧ t.pageWaiters = s.pageWaiters ∧ t.printer = s.printer ∧ t.event = s.event ∧ t.out = s.out := by
  revert h; unfold completeGroup; (repeat' split) <;> simp <;> intros <;> subst_vars <;> simp

theorem sendGroup_frame (b : BayNo) (s : State) (t : State) (h : sendGroup b s = some t) :
    t.pending = s.pending ∧ t.tower = s.tower ∧ t.regs = s.regs ∧ t.board = s.board ∧ t.faults = s.faults ∧ t.jobs = s.jobs ∧ t.dockets = s.dockets ∧ t.roundDue = s.roundDue ∧ t.transport = s.transport ∧ t.sensors = s.sensors ∧ t.bins = s.bins ∧ t.health = s.health ∧ t.pageWaiters = s.pageWaiters ∧ t.engine = s.engine ∧ t.printer = s.printer ∧ t.event = s.event := by
  revert h; unfold sendGroup; (repeat' split) <;> simp <;> intros <;> subst_vars <;> simp

theorem advanceExtent_frame (b : BayNo) (s : State) (t : State) (h : advanceExtent b s = some t) :
    t.pending = s.pending ∧ t.tower = s.tower ∧ t.regs = s.regs ∧ t.board = s.board ∧ t.faults = s.faults ∧ t.jobs = s.jobs ∧ t.dockets = s.dockets ∧ t.roundDue = s.roundDue ∧ t.transport = s.transport ∧ t.sensors = s.sensors ∧ t.bins = s.bins ∧ t.health = s.health ∧ t.pageWaiters = s.pageWaiters ∧ t.engine = s.engine ∧ t.printer = s.printer ∧ t.event = s.event ∧ t.out = s.out := by
  revert h; unfold advanceExtent; (repeat' split) <;> simp <;> intros <;> subst_vars <;> simp

theorem presentExtent_frame (b : BayNo) (s : State) (t : State) (h : presentExtent b s = some t) :
    t.pending = s.pending ∧ t.tower = s.tower ∧ t.regs = s.regs ∧ t.board = s.board ∧ t.faults = s.faults ∧ t.jobs = s.jobs ∧ t.dockets = s.dockets ∧ t.roundDue = s.roundDue ∧ t.transport = s.transport ∧ t.sensors = s.sensors ∧ t.bins = s.bins ∧ t.health = s.health ∧ t.pageWaiters = s.pageWaiters ∧ t.printer = s.printer ∧ t.event = s.event ∧ t.out = s.out := by
  revert h; unfold presentExtent; (repeat' split) <;> simp <;> intros <;> subst_vars <;> simp

theorem askBurnPage_frame (b : BayNo) (s : State) (t : State) (h : askBurnPage b s = some t) :
    t.pending = s.pending ∧ t.tower = s.tower ∧ t.regs = s.regs ∧ t.board = s.board ∧ t.faults = s.faults ∧ t.jobs = s.jobs ∧ t.dockets = s.dockets ∧ t.roundDue = s.roundDue ∧ t.transport = s.transport ∧ t.sensors = s.sensors ∧ t.bins = s.bins ∧ t.health = s.health ∧ t.engine = s.engine ∧ t.printer = s.printer ∧ t.event = s.event ∧ t.out = s.out := by
  revert h; unfold askBurnPage; (repeat' split) <;> simp <;> intros <;> subst_vars <;> simp

theorem cutPiece_frame (b : BayNo) (s : State) (t : State) (h : cutPiece b s = some t) :
    t.pending = s.pending ∧ t.tower = s.tower ∧ t.regs = s.regs ∧ t.board = s.board ∧ t.sensors = s.sensors ∧ t.bins = s.bins ∧ t.printer = s.printer ∧ t.event = s.event := by
  revert h; unfold cutPiece; (try dsimp only); (repeat' split) <;> intro h <;> simp at h <;> (try obtain ⟨_, h⟩ := h) <;> subst_vars <;> (try simp)

theorem presentCompare_frame (b : BayNo) (s : State) (t : State) (h : presentCompare b s = some t) :
    t.pending = s.pending ∧ t.tower = s.tower ∧ t.regs = s.regs ∧ t.board = s.board ∧ t.faults = s.faults ∧ t.jobs = s.jobs ∧ t.dockets = s.dockets ∧ t.roundDue = s.roundDue ∧ t.transport = s.transport ∧ t.sensors = s.sensors ∧ t.bins = s.bins ∧ t.health = s.health ∧ t.pageWaiters = s.pageWaiters ∧ t.printer = s.printer ∧ t.event = s.event ∧ t.out = s.out := by
  revert h; unfold presentCompare; (repeat' split) <;> simp <;> intros <;> subst_vars <;> simp

@[simp] theorem takeExtent_frame (b : BayNo) (c : Burn) (i : Nat) (record : List Byte) (s : State) :
    (takeExtent b c i record s).pending = s.pending ∧ (takeExtent b c i record s).tower = s.tower ∧ (takeExtent b c i record s).regs = s.regs ∧ (takeExtent b c i record s).board = s.board ∧ (takeExtent b c i record s).sensors = s.sensors ∧ (takeExtent b c i record s).bins = s.bins ∧ (takeExtent b c i record s).printer = s.printer ∧ (takeExtent b c i record s).event = s.event := by
  unfold takeExtent; (try dsimp only); (repeat' split) <;> simp

@[simp] theorem arriveExtent_frame (b : BayNo) (i off : Nat) (data : List Byte) (s : State) :
    (arriveExtent b i off data s).pending = s.pending ∧ (arriveExtent b i off data s).tower = s.tower ∧ (arriveExtent b i off data s).regs = s.regs ∧ (arriveExtent b i off data s).board = s.board ∧ (arriveExtent b i off data s).sensors = s.sensors ∧ (arriveExtent b i off data s).bins = s.bins ∧ (arriveExtent b i off data s).printer = s.printer ∧ (arriveExtent b i off data s).event = s.event := by
  unfold arriveExtent; (try dsimp only); (repeat' split) <;> simp

@[simp] theorem arriveCompare_frame (b : BayNo) (g : Nat) (data : List Byte) (s : State) :
    (arriveCompare b g data s).pending = s.pending ∧ (arriveCompare b g data s).tower = s.tower ∧ (arriveCompare b g data s).regs = s.regs ∧ (arriveCompare b g data s).board = s.board ∧ (arriveCompare b g data s).sensors = s.sensors ∧ (arriveCompare b g data s).bins = s.bins ∧ (arriveCompare b g data s).printer = s.printer ∧ (arriveCompare b g data s).event = s.event := by
  unfold arriveCompare; (try dsimp only); (repeat' split) <;> simp

@[simp] theorem takeRead_frame (b : BayNo) (c : Verify) (s : State) :
    (takeRead b c s).pending = s.pending ∧ (takeRead b c s).tower = s.tower ∧ (takeRead b c s).regs = s.regs ∧ (takeRead b c s).board = s.board ∧ (takeRead b c s).faults = s.faults ∧ (takeRead b c s).jobs = s.jobs ∧ (takeRead b c s).dockets = s.dockets ∧ (takeRead b c s).roundDue = s.roundDue ∧ (takeRead b c s).transport = s.transport ∧ (takeRead b c s).sensors = s.sensors ∧ (takeRead b c s).bins = s.bins ∧ (takeRead b c s).health = s.health ∧ (takeRead b c s).pageWaiters = s.pageWaiters ∧ (takeRead b c s).engine = s.engine ∧ (takeRead b c s).printer = s.printer ∧ (takeRead b c s).event = s.event := by
  unfold takeRead; (try dsimp only); (repeat' split) <;> simp

theorem issueRead_frame (b : BayNo) (s : State) (t : State) (h : issueRead b s = some t) :
    t.pending = s.pending ∧ t.tower = s.tower ∧ t.regs = s.regs ∧ t.board = s.board ∧ t.faults = s.faults ∧ t.jobs = s.jobs ∧ t.dockets = s.dockets ∧ t.roundDue = s.roundDue ∧ t.transport = s.transport ∧ t.sensors = s.sensors ∧ t.bins = s.bins ∧ t.health = s.health ∧ t.engine = s.engine ∧ t.printer = s.printer ∧ t.event = s.event := by
  revert h; unfold issueRead; (repeat' split) <;> simp <;> intros <;> subst_vars <;> simp

theorem presentBlock_frame (b : BayNo) (s : State) (t : State) (h : presentBlock b s = some t) :
    t.pending = s.pending ∧ t.tower = s.tower ∧ t.regs = s.regs ∧ t.board = s.board ∧ t.faults = s.faults ∧ t.jobs = s.jobs ∧ t.dockets = s.dockets ∧ t.roundDue = s.roundDue ∧ t.transport = s.transport ∧ t.sensors = s.sensors ∧ t.bins = s.bins ∧ t.health = s.health ∧ t.pageWaiters = s.pageWaiters ∧ t.printer = s.printer ∧ t.event = s.event ∧ t.out = s.out := by
  revert h; unfold presentBlock; (repeat' split) <;> simp <;> intros <;> subst_vars <;> simp

@[simp] theorem verdictGood_frame (b : BayNo) (d : DocketNo) (s : State) :
    (verdictGood b d s).pending = s.pending ∧ (verdictGood b d s).tower = s.tower ∧ (verdictGood b d s).regs = s.regs ∧ (verdictGood b d s).board = s.board ∧ (verdictGood b d s).faults = s.faults ∧ (verdictGood b d s).jobs = s.jobs ∧ (verdictGood b d s).roundDue = s.roundDue ∧ (verdictGood b d s).sensors = s.sensors ∧ (verdictGood b d s).bins = s.bins ∧ (verdictGood b d s).health = s.health ∧ (verdictGood b d s).printer = s.printer ∧ (verdictGood b d s).event = s.event ∧ (verdictGood b d s).out = s.out := by
  unfold verdictGood; (try dsimp only); (repeat' split) <;> simp

@[simp] theorem compareGroup_frame (b : BayNo) (c : Verify) (j : Job) (crc entry : BitVec 32) (s : State) :
    (compareGroup b c j crc entry s).pending = s.pending ∧ (compareGroup b c j crc entry s).tower = s.tower ∧ (compareGroup b c j crc entry s).regs = s.regs ∧ (compareGroup b c j crc entry s).board = s.board ∧ (compareGroup b c j crc entry s).jobs = s.jobs ∧ (compareGroup b c j crc entry s).roundDue = s.roundDue ∧ (compareGroup b c j crc entry s).sensors = s.sensors ∧ (compareGroup b c j crc entry s).bins = s.bins ∧ (compareGroup b c j crc entry s).printer = s.printer ∧ (compareGroup b c j crc entry s).event = s.event := by
  unfold compareGroup; (try dsimp only); (repeat' split) <;> simp

theorem makeCompare_frame (b : BayNo) (s : State) (t : State) (h : makeCompare b s = some t) :
    t.pending = s.pending ∧ t.tower = s.tower ∧ t.regs = s.regs ∧ t.board = s.board ∧ t.jobs = s.jobs ∧ t.roundDue = s.roundDue ∧ t.sensors = s.sensors ∧ t.bins = s.bins ∧ t.printer = s.printer ∧ t.event = s.event := by
  revert h; unfold makeCompare; (repeat' split) <;> simp <;> intros <;> subst_vars <;> simp

@[simp] theorem arriveBlock_frame (b : BayNo) (n off : Nat) (data : List Byte) (s : State) :
    (arriveBlock b n off data s).pending = s.pending ∧ (arriveBlock b n off data s).tower = s.tower ∧ (arriveBlock b n off data s).regs = s.regs ∧ (arriveBlock b n off data s).board = s.board ∧ (arriveBlock b n off data s).faults = s.faults ∧ (arriveBlock b n off data s).jobs = s.jobs ∧ (arriveBlock b n off data s).dockets = s.dockets ∧ (arriveBlock b n off data s).roundDue = s.roundDue ∧ (arriveBlock b n off data s).transport = s.transport ∧ (arriveBlock b n off data s).sensors = s.sensors ∧ (arriveBlock b n off data s).bins = s.bins ∧ (arriveBlock b n off data s).health = s.health ∧ (arriveBlock b n off data s).pageWaiters = s.pageWaiters ∧ (arriveBlock b n off data s).engine = s.engine ∧ (arriveBlock b n off data s).printer = s.printer ∧ (arriveBlock b n off data s).event = s.event ∧ (arriveBlock b n off data s).out = s.out := by
  unfold arriveBlock; (try dsimp only); (repeat' split) <;> simp

theorem offerPage_frame (s : State) (t : State) (h : offerPage s = some t) :
    t.pending = s.pending ∧ t.tower = s.tower ∧ t.regs = s.regs ∧ t.board = s.board ∧ t.faults = s.faults ∧ t.jobs = s.jobs ∧ t.dockets = s.dockets ∧ t.roundDue = s.roundDue ∧ t.transport = s.transport ∧ t.sensors = s.sensors ∧ t.bins = s.bins ∧ t.health = s.health ∧ t.engine = s.engine ∧ t.printer = s.printer ∧ t.event = s.event := by
  revert h; unfold offerPage; (repeat' split) <;> simp <;> intros <;> subst_vars <;> simp

theorem cutBurst_frame (s : State) (t : State) (h : cutBurst s = some t) :
    t.pending = s.pending ∧ t.tower = s.tower ∧ t.regs = s.regs ∧ t.board = s.board ∧ t.faults = s.faults ∧ t.jobs = s.jobs ∧ t.dockets = s.dockets ∧ t.roundDue = s.roundDue ∧ t.transport = s.transport ∧ t.sensors = s.sensors ∧ t.bins = s.bins ∧ t.bays = s.bays ∧ t.health = s.health ∧ t.pageWaiters = s.pageWaiters ∧ t.printer = s.printer ∧ t.event = s.event ∧ t.out = s.out := by
  revert h; unfold cutBurst; (try dsimp only); (repeat' split) <;> intro h <;> simp at h <;> (try obtain ⟨_, h⟩ := h) <;> subst_vars <;> (try simp)

@[simp] theorem issueFetch_frame (k : FetchNo) (id : LineId) (r : FetchReq) (s : State) :
    (issueFetch k id r s).pending = s.pending ∧ (issueFetch k id r s).tower = s.tower ∧ (issueFetch k id r s).regs = s.regs ∧ (issueFetch k id r s).board = s.board ∧ (issueFetch k id r s).faults = s.faults ∧ (issueFetch k id r s).jobs = s.jobs ∧ (issueFetch k id r s).dockets = s.dockets ∧ (issueFetch k id r s).roundDue = s.roundDue ∧ (issueFetch k id r s).transport = s.transport ∧ (issueFetch k id r s).sensors = s.sensors ∧ (issueFetch k id r s).bins = s.bins ∧ (issueFetch k id r s).health = s.health ∧ (issueFetch k id r s).pageWaiters = s.pageWaiters ∧ (issueFetch k id r s).printer = s.printer ∧ (issueFetch k id r s).event = s.event := by
  unfold issueFetch; (try dsimp only); (repeat' split) <;> simp

theorem grantBurn_frame (k : FetchNo) (s : State) (t : State) (h : grantBurn k s = some t) :
    t.pending = s.pending ∧ t.tower = s.tower ∧ t.regs = s.regs ∧ t.board = s.board ∧ t.faults = s.faults ∧ t.jobs = s.jobs ∧ t.dockets = s.dockets ∧ t.roundDue = s.roundDue ∧ t.transport = s.transport ∧ t.sensors = s.sensors ∧ t.bins = s.bins ∧ t.health = s.health ∧ t.pageWaiters = s.pageWaiters ∧ t.printer = s.printer ∧ t.event = s.event := by
  revert h; unfold grantBurn; (try dsimp only); (repeat' split) <;> intro h <;> simp at h <;> (try obtain ⟨_, h⟩ := h) <;> subst_vars <;> (try simp)

theorem grantFetch_frame (s : State) (t : State) (h : grantFetch s = some t) :
    t.pending = s.pending ∧ t.tower = s.tower ∧ t.regs = s.regs ∧ t.faults = s.faults ∧ t.dockets = s.dockets ∧ t.roundDue = s.roundDue ∧ t.transport = s.transport ∧ t.sensors = s.sensors ∧ t.bins = s.bins ∧ t.health = s.health ∧ t.pageWaiters = s.pageWaiters ∧ t.printer = s.printer ∧ t.event = s.event := by
  revert h; unfold grantFetch; (repeat' split) <;> intro h <;> simp at h <;> (try obtain ⟨_, _, _, h⟩ := h) <;> subst_vars <;> first | (simp; done) | (rename_i hb; have := grantBurn_frame _ _ _ hb; simp_all)

@[simp] theorem setPrinterRec_frame (p : Printer) (s : State) :
    (setPrinterRec p s).pending = s.pending ∧ (setPrinterRec p s).tower = s.tower ∧ (setPrinterRec p s).regs = s.regs ∧ (setPrinterRec p s).board = s.board ∧ (setPrinterRec p s).faults = s.faults ∧ (setPrinterRec p s).jobs = s.jobs ∧ (setPrinterRec p s).dockets = s.dockets ∧ (setPrinterRec p s).roundDue = s.roundDue ∧ (setPrinterRec p s).transport = s.transport ∧ (setPrinterRec p s).sensors = s.sensors ∧ (setPrinterRec p s).bins = s.bins ∧ (setPrinterRec p s).bays = s.bays ∧ (setPrinterRec p s).health = s.health ∧ (setPrinterRec p s).pageWaiters = s.pageWaiters ∧ (setPrinterRec p s).engine = s.engine ∧ (setPrinterRec p s).event = s.event ∧ (setPrinterRec p s).out = s.out := by
  unfold setPrinterRec; (try dsimp only); (repeat' split) <;> simp

@[simp] theorem updPrint_frame (d : Option DocketNo) (f : PrintCounters → PrintCounters) (s : State) :
    (updPrint d f s).pending = s.pending ∧ (updPrint d f s).tower = s.tower ∧ (updPrint d f s).regs = s.regs ∧ (updPrint d f s).board = s.board ∧ (updPrint d f s).faults = s.faults ∧ (updPrint d f s).jobs = s.jobs ∧ (updPrint d f s).roundDue = s.roundDue ∧ (updPrint d f s).transport = s.transport ∧ (updPrint d f s).sensors = s.sensors ∧ (updPrint d f s).bins = s.bins ∧ (updPrint d f s).bays = s.bays ∧ (updPrint d f s).health = s.health ∧ (updPrint d f s).pageWaiters = s.pageWaiters ∧ (updPrint d f s).engine = s.engine ∧ (updPrint d f s).printer = s.printer ∧ (updPrint d f s).event = s.event ∧ (updPrint d f s).out = s.out := by
  unfold updPrint; (try dsimp only); (repeat' split) <;> simp

theorem presentBand_frame (s : State) (t : State) (h : presentBand s = some t) :
    t.pending = s.pending ∧ t.tower = s.tower ∧ t.regs = s.regs ∧ t.board = s.board ∧ t.faults = s.faults ∧ t.jobs = s.jobs ∧ t.dockets = s.dockets ∧ t.roundDue = s.roundDue ∧ t.transport = s.transport ∧ t.sensors = s.sensors ∧ t.bins = s.bins ∧ t.health = s.health ∧ t.pageWaiters = s.pageWaiters ∧ t.event = s.event ∧ t.out = s.out := by
  revert h; unfold presentBand; (repeat' split) <;> simp <;> intros <;> subst_vars <;> simp

@[simp] theorem endLoad_frame (s : State) :
    (endLoad s).pending = s.pending ∧ (endLoad s).tower = s.tower ∧ (endLoad s).regs = s.regs ∧ (endLoad s).board = s.board ∧ (endLoad s).faults = s.faults ∧ (endLoad s).jobs = s.jobs ∧ (endLoad s).dockets = s.dockets ∧ (endLoad s).roundDue = s.roundDue ∧ (endLoad s).transport = s.transport ∧ (endLoad s).sensors = s.sensors ∧ (endLoad s).bins = s.bins ∧ (endLoad s).health = s.health ∧ (endLoad s).pageWaiters = s.pageWaiters ∧ (endLoad s).event = s.event ∧ (endLoad s).out = s.out := by
  unfold endLoad; (try dsimp only); (repeat' split) <;> simp

@[simp] theorem staleBand_frame (s : State) :
    (staleBand s).pending = s.pending ∧ (staleBand s).tower = s.tower ∧ (staleBand s).regs = s.regs ∧ (staleBand s).board = s.board ∧ (staleBand s).faults = s.faults ∧ (staleBand s).jobs = s.jobs ∧ (staleBand s).dockets = s.dockets ∧ (staleBand s).roundDue = s.roundDue ∧ (staleBand s).transport = s.transport ∧ (staleBand s).sensors = s.sensors ∧ (staleBand s).bins = s.bins ∧ (staleBand s).bays = s.bays ∧ (staleBand s).health = s.health ∧ (staleBand s).pageWaiters = s.pageWaiters ∧ (staleBand s).printer = s.printer ∧ (staleBand s).event = s.event ∧ (staleBand s).out = s.out := by
  unfold staleBand; (try dsimp only); (repeat' split) <;> simp

@[simp] theorem enterSpindown_frame (s : State) :
    (enterSpindown s).pending = s.pending ∧ (enterSpindown s).tower = s.tower ∧ (enterSpindown s).regs = s.regs ∧ (enterSpindown s).board = s.board ∧ (enterSpindown s).faults = s.faults ∧ (enterSpindown s).jobs = s.jobs ∧ (enterSpindown s).dockets = s.dockets ∧ (enterSpindown s).roundDue = s.roundDue ∧ (enterSpindown s).transport = s.transport ∧ (enterSpindown s).sensors = s.sensors ∧ (enterSpindown s).bins = s.bins ∧ (enterSpindown s).bays = s.bays ∧ (enterSpindown s).health = s.health ∧ (enterSpindown s).pageWaiters = s.pageWaiters ∧ (enterSpindown s).event = s.event ∧ (enterSpindown s).out = s.out := by
  unfold enterSpindown; (try dsimp only); (repeat' split) <;> simp

@[simp] theorem abortPrint_frame (cause : Cause) (code : Option FaultCode) (s : State) :
    (abortPrint cause code s).pending = s.pending ∧ (abortPrint cause code s).tower = s.tower ∧ (abortPrint cause code s).regs = s.regs ∧ (abortPrint cause code s).board = s.board ∧ (abortPrint cause code s).jobs = s.jobs ∧ (abortPrint cause code s).roundDue = s.roundDue ∧ (abortPrint cause code s).sensors = s.sensors ∧ (abortPrint cause code s).bins = s.bins ∧ (abortPrint cause code s).health = s.health ∧ (abortPrint cause code s).event = s.event := by
  unfold abortPrint; (try dsimp only); (repeat' split) <;> simp

@[simp] theorem takeRecord_frame (bytes : List Byte) (s : State) :
    (takeRecord bytes s).pending = s.pending ∧ (takeRecord bytes s).tower = s.tower ∧ (takeRecord bytes s).regs = s.regs ∧ (takeRecord bytes s).board = s.board ∧ (takeRecord bytes s).jobs = s.jobs ∧ (takeRecord bytes s).roundDue = s.roundDue ∧ (takeRecord bytes s).sensors = s.sensors ∧ (takeRecord bytes s).bins = s.bins ∧ (takeRecord bytes s).health = s.health ∧ (takeRecord bytes s).event = s.event := by
  unfold takeRecord; (try dsimp only); (repeat' split) <;> simp

@[simp] theorem arriveBand_frame (part : BandPart) (off : Nat) (data : List Byte) (s : State) :
    (arriveBand part off data s).pending = s.pending ∧ (arriveBand part off data s).tower = s.tower ∧ (arriveBand part off data s).regs = s.regs ∧ (arriveBand part off data s).board = s.board ∧ (arriveBand part off data s).jobs = s.jobs ∧ (arriveBand part off data s).roundDue = s.roundDue ∧ (arriveBand part off data s).sensors = s.sensors ∧ (arriveBand part off data s).bins = s.bins ∧ (arriveBand part off data s).health = s.health ∧ (arriveBand part off data s).event = s.event := by
  unfold arriveBand; (try dsimp only); (repeat' split) <;> simp

theorem startCarriage_frame (s : State) (t : State) (h : startCarriage s = some t) :
    t.pending = s.pending ∧ t.tower = s.tower ∧ t.regs = s.regs ∧ t.board = s.board ∧ t.faults = s.faults ∧ t.jobs = s.jobs ∧ t.dockets = s.dockets ∧ t.roundDue = s.roundDue ∧ t.transport = s.transport ∧ t.sensors = s.sensors ∧ t.bins = s.bins ∧ t.bays = s.bays ∧ t.health = s.health ∧ t.pageWaiters = s.pageWaiters ∧ t.engine = s.engine ∧ t.event = s.event ∧ t.out = s.out := by
  revert h; unfold startCarriage; (repeat' split) <;> simp <;> intros <;> subst_vars <;> simp

@[simp] theorem laneDue_frame (e i : Nat) (t : PrintTime) (lane : LaneNo) (s : State) :
    (laneDue e i t lane s).pending = s.pending ∧ (laneDue e i t lane s).tower = s.tower ∧ (laneDue e i t lane s).regs = s.regs ∧ (laneDue e i t lane s).board = s.board ∧ (laneDue e i t lane s).faults = s.faults ∧ (laneDue e i t lane s).jobs = s.jobs ∧ (laneDue e i t lane s).roundDue = s.roundDue ∧ (laneDue e i t lane s).transport = s.transport ∧ (laneDue e i t lane s).sensors = s.sensors ∧ (laneDue e i t lane s).bins = s.bins ∧ (laneDue e i t lane s).bays = s.bays ∧ (laneDue e i t lane s).health = s.health ∧ (laneDue e i t lane s).pageWaiters = s.pageWaiters ∧ (laneDue e i t lane s).engine = s.engine ∧ (laneDue e i t lane s).event = s.event ∧ (laneDue e i t lane s).out = s.out := by
  unfold laneDue; (try dsimp only); (repeat' split) <;> simp

@[simp] theorem takeAllDue_frame (e i : Nat) (t : PrintTime) (s : State) :
    (takeAllDue e i t s).pending = s.pending ∧ (takeAllDue e i t s).tower = s.tower ∧ (takeAllDue e i t s).regs = s.regs ∧ (takeAllDue e i t s).board = s.board ∧ (takeAllDue e i t s).faults = s.faults ∧ (takeAllDue e i t s).jobs = s.jobs ∧ (takeAllDue e i t s).roundDue = s.roundDue ∧ (takeAllDue e i t s).transport = s.transport ∧ (takeAllDue e i t s).sensors = s.sensors ∧ (takeAllDue e i t s).bins = s.bins ∧ (takeAllDue e i t s).bays = s.bays ∧ (takeAllDue e i t s).health = s.health ∧ (takeAllDue e i t s).pageWaiters = s.pageWaiters ∧ (takeAllDue e i t s).engine = s.engine ∧ (takeAllDue e i t s).event = s.event ∧ (takeAllDue e i t s).out = s.out := by
  unfold takeAllDue; exact ⟨(foldl_same (fun u : State => u.pending) _ (by intro a b; (try split) <;> simp) _ _).trans (by simp), (foldl_same (fun u : State => u.tower) _ (by intro a b; (try split) <;> simp) _ _).trans (by simp), (foldl_same (fun u : State => u.regs) _ (by intro a b; (try split) <;> simp) _ _).trans (by simp), (foldl_same (fun u : State => u.board) _ (by intro a b; (try split) <;> simp) _ _).trans (by simp), (foldl_same (fun u : State => u.faults) _ (by intro a b; (try split) <;> simp) _ _).trans (by simp), (foldl_same (fun u : State => u.jobs) _ (by intro a b; (try split) <;> simp) _ _).trans (by simp), (foldl_same (fun u : State => u.roundDue) _ (by intro a b; (try split) <;> simp) _ _).trans (by simp), (foldl_same (fun u : State => u.transport) _ (by intro a b; (try split) <;> simp) _ _).trans (by simp), (foldl_same (fun u : State => u.sensors) _ (by intro a b; (try split) <;> simp) _ _).trans (by simp), (foldl_same (fun u : State => u.bins) _ (by intro a b; (try split) <;> simp) _ _).trans (by simp), (foldl_same (fun u : State => u.bays) _ (by intro a b; (try split) <;> simp) _ _).trans (by simp), (foldl_same (fun u : State => u.health) _ (by intro a b; (try split) <;> simp) _ _).trans (by simp), (foldl_same (fun u : State => u.pageWaiters) _ (by intro a b; (try split) <;> simp) _ _).trans (by simp), (foldl_same (fun u : State => u.engine) _ (by intro a b; (try split) <;> simp) _ _).trans (by simp), (foldl_same (fun u : State => u.event) _ (by intro a b; (try split) <;> simp) _ _).trans (by simp), (foldl_same (fun u : State => u.out) _ (by intro a b; (try split) <;> simp) _ _).trans (by simp)⟩

@[simp] theorem clipAll_frame (e : Nat) (t : PrintTime) (s : State) :
    (clipAll e t s).pending = s.pending ∧ (clipAll e t s).tower = s.tower ∧ (clipAll e t s).regs = s.regs ∧ (clipAll e t s).board = s.board ∧ (clipAll e t s).faults = s.faults ∧ (clipAll e t s).jobs = s.jobs ∧ (clipAll e t s).roundDue = s.roundDue ∧ (clipAll e t s).transport = s.transport ∧ (clipAll e t s).sensors = s.sensors ∧ (clipAll e t s).bins = s.bins ∧ (clipAll e t s).bays = s.bays ∧ (clipAll e t s).health = s.health ∧ (clipAll e t s).pageWaiters = s.pageWaiters ∧ (clipAll e t s).engine = s.engine ∧ (clipAll e t s).event = s.event ∧ (clipAll e t s).out = s.out := by
  unfold clipAll; (try dsimp only); (repeat' split) <;> simp

@[simp] theorem fireDot_frame (lane : LaneNo) (s : State) :
    (fireDot lane s).pending = s.pending ∧ (fireDot lane s).tower = s.tower ∧ (fireDot lane s).regs = s.regs ∧ (fireDot lane s).board = s.board ∧ (fireDot lane s).faults = s.faults ∧ (fireDot lane s).jobs = s.jobs ∧ (fireDot lane s).roundDue = s.roundDue ∧ (fireDot lane s).transport = s.transport ∧ (fireDot lane s).sensors = s.sensors ∧ (fireDot lane s).bins = s.bins ∧ (fireDot lane s).bays = s.bays ∧ (fireDot lane s).health = s.health ∧ (fireDot lane s).pageWaiters = s.pageWaiters ∧ (fireDot lane s).engine = s.engine ∧ (fireDot lane s).event = s.event ∧ (fireDot lane s).out = s.out := by
  unfold fireDot; (try dsimp only); (repeat' split) <;> simp

@[simp] theorem endRecovery_frame (lane : LaneNo) (s : State) :
    (endRecovery lane s).pending = s.pending ∧ (endRecovery lane s).tower = s.tower ∧ (endRecovery lane s).regs = s.regs ∧ (endRecovery lane s).board = s.board ∧ (endRecovery lane s).faults = s.faults ∧ (endRecovery lane s).jobs = s.jobs ∧ (endRecovery lane s).dockets = s.dockets ∧ (endRecovery lane s).roundDue = s.roundDue ∧ (endRecovery lane s).transport = s.transport ∧ (endRecovery lane s).sensors = s.sensors ∧ (endRecovery lane s).bins = s.bins ∧ (endRecovery lane s).bays = s.bays ∧ (endRecovery lane s).health = s.health ∧ (endRecovery lane s).pageWaiters = s.pageWaiters ∧ (endRecovery lane s).engine = s.engine ∧ (endRecovery lane s).event = s.event ∧ (endRecovery lane s).out = s.out := by
  unfold endRecovery; (try dsimp only); (repeat' split) <;> simp

@[simp] theorem takeDisc_frame (d : DocketNo) (s : State) :
    (takeDisc d s).pending = s.pending ∧ (takeDisc d s).tower = s.tower ∧ (takeDisc d s).regs = s.regs ∧ (takeDisc d s).board = s.board ∧ (takeDisc d s).faults = s.faults ∧ (takeDisc d s).jobs = s.jobs ∧ (takeDisc d s).roundDue = s.roundDue ∧ (takeDisc d s).transport = s.transport ∧ (takeDisc d s).sensors = s.sensors ∧ (takeDisc d s).bins = s.bins ∧ (takeDisc d s).bays = s.bays ∧ (takeDisc d s).health = s.health ∧ (takeDisc d s).pageWaiters = s.pageWaiters ∧ (takeDisc d s).event = s.event ∧ (takeDisc d s).out = s.out := by
  unfold takeDisc; (try dsimp only); (repeat' split) <;> simp

@[simp] theorem enterSpinup_frame (s : State) :
    (enterSpinup s).pending = s.pending ∧ (enterSpinup s).tower = s.tower ∧ (enterSpinup s).regs = s.regs ∧ (enterSpinup s).board = s.board ∧ (enterSpinup s).faults = s.faults ∧ (enterSpinup s).jobs = s.jobs ∧ (enterSpinup s).dockets = s.dockets ∧ (enterSpinup s).roundDue = s.roundDue ∧ (enterSpinup s).transport = s.transport ∧ (enterSpinup s).sensors = s.sensors ∧ (enterSpinup s).bins = s.bins ∧ (enterSpinup s).bays = s.bays ∧ (enterSpinup s).health = s.health ∧ (enterSpinup s).pageWaiters = s.pageWaiters ∧ (enterSpinup s).event = s.event ∧ (enterSpinup s).out = s.out := by
  unfold enterSpinup; (try dsimp only); (repeat' split) <;> simp

@[simp] theorem enterSettling_frame (breached : Bool) (s : State) :
    (enterSettling breached s).pending = s.pending ∧ (enterSettling breached s).tower = s.tower ∧ (enterSettling breached s).regs = s.regs ∧ (enterSettling breached s).board = s.board ∧ (enterSettling breached s).faults = s.faults ∧ (enterSettling breached s).jobs = s.jobs ∧ (enterSettling breached s).dockets = s.dockets ∧ (enterSettling breached s).roundDue = s.roundDue ∧ (enterSettling breached s).transport = s.transport ∧ (enterSettling breached s).sensors = s.sensors ∧ (enterSettling breached s).bins = s.bins ∧ (enterSettling breached s).bays = s.bays ∧ (enterSettling breached s).health = s.health ∧ (enterSettling breached s).pageWaiters = s.pageWaiters ∧ (enterSettling breached s).event = s.event ∧ (enterSettling breached s).out = s.out := by
  unfold enterSettling; (try dsimp only); (repeat' split) <;> simp

@[simp] theorem slip_frame (s : State) :
    (slip s).pending = s.pending ∧ (slip s).tower = s.tower ∧ (slip s).regs = s.regs ∧ (slip s).board = s.board ∧ (slip s).jobs = s.jobs ∧ (slip s).roundDue = s.roundDue ∧ (slip s).sensors = s.sensors ∧ (slip s).bins = s.bins ∧ (slip s).health = s.health ∧ (slip s).event = s.event := by
  unfold slip; (try dsimp only); (repeat' split) <;> simp

@[simp] theorem startBand_frame (r : BandRecord) (i : Nat) (t : PrintTime) (s : State) :
    (startBand r i t s).pending = s.pending ∧ (startBand r i t s).tower = s.tower ∧ (startBand r i t s).regs = s.regs ∧ (startBand r i t s).board = s.board ∧ (startBand r i t s).faults = s.faults ∧ (startBand r i t s).jobs = s.jobs ∧ (startBand r i t s).roundDue = s.roundDue ∧ (startBand r i t s).transport = s.transport ∧ (startBand r i t s).sensors = s.sensors ∧ (startBand r i t s).bins = s.bins ∧ (startBand r i t s).bays = s.bays ∧ (startBand r i t s).health = s.health ∧ (startBand r i t s).pageWaiters = s.pageWaiters ∧ (startBand r i t s).event = s.event ∧ (startBand r i t s).out = s.out := by
  unfold startBand; (try dsimp only); (repeat' split) <;> simp

@[simp] theorem testBand_frame (i : Nat) (t : PrintTime) (s : State) :
    (testBand i t s).pending = s.pending ∧ (testBand i t s).tower = s.tower ∧ (testBand i t s).regs = s.regs ∧ (testBand i t s).board = s.board ∧ (testBand i t s).jobs = s.jobs ∧ (testBand i t s).roundDue = s.roundDue ∧ (testBand i t s).sensors = s.sensors ∧ (testBand i t s).bins = s.bins ∧ (testBand i t s).health = s.health ∧ (testBand i t s).event = s.event := by
  unfold testBand; (try dsimp only); (repeat' split) <;> simp

@[simp] theorem completeLabel_frame (s : State) :
    (completeLabel s).pending = s.pending ∧ (completeLabel s).tower = s.tower ∧ (completeLabel s).regs = s.regs ∧ (completeLabel s).board = s.board ∧ (completeLabel s).faults = s.faults ∧ (completeLabel s).jobs = s.jobs ∧ (completeLabel s).roundDue = s.roundDue ∧ (completeLabel s).sensors = s.sensors ∧ (completeLabel s).bins = s.bins ∧ (completeLabel s).bays = s.bays ∧ (completeLabel s).health = s.health ∧ (completeLabel s).pageWaiters = s.pageWaiters ∧ (completeLabel s).event = s.event ∧ (completeLabel s).out = s.out := by
  unfold completeLabel; (try dsimp only); (repeat' split) <;> simp

@[simp] theorem endRevolution_frame (i : Nat) (t : PrintTime) (s : State) :
    (endRevolution i t s).pending = s.pending ∧ (endRevolution i t s).tower = s.tower ∧ (endRevolution i t s).regs = s.regs ∧ (endRevolution i t s).board = s.board ∧ (endRevolution i t s).jobs = s.jobs ∧ (endRevolution i t s).roundDue = s.roundDue ∧ (endRevolution i t s).sensors = s.sensors ∧ (endRevolution i t s).bins = s.bins ∧ (endRevolution i t s).health = s.health ∧ (endRevolution i t s).event = s.event := by
  unfold endRevolution; (try dsimp only); (repeat' split) <;> simp

@[simp] theorem breach_frame (atIndex : Bool) (s : State) :
    (breach atIndex s).pending = s.pending ∧ (breach atIndex s).tower = s.tower ∧ (breach atIndex s).regs = s.regs ∧ (breach atIndex s).board = s.board ∧ (breach atIndex s).jobs = s.jobs ∧ (breach atIndex s).roundDue = s.roundDue ∧ (breach atIndex s).sensors = s.sensors ∧ (breach atIndex s).bins = s.bins ∧ (breach atIndex s).health = s.health ∧ (breach atIndex s).event = s.event := by
  unfold breach; (try dsimp only); (repeat' split) <;> simp

@[simp] theorem onEdge_frame (t : PrintTime) (s : State) :
    (onEdge t s).pending = s.pending ∧ (onEdge t s).tower = s.tower ∧ (onEdge t s).regs = s.regs ∧ (onEdge t s).board = s.board ∧ (onEdge t s).jobs = s.jobs ∧ (onEdge t s).roundDue = s.roundDue ∧ (onEdge t s).sensors = s.sensors ∧ (onEdge t s).bins = s.bins ∧ (onEdge t s).health = s.health ∧ (onEdge t s).event = s.event := by
  unfold onEdge; (try dsimp only); (repeat' split) <;> simp

@[simp] theorem onIndex_frame (t : PrintTime) (s : State) :
    (onIndex t s).pending = s.pending ∧ (onIndex t s).tower = s.tower ∧ (onIndex t s).regs = s.regs ∧ (onIndex t s).board = s.board ∧ (onIndex t s).jobs = s.jobs ∧ (onIndex t s).roundDue = s.roundDue ∧ (onIndex t s).sensors = s.sensors ∧ (onIndex t s).bins = s.bins ∧ (onIndex t s).health = s.health ∧ (onIndex t s).event = s.event := by
  unfold onIndex; (try dsimp only); (repeat' split) <;> simp

theorem printerEmpties_frame (s : State) (t : State) (h : printerEmpties s = some t) :
    t.pending = s.pending ∧ t.tower = s.tower ∧ t.regs = s.regs ∧ t.board = s.board ∧ t.faults = s.faults ∧ t.jobs = s.jobs ∧ t.dockets = s.dockets ∧ t.roundDue = s.roundDue ∧ t.transport = s.transport ∧ t.sensors = s.sensors ∧ t.bins = s.bins ∧ t.bays = s.bays ∧ t.health = s.health ∧ t.pageWaiters = s.pageWaiters ∧ t.event = s.event ∧ t.out = s.out := by
  revert h; unfold printerEmpties; (repeat' split) <;> simp <;> intros <;> subst_vars <;> simp

@[simp] theorem trayOn_frame (s : State) :
    (trayOn s).pending = s.pending ∧ (trayOn s).tower = s.tower ∧ (trayOn s).regs = s.regs ∧ (trayOn s).board = s.board ∧ (trayOn s).jobs = s.jobs ∧ (trayOn s).dockets = s.dockets ∧ (trayOn s).roundDue = s.roundDue ∧ (trayOn s).transport = s.transport ∧ (trayOn s).sensors = s.sensors ∧ (trayOn s).bins = s.bins ∧ (trayOn s).bays = s.bays ∧ (trayOn s).health = s.health ∧ (trayOn s).pageWaiters = s.pageWaiters ∧ (trayOn s).event = s.event ∧ (trayOn s).out = s.out := by
  unfold trayOn; (try dsimp only); (repeat' split) <;> simp

@[simp] theorem trayOff_frame (s : State) :
    (trayOff s).pending = s.pending ∧ (trayOff s).tower = s.tower ∧ (trayOff s).regs = s.regs ∧ (trayOff s).board = s.board ∧ (trayOff s).jobs = s.jobs ∧ (trayOff s).dockets = s.dockets ∧ (trayOff s).roundDue = s.roundDue ∧ (trayOff s).transport = s.transport ∧ (trayOff s).sensors = s.sensors ∧ (trayOff s).bins = s.bins ∧ (trayOff s).bays = s.bays ∧ (trayOff s).health = s.health ∧ (trayOff s).pageWaiters = s.pageWaiters ∧ (trayOff s).printer = s.printer ∧ (trayOff s).event = s.event ∧ (trayOff s).out = s.out := by
  unfold trayOff; (try dsimp only); (repeat' split) <;> simp

@[simp] theorem resetPrinter_frame (s : State) :
    (resetPrinter s).pending = s.pending ∧ (resetPrinter s).tower = s.tower ∧ (resetPrinter s).regs = s.regs ∧ (resetPrinter s).board = s.board ∧ (resetPrinter s).faults = s.faults ∧ (resetPrinter s).jobs = s.jobs ∧ (resetPrinter s).dockets = s.dockets ∧ (resetPrinter s).roundDue = s.roundDue ∧ (resetPrinter s).transport = s.transport ∧ (resetPrinter s).sensors = s.sensors ∧ (resetPrinter s).bins = s.bins ∧ (resetPrinter s).health = s.health ∧ (resetPrinter s).pageWaiters = s.pageWaiters ∧ (resetPrinter s).event = s.event ∧ (resetPrinter s).out = s.out := by
  unfold resetPrinter; (try dsimp only); (repeat' split) <;> simp

@[simp] theorem askAt_frame (st : Station) (p : Purpose) (s : State) :
    (askAt st p s).pending = s.pending ∧ (askAt st p s).tower = s.tower ∧ (askAt st p s).regs = s.regs ∧ (askAt st p s).board = s.board ∧ (askAt st p s).faults = s.faults ∧ (askAt st p s).jobs = s.jobs ∧ (askAt st p s).dockets = s.dockets ∧ (askAt st p s).roundDue = s.roundDue ∧ (askAt st p s).transport = s.transport ∧ (askAt st p s).sensors = s.sensors ∧ (askAt st p s).bins = s.bins ∧ (askAt st p s).health = s.health ∧ (askAt st p s).pageWaiters = s.pageWaiters ∧ (askAt st p s).printer = s.printer ∧ (askAt st p s).event = s.event := by
  unfold askAt; (try dsimp only); (repeat' split) <;> simp

@[simp] theorem closeAt_frame (st : Station) (s : State) :
    (closeAt st s).pending = s.pending ∧ (closeAt st s).tower = s.tower ∧ (closeAt st s).regs = s.regs ∧ (closeAt st s).board = s.board ∧ (closeAt st s).faults = s.faults ∧ (closeAt st s).jobs = s.jobs ∧ (closeAt st s).dockets = s.dockets ∧ (closeAt st s).roundDue = s.roundDue ∧ (closeAt st s).transport = s.transport ∧ (closeAt st s).sensors = s.sensors ∧ (closeAt st s).bins = s.bins ∧ (closeAt st s).health = s.health ∧ (closeAt st s).pageWaiters = s.pageWaiters ∧ (closeAt st s).printer = s.printer ∧ (closeAt st s).event = s.event := by
  unfold closeAt; (try dsimp only); (repeat' split) <;> simp

@[simp] theorem grantTask_frame (t : Task) (s : State) :
    (grantTask t s).pending = s.pending ∧ (grantTask t s).tower = s.tower ∧ (grantTask t s).regs = s.regs ∧ (grantTask t s).board = s.board ∧ (grantTask t s).sensors = s.sensors ∧ (grantTask t s).bins = s.bins ∧ (grantTask t s).pageWaiters = s.pageWaiters ∧ (grantTask t s).printer = s.printer ∧ (grantTask t s).event = s.event := by
  unfold grantTask; (try dsimp only); (repeat' split) <;> simp

theorem grant_frame (s : State) (t : State) (h : grant s = some t) :
    t.pending = s.pending ∧ t.tower = s.tower ∧ t.regs = s.regs ∧ t.board = s.board ∧ t.sensors = s.sensors ∧ t.bins = s.bins ∧ t.pageWaiters = s.pageWaiters ∧ t.printer = s.printer ∧ t.event = s.event := by
  revert h; unfold grant; (repeat' split) <;> simp <;> intros <;> subst_vars <;> simp

@[simp] theorem driveSwing_frame (side : Side) (s : State) :
    (driveSwing side s).pending = s.pending ∧ (driveSwing side s).tower = s.tower ∧ (driveSwing side s).regs = s.regs ∧ (driveSwing side s).board = s.board ∧ (driveSwing side s).faults = s.faults ∧ (driveSwing side s).jobs = s.jobs ∧ (driveSwing side s).dockets = s.dockets ∧ (driveSwing side s).roundDue = s.roundDue ∧ (driveSwing side s).sensors = s.sensors ∧ (driveSwing side s).bins = s.bins ∧ (driveSwing side s).bays = s.bays ∧ (driveSwing side s).health = s.health ∧ (driveSwing side s).pageWaiters = s.pageWaiters ∧ (driveSwing side s).engine = s.engine ∧ (driveSwing side s).printer = s.printer ∧ (driveSwing side s).event = s.event ∧ (driveSwing side s).out = s.out := by
  unfold driveSwing; (try dsimp only); (repeat' split) <;> simp

@[simp] theorem stopSwing_frame (s : State) :
    (stopSwing s).pending = s.pending ∧ (stopSwing s).tower = s.tower ∧ (stopSwing s).regs = s.regs ∧ (stopSwing s).board = s.board ∧ (stopSwing s).faults = s.faults ∧ (stopSwing s).jobs = s.jobs ∧ (stopSwing s).dockets = s.dockets ∧ (stopSwing s).roundDue = s.roundDue ∧ (stopSwing s).sensors = s.sensors ∧ (stopSwing s).bins = s.bins ∧ (stopSwing s).bays = s.bays ∧ (stopSwing s).health = s.health ∧ (stopSwing s).pageWaiters = s.pageWaiters ∧ (stopSwing s).engine = s.engine ∧ (stopSwing s).printer = s.printer ∧ (stopSwing s).event = s.event ∧ (stopSwing s).out = s.out := by
  unfold stopSwing; (try dsimp only); (repeat' split) <;> simp

@[simp] theorem dropFault_frame (place : Option Place) (s : State) :
    (dropFault place s).pending = s.pending ∧ (dropFault place s).board = s.board ∧ (dropFault place s).jobs = s.jobs ∧ (dropFault place s).sensors = s.sensors ∧ (dropFault place s).bins = s.bins ∧ (dropFault place s).event = s.event := by
  unfold dropFault; (try dsimp only); (repeat' split) <;> simp

@[simp] theorem pickEmpty_frame (i : InputBin) (s : State) :
    (pickEmpty i s).pending = s.pending ∧ (pickEmpty i s).tower = s.tower ∧ (pickEmpty i s).regs = s.regs ∧ (pickEmpty i s).board = s.board ∧ (pickEmpty i s).sensors = s.sensors ∧ (pickEmpty i s).pageWaiters = s.pageWaiters ∧ (pickEmpty i s).printer = s.printer ∧ (pickEmpty i s).event = s.event := by
  unfold pickEmpty; (try dsimp only); (repeat' split) <;> simp

@[simp] theorem startDescent_frame (i : InputBin) (s : State) :
    (startDescent i s).pending = s.pending ∧ (startDescent i s).tower = s.tower ∧ (startDescent i s).regs = s.regs ∧ (startDescent i s).board = s.board ∧ (startDescent i s).faults = s.faults ∧ (startDescent i s).jobs = s.jobs ∧ (startDescent i s).dockets = s.dockets ∧ (startDescent i s).roundDue = s.roundDue ∧ (startDescent i s).sensors = s.sensors ∧ (startDescent i s).bins = s.bins ∧ (startDescent i s).bays = s.bays ∧ (startDescent i s).health = s.health ∧ (startDescent i s).pageWaiters = s.pageWaiters ∧ (startDescent i s).engine = s.engine ∧ (startDescent i s).printer = s.printer ∧ (startDescent i s).event = s.event ∧ (startDescent i s).out = s.out := by
  unfold startDescent; (try dsimp only); (repeat' split) <;> simp

@[simp] theorem readStack_frame (i : InputBin) (s : State) :
    (readStack i s).pending = s.pending ∧ (readStack i s).tower = s.tower ∧ (readStack i s).regs = s.regs ∧ (readStack i s).board = s.board ∧ (readStack i s).sensors = s.sensors ∧ (readStack i s).pageWaiters = s.pageWaiters ∧ (readStack i s).printer = s.printer ∧ (readStack i s).event = s.event := by
  unfold readStack; (try dsimp only); (repeat' split) <;> simp

theorem readyPick_frame (s : State) (t : State) (h : readyPick s = some t) :
    t.pending = s.pending ∧ t.tower = s.tower ∧ t.regs = s.regs ∧ t.board = s.board ∧ t.sensors = s.sensors ∧ t.pageWaiters = s.pageWaiters ∧ t.printer = s.printer ∧ t.event = s.event := by
  revert h; unfold readyPick; (repeat' split) <;> intro h <;> (try (cases h; done)) <;> (cases h; simp)

theorem readyPlace_frame (s : State) (t : State) (h : readyPlace s = some t) :
    t.pending = s.pending ∧ t.tower = s.tower ∧ t.regs = s.regs ∧ t.board = s.board ∧ t.faults = s.faults ∧ t.jobs = s.jobs ∧ t.dockets = s.dockets ∧ t.roundDue = s.roundDue ∧ t.sensors = s.sensors ∧ t.bins = s.bins ∧ t.bays = s.bays ∧ t.health = s.health ∧ t.pageWaiters = s.pageWaiters ∧ t.engine = s.engine ∧ t.printer = s.printer ∧ t.event = s.event ∧ t.out = s.out := by
  revert h; unfold readyPlace; (repeat' split) <;> simp <;> intros <;> subst_vars <;> simp

@[simp] theorem resumeErrand_frame (p : Purpose) (e : Errand) (s : State) :
    (resumeErrand p e s).pending = s.pending ∧ (resumeErrand p e s).tower = s.tower ∧ (resumeErrand p e s).regs = s.regs ∧ (resumeErrand p e s).board = s.board ∧ (resumeErrand p e s).faults = s.faults ∧ (resumeErrand p e s).jobs = s.jobs ∧ (resumeErrand p e s).dockets = s.dockets ∧ (resumeErrand p e s).roundDue = s.roundDue ∧ (resumeErrand p e s).sensors = s.sensors ∧ (resumeErrand p e s).bins = s.bins ∧ (resumeErrand p e s).health = s.health ∧ (resumeErrand p e s).pageWaiters = s.pageWaiters ∧ (resumeErrand p e s).printer = s.printer ∧ (resumeErrand p e s).event = s.event := by
  unfold resumeErrand; (try dsimp only); (repeat' split) <;> simp

@[simp] theorem resumeTask_frame (t : Task) (e : Errand) (s : State) :
    (resumeTask t e s).pending = s.pending ∧ (resumeTask t e s).tower = s.tower ∧ (resumeTask t e s).regs = s.regs ∧ (resumeTask t e s).board = s.board ∧ (resumeTask t e s).jobs = s.jobs ∧ (resumeTask t e s).sensors = s.sensors ∧ (resumeTask t e s).bins = s.bins ∧ (resumeTask t e s).event = s.event := by
  unfold resumeTask; (try dsimp only); (repeat' split) <;> simp

@[simp] theorem resumeSweep_frame (s : State) :
    (resumeSweep s).pending = s.pending ∧ (resumeSweep s).tower = s.tower ∧ (resumeSweep s).regs = s.regs ∧ (resumeSweep s).board = s.board ∧ (resumeSweep s).faults = s.faults ∧ (resumeSweep s).jobs = s.jobs ∧ (resumeSweep s).dockets = s.dockets ∧ (resumeSweep s).roundDue = s.roundDue ∧ (resumeSweep s).sensors = s.sensors ∧ (resumeSweep s).bins = s.bins ∧ (resumeSweep s).health = s.health ∧ (resumeSweep s).pageWaiters = s.pageWaiters ∧ (resumeSweep s).printer = s.printer ∧ (resumeSweep s).event = s.event := by
  unfold resumeSweep; (try dsimp only); (repeat' split) <;> simp

@[simp] theorem enterDiscovering_frame (s : State) :
    (enterDiscovering s).pending = s.pending ∧ (enterDiscovering s).regs = s.regs ∧ (enterDiscovering s).board = s.board ∧ (enterDiscovering s).faults = s.faults ∧ (enterDiscovering s).jobs = s.jobs ∧ (enterDiscovering s).dockets = s.dockets ∧ (enterDiscovering s).transport = s.transport ∧ (enterDiscovering s).sensors = s.sensors ∧ (enterDiscovering s).bins = s.bins ∧ (enterDiscovering s).health = s.health ∧ (enterDiscovering s).pageWaiters = s.pageWaiters ∧ (enterDiscovering s).printer = s.printer ∧ (enterDiscovering s).event = s.event := by
  unfold enterDiscovering; exact ⟨(foldl_same (fun u : State => u.pending) _ (by intro a b; (try split) <;> simp) _ _).trans (by simp), (foldl_same (fun u : State => u.regs) _ (by intro a b; (try split) <;> simp) _ _).trans (by simp), (foldl_same (fun u : State => u.board) _ (by intro a b; (try split) <;> simp) _ _).trans (by simp), (foldl_same (fun u : State => u.faults) _ (by intro a b; (try split) <;> simp) _ _).trans (by simp), (foldl_same (fun u : State => u.jobs) _ (by intro a b; (try split) <;> simp) _ _).trans (by simp), (foldl_same (fun u : State => u.dockets) _ (by intro a b; (try split) <;> simp) _ _).trans (by simp), (foldl_same (fun u : State => u.transport) _ (by intro a b; (try split) <;> simp) _ _).trans (by simp), (foldl_same (fun u : State => u.sensors) _ (by intro a b; (try split) <;> simp) _ _).trans (by simp), (foldl_same (fun u : State => u.bins) _ (by intro a b; (try split) <;> simp) _ _).trans (by simp), (foldl_same (fun u : State => u.health) _ (by intro a b; (try split) <;> simp) _ _).trans (by simp), (foldl_same (fun u : State => u.pageWaiters) _ (by intro a b; (try split) <;> simp) _ _).trans (by simp), (foldl_same (fun u : State => u.printer) _ (by intro a b; (try split) <;> simp) _ _).trans (by simp), (foldl_same (fun u : State => u.event) _ (by intro a b; (try split) <;> simp) _ _).trans (by simp)⟩

@[simp] theorem trustCount_frame (s : State) :
    (trustCount s).pending = s.pending ∧ (trustCount s).tower = s.tower ∧ (trustCount s).regs = s.regs ∧ (trustCount s).board = s.board ∧ (trustCount s).faults = s.faults ∧ (trustCount s).jobs = s.jobs ∧ (trustCount s).dockets = s.dockets ∧ (trustCount s).roundDue = s.roundDue ∧ (trustCount s).sensors = s.sensors ∧ (trustCount s).bins = s.bins ∧ (trustCount s).bays = s.bays ∧ (trustCount s).health = s.health ∧ (trustCount s).pageWaiters = s.pageWaiters ∧ (trustCount s).engine = s.engine ∧ (trustCount s).printer = s.printer ∧ (trustCount s).event = s.event ∧ (trustCount s).out = s.out := by
  unfold trustCount; (try dsimp only); (repeat' split) <;> simp

@[simp] theorem finishHoming_frame (s : State) :
    (finishHoming s).pending = s.pending ∧ (finishHoming s).regs = s.regs ∧ (finishHoming s).board = s.board ∧ (finishHoming s).jobs = s.jobs ∧ (finishHoming s).sensors = s.sensors ∧ (finishHoming s).bins = s.bins ∧ (finishHoming s).event = s.event := by
  unfold finishHoming; (try dsimp only); (repeat' split) <;> simp

@[simp] theorem homeReached_frame (s : State) :
    (homeReached s).pending = s.pending ∧ (homeReached s).tower = s.tower ∧ (homeReached s).regs = s.regs ∧ (homeReached s).board = s.board ∧ (homeReached s).faults = s.faults ∧ (homeReached s).jobs = s.jobs ∧ (homeReached s).dockets = s.dockets ∧ (homeReached s).roundDue = s.roundDue ∧ (homeReached s).sensors = s.sensors ∧ (homeReached s).bins = s.bins ∧ (homeReached s).bays = s.bays ∧ (homeReached s).health = s.health ∧ (homeReached s).pageWaiters = s.pageWaiters ∧ (homeReached s).engine = s.engine ∧ (homeReached s).printer = s.printer ∧ (homeReached s).event = s.event ∧ (homeReached s).out = s.out := by
  unfold homeReached; (try dsimp only); (repeat' split) <;> simp

@[simp] theorem homeDownFrom_frame (s : State) :
    (homeDownFrom s).pending = s.pending ∧ (homeDownFrom s).tower = s.tower ∧ (homeDownFrom s).regs = s.regs ∧ (homeDownFrom s).board = s.board ∧ (homeDownFrom s).faults = s.faults ∧ (homeDownFrom s).jobs = s.jobs ∧ (homeDownFrom s).dockets = s.dockets ∧ (homeDownFrom s).roundDue = s.roundDue ∧ (homeDownFrom s).sensors = s.sensors ∧ (homeDownFrom s).bins = s.bins ∧ (homeDownFrom s).bays = s.bays ∧ (homeDownFrom s).health = s.health ∧ (homeDownFrom s).pageWaiters = s.pageWaiters ∧ (homeDownFrom s).engine = s.engine ∧ (homeDownFrom s).printer = s.printer ∧ (homeDownFrom s).event = s.event ∧ (homeDownFrom s).out = s.out := by
  unfold homeDownFrom; (try dsimp only); (repeat' split) <;> simp

@[simp] theorem placedAtPrinter_frame (s : State) :
    (placedAtPrinter s).pending = s.pending ∧ (placedAtPrinter s).tower = s.tower ∧ (placedAtPrinter s).regs = s.regs ∧ (placedAtPrinter s).board = s.board ∧ (placedAtPrinter s).faults = s.faults ∧ (placedAtPrinter s).jobs = s.jobs ∧ (placedAtPrinter s).roundDue = s.roundDue ∧ (placedAtPrinter s).sensors = s.sensors ∧ (placedAtPrinter s).bins = s.bins ∧ (placedAtPrinter s).bays = s.bays ∧ (placedAtPrinter s).health = s.health ∧ (placedAtPrinter s).pageWaiters = s.pageWaiters ∧ (placedAtPrinter s).event = s.event ∧ (placedAtPrinter s).out = s.out := by
  unfold placedAtPrinter; (try dsimp only); (repeat' split) <;> simp

theorem armStep_frame (s : State) (t : State) (h : armStep s = some t) :
    t.pending = s.pending ∧ t.regs = s.regs ∧ t.board = s.board ∧ t.sensors = s.sensors ∧ t.event = s.event := by
  revert h; unfold armStep; split
  · split <;> (try split) <;> (try split) <;> intro h <;> (try simp at h) <;> first | (subst h; simp; done) | (have := readyPick_frame _ _ h; simp_all; done) | (have := readyPlace_frame _ _ h; simp_all; done) | (revert h; unfold turnStep; (repeat' split) <;> intro h <;> simp at h <;> subst h <;> simp; done) | (obtain ⟨_, _, h⟩ := h; subst h; simp; done) | (obtain ⟨_, _, _, h⟩ := h; subst h; simp)
  · intro h; simp at h

@[simp] theorem settleLift_frame (s : State) :
    (settleLift s).pending = s.pending ∧ (settleLift s).board = s.board ∧ (settleLift s).jobs = s.jobs ∧ (settleLift s).dockets = s.dockets ∧ (settleLift s).sensors = s.sensors ∧ (settleLift s).bins = s.bins ∧ (settleLift s).bays = s.bays ∧ (settleLift s).health = s.health ∧ (settleLift s).pageWaiters = s.pageWaiters ∧ (settleLift s).printer = s.printer ∧ (settleLift s).event = s.event := by
  unfold settleLift; (try dsimp only); (repeat' split) <;> simp

@[simp] theorem pickSuccess_frame (t : Task) (s : State) :
    (pickSuccess t s).pending = s.pending ∧ (pickSuccess t s).tower = s.tower ∧ (pickSuccess t s).regs = s.regs ∧ (pickSuccess t s).board = s.board ∧ (pickSuccess t s).faults = s.faults ∧ (pickSuccess t s).roundDue = s.roundDue ∧ (pickSuccess t s).transport = s.transport ∧ (pickSuccess t s).sensors = s.sensors ∧ (pickSuccess t s).bins = s.bins ∧ (pickSuccess t s).bays = s.bays ∧ (pickSuccess t s).health = s.health ∧ (pickSuccess t s).pageWaiters = s.pageWaiters ∧ (pickSuccess t s).engine = s.engine ∧ (pickSuccess t s).printer = s.printer ∧ (pickSuccess t s).event = s.event ∧ (pickSuccess t s).out = s.out := by
  unfold pickSuccess; (try dsimp only); (repeat' split) <;> simp

@[simp] theorem gripOut_frame (t : Task) (s : State) :
    (gripOut t s).pending = s.pending ∧ (gripOut t s).tower = s.tower ∧ (gripOut t s).regs = s.regs ∧ (gripOut t s).board = s.board ∧ (gripOut t s).faults = s.faults ∧ (gripOut t s).jobs = s.jobs ∧ (gripOut t s).roundDue = s.roundDue ∧ (gripOut t s).transport = s.transport ∧ (gripOut t s).sensors = s.sensors ∧ (gripOut t s).bins = s.bins ∧ (gripOut t s).health = s.health ∧ (gripOut t s).pageWaiters = s.pageWaiters ∧ (gripOut t s).event = s.event := by
  unfold gripOut; (try dsimp only); (repeat' split) <;> simp

@[simp] theorem markHeld_frame (s : State) :
    (markHeld s).pending = s.pending ∧ (markHeld s).tower = s.tower ∧ (markHeld s).regs = s.regs ∧ (markHeld s).board = s.board ∧ (markHeld s).faults = s.faults ∧ (markHeld s).jobs = s.jobs ∧ (markHeld s).dockets = s.dockets ∧ (markHeld s).roundDue = s.roundDue ∧ (markHeld s).sensors = s.sensors ∧ (markHeld s).bins = s.bins ∧ (markHeld s).bays = s.bays ∧ (markHeld s).health = s.health ∧ (markHeld s).pageWaiters = s.pageWaiters ∧ (markHeld s).engine = s.engine ∧ (markHeld s).printer = s.printer ∧ (markHeld s).event = s.event ∧ (markHeld s).out = s.out := by
  unfold markHeld; (try dsimp only); (repeat' split) <;> simp

@[simp] theorem gripHold_frame (s : State) :
    (gripHold s).pending = s.pending ∧ (gripHold s).tower = s.tower ∧ (gripHold s).regs = s.regs ∧ (gripHold s).board = s.board ∧ (gripHold s).faults = s.faults ∧ (gripHold s).roundDue = s.roundDue ∧ (gripHold s).sensors = s.sensors ∧ (gripHold s).bins = s.bins ∧ (gripHold s).health = s.health ∧ (gripHold s).pageWaiters = s.pageWaiters ∧ (gripHold s).event = s.event := by
  unfold gripHold; (try dsimp only); (repeat' split) <;> simp

@[simp] theorem missDrop_frame (t : Task) (s : State) :
    (missDrop t s).pending = s.pending ∧ (missDrop t s).board = s.board ∧ (missDrop t s).jobs = s.jobs ∧ (missDrop t s).sensors = s.sensors ∧ (missDrop t s).bins = s.bins ∧ (missDrop t s).event = s.event := by
  unfold missDrop; (try dsimp only); (repeat' split) <;> simp

@[simp] theorem gripMiss_frame (s : State) :
    (gripMiss s).pending = s.pending ∧ (gripMiss s).board = s.board ∧ (gripMiss s).sensors = s.sensors ∧ (gripMiss s).event = s.event := by
  unfold gripMiss; (try dsimp only); (repeat' split) <;> simp

@[simp] theorem endGrip_frame (s : State) :
    (endGrip s).pending = s.pending ∧ (endGrip s).board = s.board ∧ (endGrip s).sensors = s.sensors ∧ (endGrip s).event = s.event := by
  unfold endGrip; (try dsimp only); (repeat' split) <;> simp

@[simp] theorem placeDone_frame (s : State) :
    (placeDone s).pending = s.pending ∧ (placeDone s).tower = s.tower ∧ (placeDone s).regs = s.regs ∧ (placeDone s).board = s.board ∧ (placeDone s).faults = s.faults ∧ (placeDone s).jobs = s.jobs ∧ (placeDone s).roundDue = s.roundDue ∧ (placeDone s).sensors = s.sensors ∧ (placeDone s).health = s.health ∧ (placeDone s).pageWaiters = s.pageWaiters ∧ (placeDone s).printer = s.printer ∧ (placeDone s).event = s.event := by
  unfold placeDone; (try dsimp only); (repeat' split) <;> simp

@[simp] theorem releaseFault_frame (s : State) :
    (releaseFault s).pending = s.pending ∧ (releaseFault s).board = s.board ∧ (releaseFault s).jobs = s.jobs ∧ (releaseFault s).sensors = s.sensors ∧ (releaseFault s).bins = s.bins ∧ (releaseFault s).printer = s.printer ∧ (releaseFault s).event = s.event := by
  unfold releaseFault; (try dsimp only); (repeat' split) <;> simp

@[simp] theorem endRelease_frame (s : State) :
    (endRelease s).pending = s.pending ∧ (endRelease s).board = s.board ∧ (endRelease s).jobs = s.jobs ∧ (endRelease s).sensors = s.sensors ∧ (endRelease s).printer = s.printer ∧ (endRelease s).event = s.event := by
  unfold endRelease; (try dsimp only); (repeat' split) <;> simp

@[simp] theorem discFalls_frame (s : State) :
    (discFalls s).pending = s.pending ∧ (discFalls s).board = s.board ∧ (discFalls s).jobs = s.jobs ∧ (discFalls s).sensors = s.sensors ∧ (discFalls s).bins = s.bins ∧ (discFalls s).event = s.event := by
  unfold discFalls; (try dsimp only); (repeat' split) <;> simp

@[simp] theorem inputDoor_frame (i : InputBin) (on : Bool) (s : State) :
    (inputDoor i on s).pending = s.pending ∧ (inputDoor i on s).tower = s.tower ∧ (inputDoor i on s).regs = s.regs ∧ (inputDoor i on s).board = s.board ∧ (inputDoor i on s).faults = s.faults ∧ (inputDoor i on s).jobs = s.jobs ∧ (inputDoor i on s).dockets = s.dockets ∧ (inputDoor i on s).transport = s.transport ∧ (inputDoor i on s).sensors = s.sensors ∧ (inputDoor i on s).bays = s.bays ∧ (inputDoor i on s).health = s.health ∧ (inputDoor i on s).pageWaiters = s.pageWaiters ∧ (inputDoor i on s).printer = s.printer ∧ (inputDoor i on s).event = s.event ∧ (inputDoor i on s).out = s.out := by
  unfold inputDoor; (try dsimp only); (repeat' split) <;> simp

@[simp] theorem outputDoor_frame (o : OutputBin) (on : Bool) (s : State) :
    (outputDoor o on s).pending = s.pending ∧ (outputDoor o on s).tower = s.tower ∧ (outputDoor o on s).regs = s.regs ∧ (outputDoor o on s).board = s.board ∧ (outputDoor o on s).faults = s.faults ∧ (outputDoor o on s).jobs = s.jobs ∧ (outputDoor o on s).dockets = s.dockets ∧ (outputDoor o on s).roundDue = s.roundDue ∧ (outputDoor o on s).transport = s.transport ∧ (outputDoor o on s).sensors = s.sensors ∧ (outputDoor o on s).bays = s.bays ∧ (outputDoor o on s).health = s.health ∧ (outputDoor o on s).pageWaiters = s.pageWaiters ∧ (outputDoor o on s).printer = s.printer ∧ (outputDoor o on s).event = s.event ∧ (outputDoor o on s).out = s.out := by
  unfold outputDoor; (try dsimp only); (repeat' split) <;> simp

@[simp] theorem sensorActs_frame (x : Sensor) (on : Bool) (s : State) :
    (sensorActs x on s).pending = s.pending ∧ (sensorActs x on s).board = s.board ∧ (sensorActs x on s).jobs = s.jobs ∧ (sensorActs x on s).sensors = s.sensors ∧ (sensorActs x on s).event = s.event := by
  unfold sensorActs; (try dsimp only); (repeat' split) <;> simp

@[simp] theorem changeSensor_frame (x : Sensor) (on : Bool) (s : State) :
    (changeSensor x on s).pending = s.pending ∧ (changeSensor x on s).board = s.board ∧ (changeSensor x on s).jobs = s.jobs ∧ (changeSensor x on s).event = s.event := by
  unfold changeSensor; (try dsimp only); (repeat' split) <;> simp

@[simp] theorem beginProbe_frame (b : BayNo) (s : State) :
    (beginProbe b s).pending = s.pending ∧ (beginProbe b s).tower = s.tower ∧ (beginProbe b s).regs = s.regs ∧ (beginProbe b s).board = s.board ∧ (beginProbe b s).faults = s.faults ∧ (beginProbe b s).jobs = s.jobs ∧ (beginProbe b s).dockets = s.dockets ∧ (beginProbe b s).roundDue = s.roundDue ∧ (beginProbe b s).transport = s.transport ∧ (beginProbe b s).sensors = s.sensors ∧ (beginProbe b s).bins = s.bins ∧ (beginProbe b s).health = s.health ∧ (beginProbe b s).pageWaiters = s.pageWaiters ∧ (beginProbe b s).printer = s.printer ∧ (beginProbe b s).event = s.event := by
  unfold beginProbe; (try dsimp only); (repeat' split) <;> simp

theorem endDiscovering_frame (s : State) (t : State) (h : endDiscovering s = some t) :
    t.pending = s.pending ∧ t.regs = s.regs ∧ t.board = s.board ∧ t.faults = s.faults ∧ t.jobs = s.jobs ∧ t.dockets = s.dockets ∧ t.sensors = s.sensors ∧ t.bins = s.bins ∧ t.health = s.health ∧ t.pageWaiters = s.pageWaiters ∧ t.printer = s.printer ∧ t.event = s.event := by
  revert h; unfold endDiscovering; split
  · intro h; simp only [Option.some.injEq] at h; subst h; exact ⟨(foldl_same (fun u : State => u.pending) _ (by intro a b; (try split) <;> simp) _ _).trans (by simp), (foldl_same (fun u : State => u.regs) _ (by intro a b; (try split) <;> simp) _ _).trans (by simp), (foldl_same (fun u : State => u.board) _ (by intro a b; (try split) <;> simp) _ _).trans (by simp), (foldl_same (fun u : State => u.faults) _ (by intro a b; (try split) <;> simp) _ _).trans (by simp), (foldl_same (fun u : State => u.jobs) _ (by intro a b; (try split) <;> simp) _ _).trans (by simp), (foldl_same (fun u : State => u.dockets) _ (by intro a b; (try split) <;> simp) _ _).trans (by simp), (foldl_same (fun u : State => u.sensors) _ (by intro a b; (try split) <;> simp) _ _).trans (by simp), (foldl_same (fun u : State => u.bins) _ (by intro a b; (try split) <;> simp) _ _).trans (by simp), (foldl_same (fun u : State => u.health) _ (by intro a b; (try split) <;> simp) _ _).trans (by simp), (foldl_same (fun u : State => u.pageWaiters) _ (by intro a b; (try split) <;> simp) _ _).trans (by simp), (foldl_same (fun u : State => u.printer) _ (by intro a b; (try split) <;> simp) _ _).trans (by simp), (foldl_same (fun u : State => u.event) _ (by intro a b; (try split) <;> simp) _ _).trans (by simp)⟩
  · intro h; simp at h

@[simp] theorem setStage_frame (st : SweepStage) (s : State) :
    (setStage st s).pending = s.pending ∧ (setStage st s).tower = s.tower ∧ (setStage st s).regs = s.regs ∧ (setStage st s).board = s.board ∧ (setStage st s).faults = s.faults ∧ (setStage st s).jobs = s.jobs ∧ (setStage st s).dockets = s.dockets ∧ (setStage st s).roundDue = s.roundDue ∧ (setStage st s).sensors = s.sensors ∧ (setStage st s).bins = s.bins ∧ (setStage st s).bays = s.bays ∧ (setStage st s).health = s.health ∧ (setStage st s).pageWaiters = s.pageWaiters ∧ (setStage st s).engine = s.engine ∧ (setStage st s).printer = s.printer ∧ (setStage st s).event = s.event ∧ (setStage st s).out = s.out := by
  unfold setStage; (try dsimp only); (repeat' split) <;> simp

@[simp] theorem sweepBay_frame (b : BayNo) (rest : List BayNo) (s : State) :
    (sweepBay b rest s).pending = s.pending ∧ (sweepBay b rest s).tower = s.tower ∧ (sweepBay b rest s).regs = s.regs ∧ (sweepBay b rest s).board = s.board ∧ (sweepBay b rest s).faults = s.faults ∧ (sweepBay b rest s).jobs = s.jobs ∧ (sweepBay b rest s).dockets = s.dockets ∧ (sweepBay b rest s).roundDue = s.roundDue ∧ (sweepBay b rest s).sensors = s.sensors ∧ (sweepBay b rest s).bins = s.bins ∧ (sweepBay b rest s).health = s.health ∧ (sweepBay b rest s).pageWaiters = s.pageWaiters ∧ (sweepBay b rest s).printer = s.printer ∧ (sweepBay b rest s).event = s.event := by
  unfold sweepBay; (try dsimp only); (repeat' split) <;> simp

theorem sweepStep_frame (s : State) (t : State) (h : sweepStep s = some t) :
    t.pending = s.pending ∧ t.regs = s.regs ∧ t.board = s.board ∧ t.faults = s.faults ∧ t.jobs = s.jobs ∧ t.dockets = s.dockets ∧ t.sensors = s.sensors ∧ t.bins = s.bins ∧ t.health = s.health ∧ t.pageWaiters = s.pageWaiters ∧ t.printer = s.printer ∧ t.event = s.event := by
  revert h; unfold sweepStep; (repeat' split) <;> simp <;> intros <;> subst_vars <;> simp

@[simp] theorem beginScan_frame (s : State) :
    (beginScan s).pending = s.pending ∧ (beginScan s).tower = s.tower ∧ (beginScan s).regs = s.regs ∧ (beginScan s).faults = s.faults ∧ (beginScan s).jobs = s.jobs ∧ (beginScan s).dockets = s.dockets ∧ (beginScan s).roundDue = s.roundDue ∧ (beginScan s).transport = s.transport ∧ (beginScan s).sensors = s.sensors ∧ (beginScan s).bins = s.bins ∧ (beginScan s).bays = s.bays ∧ (beginScan s).health = s.health ∧ (beginScan s).pageWaiters = s.pageWaiters ∧ (beginScan s).engine = s.engine ∧ (beginScan s).printer = s.printer ∧ (beginScan s).event = s.event ∧ (beginScan s).out = s.out := by
  unfold beginScan; (try dsimp only); (repeat' split) <;> simp

@[simp] theorem requestScan_frame (s : State) :
    (requestScan s).pending = s.pending ∧ (requestScan s).tower = s.tower ∧ (requestScan s).regs = s.regs ∧ (requestScan s).faults = s.faults ∧ (requestScan s).jobs = s.jobs ∧ (requestScan s).dockets = s.dockets ∧ (requestScan s).roundDue = s.roundDue ∧ (requestScan s).transport = s.transport ∧ (requestScan s).sensors = s.sensors ∧ (requestScan s).bins = s.bins ∧ (requestScan s).bays = s.bays ∧ (requestScan s).health = s.health ∧ (requestScan s).pageWaiters = s.pageWaiters ∧ (requestScan s).engine = s.engine ∧ (requestScan s).printer = s.printer ∧ (requestScan s).event = s.event ∧ (requestScan s).out = s.out := by
  unfold requestScan; (try dsimp only); (repeat' split) <;> simp

@[simp] theorem setScan_frame (c : Option Scan) (s : State) :
    (setScan c s).pending = s.pending ∧ (setScan c s).tower = s.tower ∧ (setScan c s).regs = s.regs ∧ (setScan c s).faults = s.faults ∧ (setScan c s).jobs = s.jobs ∧ (setScan c s).dockets = s.dockets ∧ (setScan c s).roundDue = s.roundDue ∧ (setScan c s).transport = s.transport ∧ (setScan c s).sensors = s.sensors ∧ (setScan c s).bins = s.bins ∧ (setScan c s).bays = s.bays ∧ (setScan c s).health = s.health ∧ (setScan c s).pageWaiters = s.pageWaiters ∧ (setScan c s).engine = s.engine ∧ (setScan c s).printer = s.printer ∧ (setScan c s).event = s.event ∧ (setScan c s).out = s.out := by
  unfold setScan; (try dsimp only); (repeat' split) <;> simp

@[simp] theorem scanTimerEnds_frame (s : State) :
    (scanTimerEnds s).pending = s.pending ∧ (scanTimerEnds s).tower = s.tower ∧ (scanTimerEnds s).regs = s.regs ∧ (scanTimerEnds s).faults = s.faults ∧ (scanTimerEnds s).jobs = s.jobs ∧ (scanTimerEnds s).dockets = s.dockets ∧ (scanTimerEnds s).roundDue = s.roundDue ∧ (scanTimerEnds s).transport = s.transport ∧ (scanTimerEnds s).sensors = s.sensors ∧ (scanTimerEnds s).bins = s.bins ∧ (scanTimerEnds s).bays = s.bays ∧ (scanTimerEnds s).health = s.health ∧ (scanTimerEnds s).pageWaiters = s.pageWaiters ∧ (scanTimerEnds s).engine = s.engine ∧ (scanTimerEnds s).printer = s.printer ∧ (scanTimerEnds s).event = s.event ∧ (scanTimerEnds s).out = s.out := by
  unfold scanTimerEnds; (try dsimp only); (repeat' split) <;> simp

theorem presentBoard_frame (s : State) (t : State) (h : presentBoard s = some t) :
    t.pending = s.pending ∧ t.tower = s.tower ∧ t.regs = s.regs ∧ t.faults = s.faults ∧ t.jobs = s.jobs ∧ t.dockets = s.dockets ∧ t.roundDue = s.roundDue ∧ t.transport = s.transport ∧ t.sensors = s.sensors ∧ t.bins = s.bins ∧ t.health = s.health ∧ t.pageWaiters = s.pageWaiters ∧ t.printer = s.printer ∧ t.event = s.event ∧ t.out = s.out := by
  revert h; unfold presentBoard; (repeat' split) <;> simp <;> intros <;> subst_vars <;> simp

@[simp] theorem abandonScan_frame (s : State) :
    (abandonScan s).pending = s.pending ∧ (abandonScan s).tower = s.tower ∧ (abandonScan s).regs = s.regs ∧ (abandonScan s).faults = s.faults ∧ (abandonScan s).jobs = s.jobs ∧ (abandonScan s).dockets = s.dockets ∧ (abandonScan s).roundDue = s.roundDue ∧ (abandonScan s).transport = s.transport ∧ (abandonScan s).sensors = s.sensors ∧ (abandonScan s).bins = s.bins ∧ (abandonScan s).health = s.health ∧ (abandonScan s).pageWaiters = s.pageWaiters ∧ (abandonScan s).printer = s.printer ∧ (abandonScan s).event = s.event ∧ (abandonScan s).out = s.out := by
  unfold abandonScan; (try dsimp only); (repeat' split) <;> simp

@[simp] theorem takeAnchor_frame (c : Scan) (bytes : List Byte) (s : State) :
    (takeAnchor c bytes s).pending = s.pending ∧ (takeAnchor c bytes s).tower = s.tower ∧ (takeAnchor c bytes s).regs = s.regs ∧ (takeAnchor c bytes s).jobs = s.jobs ∧ (takeAnchor c bytes s).dockets = s.dockets ∧ (takeAnchor c bytes s).roundDue = s.roundDue ∧ (takeAnchor c bytes s).transport = s.transport ∧ (takeAnchor c bytes s).sensors = s.sensors ∧ (takeAnchor c bytes s).bins = s.bins ∧ (takeAnchor c bytes s).health = s.health ∧ (takeAnchor c bytes s).pageWaiters = s.pageWaiters ∧ (takeAnchor c bytes s).printer = s.printer ∧ (takeAnchor c bytes s).event = s.event ∧ (takeAnchor c bytes s).out = s.out := by
  unfold takeAnchor; (try dsimp only); (repeat' split) <;> simp

@[simp] theorem arriveBoard_frame (off : Nat) (data : List Byte) (s : State) :
    (arriveBoard off data s).pending = s.pending ∧ (arriveBoard off data s).tower = s.tower ∧ (arriveBoard off data s).regs = s.regs ∧ (arriveBoard off data s).jobs = s.jobs ∧ (arriveBoard off data s).dockets = s.dockets ∧ (arriveBoard off data s).roundDue = s.roundDue ∧ (arriveBoard off data s).transport = s.transport ∧ (arriveBoard off data s).sensors = s.sensors ∧ (arriveBoard off data s).bins = s.bins ∧ (arriveBoard off data s).health = s.health ∧ (arriveBoard off data s).pageWaiters = s.pageWaiters ∧ (arriveBoard off data s).printer = s.printer ∧ (arriveBoard off data s).event = s.event ∧ (arriveBoard off data s).out = s.out := by
  unfold arriveBoard; (try dsimp only); (repeat' split) <;> simp

@[simp] theorem adoptStatus_frame (c : Scan) (s : State) :
    (adoptStatus c s).pending = s.pending ∧ (adoptStatus c s).tower = s.tower ∧ (adoptStatus c s).regs = s.regs ∧ (adoptStatus c s).faults = s.faults ∧ (adoptStatus c s).jobs = s.jobs ∧ (adoptStatus c s).dockets = s.dockets ∧ (adoptStatus c s).roundDue = s.roundDue ∧ (adoptStatus c s).transport = s.transport ∧ (adoptStatus c s).sensors = s.sensors ∧ (adoptStatus c s).bins = s.bins ∧ (adoptStatus c s).bays = s.bays ∧ (adoptStatus c s).health = s.health ∧ (adoptStatus c s).pageWaiters = s.pageWaiters ∧ (adoptStatus c s).printer = s.printer ∧ (adoptStatus c s).event = s.event ∧ (adoptStatus c s).out = s.out := by
  unfold adoptStatus; (try dsimp only); (repeat' split) <;> simp

@[simp] theorem nextScan_frame (s : State) :
    (nextScan s).pending = s.pending ∧ (nextScan s).tower = s.tower ∧ (nextScan s).regs = s.regs ∧ (nextScan s).faults = s.faults ∧ (nextScan s).jobs = s.jobs ∧ (nextScan s).dockets = s.dockets ∧ (nextScan s).roundDue = s.roundDue ∧ (nextScan s).transport = s.transport ∧ (nextScan s).sensors = s.sensors ∧ (nextScan s).bins = s.bins ∧ (nextScan s).bays = s.bays ∧ (nextScan s).health = s.health ∧ (nextScan s).pageWaiters = s.pageWaiters ∧ (nextScan s).engine = s.engine ∧ (nextScan s).printer = s.printer ∧ (nextScan s).event = s.event ∧ (nextScan s).out = s.out := by
  unfold nextScan; (try dsimp only); (repeat' split) <;> simp

@[simp] theorem configFault_frame (code : FaultCode) (s : State) :
    (configFault code s).pending = s.pending ∧ (configFault code s).tower = s.tower ∧ (configFault code s).regs = s.regs ∧ (configFault code s).board = s.board ∧ (configFault code s).jobs = s.jobs ∧ (configFault code s).dockets = s.dockets ∧ (configFault code s).roundDue = s.roundDue ∧ (configFault code s).transport = s.transport ∧ (configFault code s).sensors = s.sensors ∧ (configFault code s).bins = s.bins ∧ (configFault code s).bays = s.bays ∧ (configFault code s).health = s.health ∧ (configFault code s).pageWaiters = s.pageWaiters ∧ (configFault code s).printer = s.printer ∧ (configFault code s).event = s.event ∧ (configFault code s).out = s.out := by
  unfold configFault; (try dsimp only); (repeat' split) <;> simp

@[simp] theorem setCalibration_frame (c : Option Calibration) (s : State) :
    (setCalibration c s).pending = s.pending ∧ (setCalibration c s).regs = s.regs ∧ (setCalibration c s).board = s.board ∧ (setCalibration c s).faults = s.faults ∧ (setCalibration c s).jobs = s.jobs ∧ (setCalibration c s).dockets = s.dockets ∧ (setCalibration c s).roundDue = s.roundDue ∧ (setCalibration c s).transport = s.transport ∧ (setCalibration c s).sensors = s.sensors ∧ (setCalibration c s).bins = s.bins ∧ (setCalibration c s).bays = s.bays ∧ (setCalibration c s).health = s.health ∧ (setCalibration c s).pageWaiters = s.pageWaiters ∧ (setCalibration c s).engine = s.engine ∧ (setCalibration c s).printer = s.printer ∧ (setCalibration c s).event = s.event ∧ (setCalibration c s).out = s.out := by
  unfold setCalibration; (try dsimp only); (repeat' split) <;> simp

@[simp] theorem loadGeometry_frame (n : Nat) (m : List Byte) (s : State) :
    (loadGeometry n m s).pending = s.pending ∧ (loadGeometry n m s).regs = s.regs ∧ (loadGeometry n m s).board = s.board ∧ (loadGeometry n m s).jobs = s.jobs ∧ (loadGeometry n m s).dockets = s.dockets ∧ (loadGeometry n m s).roundDue = s.roundDue ∧ (loadGeometry n m s).transport = s.transport ∧ (loadGeometry n m s).sensors = s.sensors ∧ (loadGeometry n m s).bins = s.bins ∧ (loadGeometry n m s).bays = s.bays ∧ (loadGeometry n m s).health = s.health ∧ (loadGeometry n m s).pageWaiters = s.pageWaiters ∧ (loadGeometry n m s).printer = s.printer ∧ (loadGeometry n m s).event = s.event ∧ (loadGeometry n m s).out = s.out := by
  unfold loadGeometry; (try dsimp only); (repeat' split) <;> simp

@[simp] theorem loadPlant_frame (n : Nat) (m : List Byte) (s : State) :
    (loadPlant n m s).pending = s.pending ∧ (loadPlant n m s).tower = s.tower ∧ (loadPlant n m s).regs = s.regs ∧ (loadPlant n m s).board = s.board ∧ (loadPlant n m s).jobs = s.jobs ∧ (loadPlant n m s).dockets = s.dockets ∧ (loadPlant n m s).roundDue = s.roundDue ∧ (loadPlant n m s).transport = s.transport ∧ (loadPlant n m s).sensors = s.sensors ∧ (loadPlant n m s).bins = s.bins ∧ (loadPlant n m s).pageWaiters = s.pageWaiters ∧ (loadPlant n m s).printer = s.printer ∧ (loadPlant n m s).event = s.event ∧ (loadPlant n m s).out = s.out := by
  unfold loadPlant; (try dsimp only); (repeat' split) <;> simp

@[simp] theorem loadBins_frame (n : Nat) (m : List Byte) (s : State) :
    (loadBins n m s).pending = s.pending ∧ (loadBins n m s).tower = s.tower ∧ (loadBins n m s).regs = s.regs ∧ (loadBins n m s).board = s.board ∧ (loadBins n m s).jobs = s.jobs ∧ (loadBins n m s).dockets = s.dockets ∧ (loadBins n m s).roundDue = s.roundDue ∧ (loadBins n m s).transport = s.transport ∧ (loadBins n m s).sensors = s.sensors ∧ (loadBins n m s).bays = s.bays ∧ (loadBins n m s).health = s.health ∧ (loadBins n m s).pageWaiters = s.pageWaiters ∧ (loadBins n m s).printer = s.printer ∧ (loadBins n m s).event = s.event ∧ (loadBins n m s).out = s.out := by
  unfold loadBins; (try dsimp only); (repeat' split) <;> simp

@[simp] theorem loadHealth_frame (n : Nat) (m : List Byte) (s : State) :
    (loadHealth n m s).pending = s.pending ∧ (loadHealth n m s).tower = s.tower ∧ (loadHealth n m s).regs = s.regs ∧ (loadHealth n m s).board = s.board ∧ (loadHealth n m s).jobs = s.jobs ∧ (loadHealth n m s).dockets = s.dockets ∧ (loadHealth n m s).roundDue = s.roundDue ∧ (loadHealth n m s).transport = s.transport ∧ (loadHealth n m s).sensors = s.sensors ∧ (loadHealth n m s).bins = s.bins ∧ (loadHealth n m s).pageWaiters = s.pageWaiters ∧ (loadHealth n m s).printer = s.printer ∧ (loadHealth n m s).event = s.event := by
  have h (u : State) : ((Config.allBays.foldl (fun u b => testLimits b u) u).pending) = u.pending ∧ ((Config.allBays.foldl (fun u b => testLimits b u) u).tower) = u.tower ∧ ((Config.allBays.foldl (fun u b => testLimits b u) u).regs) = u.regs ∧ ((Config.allBays.foldl (fun u b => testLimits b u) u).board) = u.board ∧ ((Config.allBays.foldl (fun u b => testLimits b u) u).jobs) = u.jobs ∧ ((Config.allBays.foldl (fun u b => testLimits b u) u).dockets) = u.dockets ∧ ((Config.allBays.foldl (fun u b => testLimits b u) u).roundDue) = u.roundDue ∧ ((Config.allBays.foldl (fun u b => testLimits b u) u).transport) = u.transport ∧ ((Config.allBays.foldl (fun u b => testLimits b u) u).sensors) = u.sensors ∧ ((Config.allBays.foldl (fun u b => testLimits b u) u).bins) = u.bins ∧ ((Config.allBays.foldl (fun u b => testLimits b u) u).pageWaiters) = u.pageWaiters ∧ ((Config.allBays.foldl (fun u b => testLimits b u) u).printer) = u.printer ∧ ((Config.allBays.foldl (fun u b => testLimits b u) u).event) = u.event :=
    ⟨foldl_same (fun u : State => u.pending) _ (by intro a b; simp) _ _, foldl_same (fun u : State => u.tower) _ (by intro a b; simp) _ _, foldl_same (fun u : State => u.regs) _ (by intro a b; simp) _ _, foldl_same (fun u : State => u.board) _ (by intro a b; simp) _ _, foldl_same (fun u : State => u.jobs) _ (by intro a b; simp) _ _, foldl_same (fun u : State => u.dockets) _ (by intro a b; simp) _ _, foldl_same (fun u : State => u.roundDue) _ (by intro a b; simp) _ _, foldl_same (fun u : State => u.transport) _ (by intro a b; simp) _ _, foldl_same (fun u : State => u.sensors) _ (by intro a b; simp) _ _, foldl_same (fun u : State => u.bins) _ (by intro a b; simp) _ _, foldl_same (fun u : State => u.pageWaiters) _ (by intro a b; simp) _ _, foldl_same (fun u : State => u.printer) _ (by intro a b; simp) _ _, foldl_same (fun u : State => u.event) _ (by intro a b; simp) _ _⟩
  unfold loadHealth; (try dsimp only); (repeat' split) <;> simp [h]

@[simp] theorem buildMap_frame (s : State) :
    (buildMap s).pending = s.pending ∧ (buildMap s).tower = s.tower ∧ (buildMap s).regs = s.regs ∧ (buildMap s).board = s.board ∧ (buildMap s).faults = s.faults ∧ (buildMap s).jobs = s.jobs ∧ (buildMap s).dockets = s.dockets ∧ (buildMap s).roundDue = s.roundDue ∧ (buildMap s).transport = s.transport ∧ (buildMap s).sensors = s.sensors ∧ (buildMap s).bins = s.bins ∧ (buildMap s).health = s.health ∧ (buildMap s).pageWaiters = s.pageWaiters ∧ (buildMap s).printer = s.printer ∧ (buildMap s).event = s.event ∧ (buildMap s).out = s.out := by
  unfold buildMap; exact ⟨(foldl_same (fun u : State => u.pending) _ (by intro a b; (try split) <;> simp) _ _).trans (by simp), (foldl_same (fun u : State => u.tower) _ (by intro a b; (try split) <;> simp) _ _).trans (by simp), (foldl_same (fun u : State => u.regs) _ (by intro a b; (try split) <;> simp) _ _).trans (by simp), (foldl_same (fun u : State => u.board) _ (by intro a b; (try split) <;> simp) _ _).trans (by simp), (foldl_same (fun u : State => u.faults) _ (by intro a b; (try split) <;> simp) _ _).trans (by simp), (foldl_same (fun u : State => u.jobs) _ (by intro a b; (try split) <;> simp) _ _).trans (by simp), (foldl_same (fun u : State => u.dockets) _ (by intro a b; (try split) <;> simp) _ _).trans (by simp), (foldl_same (fun u : State => u.roundDue) _ (by intro a b; (try split) <;> simp) _ _).trans (by simp), (foldl_same (fun u : State => u.transport) _ (by intro a b; (try split) <;> simp) _ _).trans (by simp), (foldl_same (fun u : State => u.sensors) _ (by intro a b; (try split) <;> simp) _ _).trans (by simp), (foldl_same (fun u : State => u.bins) _ (by intro a b; (try split) <;> simp) _ _).trans (by simp), (foldl_same (fun u : State => u.health) _ (by intro a b; (try split) <;> simp) _ _).trans (by simp), (foldl_same (fun u : State => u.pageWaiters) _ (by intro a b; (try split) <;> simp) _ _).trans (by simp), (foldl_same (fun u : State => u.printer) _ (by intro a b; (try split) <;> simp) _ _).trans (by simp), (foldl_same (fun u : State => u.event) _ (by intro a b; (try split) <;> simp) _ _).trans (by simp), (foldl_same (fun u : State => u.out) _ (by intro a b; (try split) <;> simp) _ _).trans (by simp)⟩

@[simp] theorem startDrain_frame (s : State) :
    (startDrain s).pending = s.pending ∧ (startDrain s).tower = s.tower ∧ (startDrain s).regs = s.regs ∧ (startDrain s).board = s.board ∧ (startDrain s).faults = s.faults ∧ (startDrain s).jobs = s.jobs ∧ (startDrain s).dockets = s.dockets ∧ (startDrain s).roundDue = s.roundDue ∧ (startDrain s).transport = s.transport ∧ (startDrain s).sensors = s.sensors ∧ (startDrain s).bins = s.bins ∧ (startDrain s).bays = s.bays ∧ (startDrain s).pageWaiters = s.pageWaiters ∧ (startDrain s).engine = s.engine ∧ (startDrain s).printer = s.printer ∧ (startDrain s).event = s.event ∧ (startDrain s).out = s.out := by
  unfold startDrain; (try dsimp only); (repeat' split) <;> simp

@[simp] theorem towerHomes_frame (s : State) :
    (towerHomes s).pending = s.pending ∧ (towerHomes s).regs = s.regs ∧ (towerHomes s).board = s.board ∧ (towerHomes s).faults = s.faults ∧ (towerHomes s).jobs = s.jobs ∧ (towerHomes s).dockets = s.dockets ∧ (towerHomes s).sensors = s.sensors ∧ (towerHomes s).bins = s.bins ∧ (towerHomes s).bays = s.bays ∧ (towerHomes s).health = s.health ∧ (towerHomes s).pageWaiters = s.pageWaiters ∧ (towerHomes s).printer = s.printer ∧ (towerHomes s).event = s.event ∧ (towerHomes s).out = s.out := by
  unfold towerHomes; (try dsimp only); (repeat' split) <;> simp

@[simp] theorem loaderIdle_frame (s : State) :
    (loaderIdle s).pending = s.pending ∧ (loaderIdle s).regs = s.regs ∧ (loaderIdle s).board = s.board ∧ (loaderIdle s).faults = s.faults ∧ (loaderIdle s).jobs = s.jobs ∧ (loaderIdle s).dockets = s.dockets ∧ (loaderIdle s).roundDue = s.roundDue ∧ (loaderIdle s).transport = s.transport ∧ (loaderIdle s).sensors = s.sensors ∧ (loaderIdle s).bins = s.bins ∧ (loaderIdle s).bays = s.bays ∧ (loaderIdle s).health = s.health ∧ (loaderIdle s).pageWaiters = s.pageWaiters ∧ (loaderIdle s).engine = s.engine ∧ (loaderIdle s).printer = s.printer ∧ (loaderIdle s).event = s.event ∧ (loaderIdle s).out = s.out := by
  unfold loaderIdle; (try dsimp only); (repeat' split) <;> simp

@[simp] theorem loadWhole_frame (mem : ConfigRead) (s : State) :
    (loadWhole mem s).pending = s.pending ∧ (loadWhole mem s).regs = s.regs ∧ (loadWhole mem s).board = s.board ∧ (loadWhole mem s).jobs = s.jobs ∧ (loadWhole mem s).dockets = s.dockets ∧ (loadWhole mem s).sensors = s.sensors ∧ (loadWhole mem s).pageWaiters = s.pageWaiters ∧ (loadWhole mem s).event = s.event := by
  unfold loadWhole; (try dsimp only); (repeat' split) <;> simp

@[simp] theorem loadAgain_frame (mem : ConfigRead) (s : State) :
    (loadAgain mem s).pending = s.pending ∧ (loadAgain mem s).regs = s.regs ∧ (loadAgain mem s).board = s.board ∧ (loadAgain mem s).jobs = s.jobs ∧ (loadAgain mem s).dockets = s.dockets ∧ (loadAgain mem s).sensors = s.sensors ∧ (loadAgain mem s).bins = s.bins ∧ (loadAgain mem s).bays = s.bays ∧ (loadAgain mem s).health = s.health ∧ (loadAgain mem s).pageWaiters = s.pageWaiters ∧ (loadAgain mem s).printer = s.printer ∧ (loadAgain mem s).event = s.event ∧ (loadAgain mem s).out = s.out := by
  unfold loadAgain; (try dsimp only); (repeat' split) <;> simp

@[simp] theorem configEnds_frame (mem : ConfigRead) (s : State) :
    (configEnds mem s).pending = s.pending ∧ (configEnds mem s).regs = s.regs ∧ (configEnds mem s).board = s.board ∧ (configEnds mem s).jobs = s.jobs ∧ (configEnds mem s).dockets = s.dockets ∧ (configEnds mem s).sensors = s.sensors ∧ (configEnds mem s).pageWaiters = s.pageWaiters ∧ (configEnds mem s).event = s.event := by
  unfold configEnds; (try dsimp only); (repeat' split) <;> simp

@[simp] theorem stopTransport_frame (s : State) :
    (stopTransport s).pending = s.pending ∧ (stopTransport s).tower = s.tower ∧ (stopTransport s).regs = s.regs ∧ (stopTransport s).board = s.board ∧ (stopTransport s).faults = s.faults ∧ (stopTransport s).jobs = s.jobs ∧ (stopTransport s).dockets = s.dockets ∧ (stopTransport s).roundDue = s.roundDue ∧ (stopTransport s).sensors = s.sensors ∧ (stopTransport s).bins = s.bins ∧ (stopTransport s).bays = s.bays ∧ (stopTransport s).health = s.health ∧ (stopTransport s).pageWaiters = s.pageWaiters ∧ (stopTransport s).printer = s.printer ∧ (stopTransport s).event = s.event ∧ (stopTransport s).out = s.out := by
  unfold stopTransport; (try dsimp only); (repeat' split) <;> simp

@[simp] theorem closeSweepTray_frame (s : State) :
    (closeSweepTray s).pending = s.pending ∧ (closeSweepTray s).tower = s.tower ∧ (closeSweepTray s).regs = s.regs ∧ (closeSweepTray s).board = s.board ∧ (closeSweepTray s).faults = s.faults ∧ (closeSweepTray s).jobs = s.jobs ∧ (closeSweepTray s).dockets = s.dockets ∧ (closeSweepTray s).roundDue = s.roundDue ∧ (closeSweepTray s).transport = s.transport ∧ (closeSweepTray s).sensors = s.sensors ∧ (closeSweepTray s).bins = s.bins ∧ (closeSweepTray s).health = s.health ∧ (closeSweepTray s).pageWaiters = s.pageWaiters ∧ (closeSweepTray s).printer = s.printer ∧ (closeSweepTray s).event = s.event := by
  unfold closeSweepTray; (try dsimp only); (repeat' split) <;> simp

@[simp] theorem calibrate_frame (s : State) :
    (calibrate s).pending = s.pending ∧ (calibrate s).regs = s.regs ∧ (calibrate s).board = s.board ∧ (calibrate s).faults = s.faults ∧ (calibrate s).jobs = s.jobs ∧ (calibrate s).dockets = s.dockets ∧ (calibrate s).sensors = s.sensors ∧ (calibrate s).bins = s.bins ∧ (calibrate s).health = s.health ∧ (calibrate s).pageWaiters = s.pageWaiters ∧ (calibrate s).printer = s.printer ∧ (calibrate s).event = s.event := by
  unfold calibrate; (try dsimp only); (repeat' split) <;> simp

@[simp] theorem resumeTransport_frame (s : State) :
    (resumeTransport s).pending = s.pending ∧ (resumeTransport s).regs = s.regs ∧ (resumeTransport s).board = s.board ∧ (resumeTransport s).faults = s.faults ∧ (resumeTransport s).jobs = s.jobs ∧ (resumeTransport s).dockets = s.dockets ∧ (resumeTransport s).sensors = s.sensors ∧ (resumeTransport s).bins = s.bins ∧ (resumeTransport s).bays = s.bays ∧ (resumeTransport s).health = s.health ∧ (resumeTransport s).pageWaiters = s.pageWaiters ∧ (resumeTransport s).printer = s.printer ∧ (resumeTransport s).event = s.event ∧ (resumeTransport s).out = s.out := by
  unfold resumeTransport; (try dsimp only); (repeat' split) <;> simp

@[simp] theorem withdrawLines_frame (s : State) :
    (withdrawLines s).pending = s.pending ∧ (withdrawLines s).tower = s.tower ∧ (withdrawLines s).regs = s.regs ∧ (withdrawLines s).board = s.board ∧ (withdrawLines s).faults = s.faults ∧ (withdrawLines s).jobs = s.jobs ∧ (withdrawLines s).dockets = s.dockets ∧ (withdrawLines s).roundDue = s.roundDue ∧ (withdrawLines s).transport = s.transport ∧ (withdrawLines s).sensors = s.sensors ∧ (withdrawLines s).bins = s.bins ∧ (withdrawLines s).health = s.health ∧ (withdrawLines s).pageWaiters = s.pageWaiters ∧ (withdrawLines s).printer = s.printer ∧ (withdrawLines s).event = s.event ∧ (withdrawLines s).out = s.out := by
  unfold withdrawLines; (try dsimp only); (repeat' split) <;> simp

@[simp] theorem engineTowerReset_frame (s : State) :
    (engineTowerReset s).pending = s.pending ∧ (engineTowerReset s).tower = s.tower ∧ (engineTowerReset s).regs = s.regs ∧ (engineTowerReset s).board = s.board ∧ (engineTowerReset s).faults = s.faults ∧ (engineTowerReset s).jobs = s.jobs ∧ (engineTowerReset s).dockets = s.dockets ∧ (engineTowerReset s).roundDue = s.roundDue ∧ (engineTowerReset s).transport = s.transport ∧ (engineTowerReset s).sensors = s.sensors ∧ (engineTowerReset s).bins = s.bins ∧ (engineTowerReset s).health = s.health ∧ (engineTowerReset s).pageWaiters = s.pageWaiters ∧ (engineTowerReset s).printer = s.printer ∧ (engineTowerReset s).event = s.event ∧ (engineTowerReset s).out = s.out := by
  unfold engineTowerReset; (try dsimp only); (repeat' split) <;> simp

@[simp] theorem engineLinkReset_frame (s : State) :
    (engineLinkReset s).pending = s.pending ∧ (engineLinkReset s).tower = s.tower ∧ (engineLinkReset s).regs = s.regs ∧ (engineLinkReset s).board = s.board ∧ (engineLinkReset s).faults = s.faults ∧ (engineLinkReset s).jobs = s.jobs ∧ (engineLinkReset s).dockets = s.dockets ∧ (engineLinkReset s).roundDue = s.roundDue ∧ (engineLinkReset s).transport = s.transport ∧ (engineLinkReset s).sensors = s.sensors ∧ (engineLinkReset s).bins = s.bins ∧ (engineLinkReset s).health = s.health ∧ (engineLinkReset s).pageWaiters = s.pageWaiters ∧ (engineLinkReset s).printer = s.printer ∧ (engineLinkReset s).event = s.event ∧ (engineLinkReset s).out = s.out := by
  unfold engineLinkReset; (try dsimp only); (repeat' split) <;> simp

@[simp] theorem clearWork_frame (s : State) :
    (clearWork s).pending = s.pending ∧ (clearWork s).regs = s.regs ∧ (clearWork s).faults = s.faults ∧ (clearWork s).sensors = s.sensors ∧ (clearWork s).bins = s.bins ∧ (clearWork s).health = s.health ∧ (clearWork s).printer = s.printer ∧ (clearWork s).event = s.event ∧ (clearWork s).out = s.out := by
  unfold clearWork; (try dsimp only); (repeat' split) <;> simp

@[simp] theorem resetBays_frame (s : State) :
    (resetBays s).pending = s.pending ∧ (resetBays s).tower = s.tower ∧ (resetBays s).regs = s.regs ∧ (resetBays s).board = s.board ∧ (resetBays s).sensors = s.sensors ∧ (resetBays s).bins = s.bins ∧ (resetBays s).printer = s.printer ∧ (resetBays s).event = s.event := by
  unfold resetBays; exact ⟨(foldl_same (fun u : State => u.pending) _ (by intro a b; (try split) <;> simp) _ _).trans (by simp), (foldl_same (fun u : State => u.tower) _ (by intro a b; (try split) <;> simp) _ _).trans (by simp), (foldl_same (fun u : State => u.regs) _ (by intro a b; (try split) <;> simp) _ _).trans (by simp), (foldl_same (fun u : State => u.board) _ (by intro a b; (try split) <;> simp) _ _).trans (by simp), (foldl_same (fun u : State => u.sensors) _ (by intro a b; (try split) <;> simp) _ _).trans (by simp), (foldl_same (fun u : State => u.bins) _ (by intro a b; (try split) <;> simp) _ _).trans (by simp), (foldl_same (fun u : State => u.printer) _ (by intro a b; (try split) <;> simp) _ _).trans (by simp), (foldl_same (fun u : State => u.event) _ (by intro a b; (try split) <;> simp) _ _).trans (by simp)⟩

@[simp] theorem restartTower_frame (s : State) :
    (restartTower s).pending = s.pending ∧ (restartTower s).regs = s.regs ∧ (restartTower s).board = s.board ∧ (restartTower s).faults = s.faults ∧ (restartTower s).jobs = s.jobs ∧ (restartTower s).dockets = s.dockets ∧ (restartTower s).sensors = s.sensors ∧ (restartTower s).bins = s.bins ∧ (restartTower s).bays = s.bays ∧ (restartTower s).health = s.health ∧ (restartTower s).pageWaiters = s.pageWaiters ∧ (restartTower s).printer = s.printer ∧ (restartTower s).event = s.event ∧ (restartTower s).out = s.out := by
  unfold restartTower; (try dsimp only); (repeat' split) <;> simp

@[simp] theorem endBurst_frame (s : State) :
    (endBurst s).pending = s.pending ∧ (endBurst s).tower = s.tower ∧ (endBurst s).regs = s.regs ∧ (endBurst s).board = s.board ∧ (endBurst s).faults = s.faults ∧ (endBurst s).jobs = s.jobs ∧ (endBurst s).dockets = s.dockets ∧ (endBurst s).roundDue = s.roundDue ∧ (endBurst s).transport = s.transport ∧ (endBurst s).sensors = s.sensors ∧ (endBurst s).bins = s.bins ∧ (endBurst s).bays = s.bays ∧ (endBurst s).health = s.health ∧ (endBurst s).pageWaiters = s.pageWaiters ∧ (endBurst s).printer = s.printer ∧ (endBurst s).event = s.event ∧ (endBurst s).out = s.out := by
  unfold endBurst; (try dsimp only); (repeat' split) <;> simp

@[simp] theorem towerReset_frame (s : State) :
    (towerReset s).pending = s.pending ∧ (towerReset s).regs = s.regs ∧ (towerReset s).sensors = s.sensors ∧ (towerReset s).bins = s.bins ∧ (towerReset s).event = s.event := by
  unfold towerReset; (try dsimp only); (repeat' split) <;> simp

@[simp] theorem clearWindow_frame (s : State) :
    (clearWindow s).pending = s.pending ∧ (clearWindow s).tower = s.tower ∧ (clearWindow s).faults = s.faults ∧ (clearWindow s).jobs = s.jobs ∧ (clearWindow s).dockets = s.dockets ∧ (clearWindow s).roundDue = s.roundDue ∧ (clearWindow s).transport = s.transport ∧ (clearWindow s).sensors = s.sensors ∧ (clearWindow s).bins = s.bins ∧ (clearWindow s).bays = s.bays ∧ (clearWindow s).health = s.health ∧ (clearWindow s).pageWaiters = s.pageWaiters ∧ (clearWindow s).engine = s.engine ∧ (clearWindow s).printer = s.printer ∧ (clearWindow s).event = s.event ∧ (clearWindow s).out = s.out := by
  unfold clearWindow; (try dsimp only); (repeat' split) <;> simp

@[simp] theorem linkReset_frame (s : State) :
    (linkReset s).pending = s.pending ∧ (linkReset s).sensors = s.sensors ∧ (linkReset s).bins = s.bins ∧ (linkReset s).event = s.event := by
  unfold linkReset; (try dsimp only); (repeat' split) <;> simp

@[simp] theorem setScanInterval_frame (n : Option Nat) (s : State) :
    (setScanInterval n s).pending = s.pending ∧ (setScanInterval n s).tower = s.tower ∧ (setScanInterval n s).regs = s.regs ∧ (setScanInterval n s).faults = s.faults ∧ (setScanInterval n s).jobs = s.jobs ∧ (setScanInterval n s).dockets = s.dockets ∧ (setScanInterval n s).roundDue = s.roundDue ∧ (setScanInterval n s).transport = s.transport ∧ (setScanInterval n s).sensors = s.sensors ∧ (setScanInterval n s).bins = s.bins ∧ (setScanInterval n s).bays = s.bays ∧ (setScanInterval n s).health = s.health ∧ (setScanInterval n s).pageWaiters = s.pageWaiters ∧ (setScanInterval n s).engine = s.engine ∧ (setScanInterval n s).printer = s.printer ∧ (setScanInterval n s).event = s.event ∧ (setScanInterval n s).out = s.out := by
  unfold setScanInterval; (try dsimp only); (repeat' split) <;> simp

@[simp] theorem setDrain_frame (n : Option Nat) (s : State) :
    (setDrain n s).pending = s.pending ∧ (setDrain n s).tower = s.tower ∧ (setDrain n s).regs = s.regs ∧ (setDrain n s).board = s.board ∧ (setDrain n s).faults = s.faults ∧ (setDrain n s).jobs = s.jobs ∧ (setDrain n s).dockets = s.dockets ∧ (setDrain n s).roundDue = s.roundDue ∧ (setDrain n s).transport = s.transport ∧ (setDrain n s).sensors = s.sensors ∧ (setDrain n s).bins = s.bins ∧ (setDrain n s).bays = s.bays ∧ (setDrain n s).pageWaiters = s.pageWaiters ∧ (setDrain n s).engine = s.engine ∧ (setDrain n s).printer = s.printer ∧ (setDrain n s).event = s.event ∧ (setDrain n s).out = s.out := by
  unfold setDrain; (try dsimp only); (repeat' split) <;> simp

@[simp] theorem svcSetTimers_frame (scan drain : Option Nat) (s : State) :
    (svcSetTimers scan drain s).2.pending = s.pending ∧ (svcSetTimers scan drain s).2.tower = s.tower ∧ (svcSetTimers scan drain s).2.regs = s.regs ∧ (svcSetTimers scan drain s).2.faults = s.faults ∧ (svcSetTimers scan drain s).2.jobs = s.jobs ∧ (svcSetTimers scan drain s).2.dockets = s.dockets ∧ (svcSetTimers scan drain s).2.roundDue = s.roundDue ∧ (svcSetTimers scan drain s).2.transport = s.transport ∧ (svcSetTimers scan drain s).2.sensors = s.sensors ∧ (svcSetTimers scan drain s).2.bins = s.bins ∧ (svcSetTimers scan drain s).2.pageWaiters = s.pageWaiters ∧ (svcSetTimers scan drain s).2.printer = s.printer ∧ (svcSetTimers scan drain s).2.event = s.event ∧ (svcSetTimers scan drain s).2.out = s.out := by
  unfold svcSetTimers; (try dsimp only); (repeat' split) <;> simp

@[simp] theorem svcSetLimits_frame (soft hard : Nat) (s : State) :
    (svcSetLimits soft hard s).2.pending = s.pending ∧ (svcSetLimits soft hard s).2.tower = s.tower ∧ (svcSetLimits soft hard s).2.regs = s.regs ∧ (svcSetLimits soft hard s).2.board = s.board ∧ (svcSetLimits soft hard s).2.jobs = s.jobs ∧ (svcSetLimits soft hard s).2.dockets = s.dockets ∧ (svcSetLimits soft hard s).2.roundDue = s.roundDue ∧ (svcSetLimits soft hard s).2.transport = s.transport ∧ (svcSetLimits soft hard s).2.sensors = s.sensors ∧ (svcSetLimits soft hard s).2.bins = s.bins ∧ (svcSetLimits soft hard s).2.pageWaiters = s.pageWaiters ∧ (svcSetLimits soft hard s).2.printer = s.printer ∧ (svcSetLimits soft hard s).2.event = s.event := by
  unfold svcSetLimits; split
  · exact ⟨(foldl_same (fun u : State => u.pending) _ (by intro a b; (try split) <;> simp) _ _).trans (by simp), (foldl_same (fun u : State => u.tower) _ (by intro a b; (try split) <;> simp) _ _).trans (by simp), (foldl_same (fun u : State => u.regs) _ (by intro a b; (try split) <;> simp) _ _).trans (by simp), (foldl_same (fun u : State => u.board) _ (by intro a b; (try split) <;> simp) _ _).trans (by simp), (foldl_same (fun u : State => u.jobs) _ (by intro a b; (try split) <;> simp) _ _).trans (by simp), (foldl_same (fun u : State => u.dockets) _ (by intro a b; (try split) <;> simp) _ _).trans (by simp), (foldl_same (fun u : State => u.roundDue) _ (by intro a b; (try split) <;> simp) _ _).trans (by simp), (foldl_same (fun u : State => u.transport) _ (by intro a b; (try split) <;> simp) _ _).trans (by simp), (foldl_same (fun u : State => u.sensors) _ (by intro a b; (try split) <;> simp) _ _).trans (by simp), (foldl_same (fun u : State => u.bins) _ (by intro a b; (try split) <;> simp) _ _).trans (by simp), (foldl_same (fun u : State => u.pageWaiters) _ (by intro a b; (try split) <;> simp) _ _).trans (by simp), (foldl_same (fun u : State => u.printer) _ (by intro a b; (try split) <;> simp) _ _).trans (by simp), (foldl_same (fun u : State => u.event) _ (by intro a b; (try split) <;> simp) _ _).trans (by simp)⟩
  · simp

@[simp] theorem svcDesignate_frame (b : BayNo) (s : State) :
    (svcDesignate b s).2.pending = s.pending ∧ (svcDesignate b s).2.tower = s.tower ∧ (svcDesignate b s).2.regs = s.regs ∧ (svcDesignate b s).2.board = s.board ∧ (svcDesignate b s).2.faults = s.faults ∧ (svcDesignate b s).2.jobs = s.jobs ∧ (svcDesignate b s).2.dockets = s.dockets ∧ (svcDesignate b s).2.roundDue = s.roundDue ∧ (svcDesignate b s).2.transport = s.transport ∧ (svcDesignate b s).2.sensors = s.sensors ∧ (svcDesignate b s).2.bins = s.bins ∧ (svcDesignate b s).2.pageWaiters = s.pageWaiters ∧ (svcDesignate b s).2.printer = s.printer ∧ (svcDesignate b s).2.event = s.event ∧ (svcDesignate b s).2.out = s.out := by
  unfold svcDesignate; (try dsimp only); (repeat' split) <;> simp

@[simp] theorem svcDesignateNone_frame (s : State) :
    (svcDesignateNone s).2.pending = s.pending ∧ (svcDesignateNone s).2.tower = s.tower ∧ (svcDesignateNone s).2.regs = s.regs ∧ (svcDesignateNone s).2.board = s.board ∧ (svcDesignateNone s).2.jobs = s.jobs ∧ (svcDesignateNone s).2.dockets = s.dockets ∧ (svcDesignateNone s).2.transport = s.transport ∧ (svcDesignateNone s).2.sensors = s.sensors ∧ (svcDesignateNone s).2.bins = s.bins ∧ (svcDesignateNone s).2.pageWaiters = s.pageWaiters ∧ (svcDesignateNone s).2.printer = s.printer ∧ (svcDesignateNone s).2.event = s.event := by
  unfold svcDesignateNone; (try dsimp only); (repeat' split) <;> simp

@[simp] theorem reinstateRole_frame (b : BayNo) (s : State) :
    (reinstateRole b s).pending = s.pending ∧ (reinstateRole b s).tower = s.tower ∧ (reinstateRole b s).regs = s.regs ∧ (reinstateRole b s).board = s.board ∧ (reinstateRole b s).faults = s.faults ∧ (reinstateRole b s).jobs = s.jobs ∧ (reinstateRole b s).dockets = s.dockets ∧ (reinstateRole b s).roundDue = s.roundDue ∧ (reinstateRole b s).transport = s.transport ∧ (reinstateRole b s).sensors = s.sensors ∧ (reinstateRole b s).bins = s.bins ∧ (reinstateRole b s).pageWaiters = s.pageWaiters ∧ (reinstateRole b s).printer = s.printer ∧ (reinstateRole b s).event = s.event ∧ (reinstateRole b s).out = s.out := by
  unfold reinstateRole; (try dsimp only); (repeat' split) <;> simp

@[simp] theorem svcReinstate_frame (b : BayNo) (s : State) :
    (svcReinstate b s).2.pending = s.pending ∧ (svcReinstate b s).2.tower = s.tower ∧ (svcReinstate b s).2.regs = s.regs ∧ (svcReinstate b s).2.board = s.board ∧ (svcReinstate b s).2.faults = s.faults ∧ (svcReinstate b s).2.jobs = s.jobs ∧ (svcReinstate b s).2.dockets = s.dockets ∧ (svcReinstate b s).2.roundDue = s.roundDue ∧ (svcReinstate b s).2.transport = s.transport ∧ (svcReinstate b s).2.sensors = s.sensors ∧ (svcReinstate b s).2.bins = s.bins ∧ (svcReinstate b s).2.pageWaiters = s.pageWaiters ∧ (svcReinstate b s).2.printer = s.printer ∧ (svcReinstate b s).2.event = s.event := by
  unfold svcReinstate; (try dsimp only); (repeat' split) <;> simp

@[simp] theorem svcResetBay_frame (b : BayNo) (s : State) :
    (svcResetBay b s).2.pending = s.pending ∧ (svcResetBay b s).2.tower = s.tower ∧ (svcResetBay b s).2.regs = s.regs ∧ (svcResetBay b s).2.board = s.board ∧ (svcResetBay b s).2.sensors = s.sensors ∧ (svcResetBay b s).2.bins = s.bins ∧ (svcResetBay b s).2.printer = s.printer ∧ (svcResetBay b s).2.event = s.event := by
  unfold svcResetBay; (try dsimp only); (repeat' split) <;> simp

@[simp] theorem svcResume_frame (s : State) :
    (svcResume s).2.pending = s.pending ∧ (svcResume s).2.regs = s.regs ∧ (svcResume s).2.board = s.board ∧ (svcResume s).2.faults = s.faults ∧ (svcResume s).2.jobs = s.jobs ∧ (svcResume s).2.dockets = s.dockets ∧ (svcResume s).2.sensors = s.sensors ∧ (svcResume s).2.bins = s.bins ∧ (svcResume s).2.bays = s.bays ∧ (svcResume s).2.health = s.health ∧ (svcResume s).2.pageWaiters = s.pageWaiters ∧ (svcResume s).2.printer = s.printer ∧ (svcResume s).2.event = s.event ∧ (svcResume s).2.out = s.out := by
  unfold svcResume; (try dsimp only); (repeat' split) <;> simp

@[simp] theorem svcClearFaults_frame (s : State) :
    (svcClearFaults s).2.pending = s.pending ∧ (svcClearFaults s).2.tower = s.tower ∧ (svcClearFaults s).2.regs = s.regs ∧ (svcClearFaults s).2.board = s.board ∧ (svcClearFaults s).2.jobs = s.jobs ∧ (svcClearFaults s).2.dockets = s.dockets ∧ (svcClearFaults s).2.roundDue = s.roundDue ∧ (svcClearFaults s).2.transport = s.transport ∧ (svcClearFaults s).2.sensors = s.sensors ∧ (svcClearFaults s).2.bins = s.bins ∧ (svcClearFaults s).2.bays = s.bays ∧ (svcClearFaults s).2.health = s.health ∧ (svcClearFaults s).2.pageWaiters = s.pageWaiters ∧ (svcClearFaults s).2.printer = s.printer ∧ (svcClearFaults s).2.event = s.event ∧ (svcClearFaults s).2.out = s.out := by
  unfold svcClearFaults; (try dsimp only); (repeat' split) <;> simp

@[simp] theorem svcCalibrate_frame (s : State) :
    (svcCalibrate s).2.pending = s.pending ∧ (svcCalibrate s).2.regs = s.regs ∧ (svcCalibrate s).2.board = s.board ∧ (svcCalibrate s).2.faults = s.faults ∧ (svcCalibrate s).2.jobs = s.jobs ∧ (svcCalibrate s).2.dockets = s.dockets ∧ (svcCalibrate s).2.sensors = s.sensors ∧ (svcCalibrate s).2.bins = s.bins ∧ (svcCalibrate s).2.health = s.health ∧ (svcCalibrate s).2.pageWaiters = s.pageWaiters ∧ (svcCalibrate s).2.printer = s.printer ∧ (svcCalibrate s).2.event = s.event := by
  unfold svcCalibrate; (try dsimp only); (repeat' split) <;> simp

@[simp] theorem runService_frame (c : ServiceCard) (s : State) :
    (runService c s).2.pending = s.pending ∧ (runService c s).2.regs = s.regs ∧ (runService c s).2.sensors = s.sensors ∧ (runService c s).2.bins = s.bins ∧ (runService c s).2.printer = s.printer ∧ (runService c s).2.event = s.event := by
  unfold runService; (repeat' split) <;> (try unfold onBay) <;> (try split) <;> simp

@[simp] theorem acceptCard_frame (base : Nat) (i : Fin 64) (c : CopyCard) (s : State) :
    (acceptCard base i c s).2.pending = s.pending ∧ (acceptCard base i c s).2.tower = s.tower ∧ (acceptCard base i c s).2.regs = s.regs ∧ (acceptCard base i c s).2.board = s.board ∧ (acceptCard base i c s).2.faults = s.faults ∧ (acceptCard base i c s).2.dockets = s.dockets ∧ (acceptCard base i c s).2.transport = s.transport ∧ (acceptCard base i c s).2.sensors = s.sensors ∧ (acceptCard base i c s).2.bins = s.bins ∧ (acceptCard base i c s).2.bays = s.bays ∧ (acceptCard base i c s).2.health = s.health ∧ (acceptCard base i c s).2.pageWaiters = s.pageWaiters ∧ (acceptCard base i c s).2.engine = s.engine ∧ (acceptCard base i c s).2.printer = s.printer ∧ (acceptCard base i c s).2.event = s.event ∧ (acceptCard base i c s).2.out = s.out := by
  unfold acceptCard; (try dsimp only); (repeat' split) <;> simp

@[simp] theorem copyOne_frame (base : Nat) (i : Fin 64) (c : CopyCard) (s : State) :
    (copyOne base i c s).2.pending = s.pending ∧ (copyOne base i c s).2.tower = s.tower ∧ (copyOne base i c s).2.regs = s.regs ∧ (copyOne base i c s).2.board = s.board ∧ (copyOne base i c s).2.faults = s.faults ∧ (copyOne base i c s).2.dockets = s.dockets ∧ (copyOne base i c s).2.transport = s.transport ∧ (copyOne base i c s).2.sensors = s.sensors ∧ (copyOne base i c s).2.bins = s.bins ∧ (copyOne base i c s).2.bays = s.bays ∧ (copyOne base i c s).2.health = s.health ∧ (copyOne base i c s).2.pageWaiters = s.pageWaiters ∧ (copyOne base i c s).2.engine = s.engine ∧ (copyOne base i c s).2.printer = s.printer ∧ (copyOne base i c s).2.event = s.event ∧ (copyOne base i c s).2.out = s.out := by
  unfold copyOne; (try dsimp only); (repeat' split) <;> simp

@[simp] theorem copyCommand_frame (i : Fin 64) (c : CopyCard) (s : State) :
    (copyCommand i c s).pending = s.pending ∧ (copyCommand i c s).tower = s.tower ∧ (copyCommand i c s).regs = s.regs ∧ (copyCommand i c s).board = s.board ∧ (copyCommand i c s).faults = s.faults ∧ (copyCommand i c s).dockets = s.dockets ∧ (copyCommand i c s).transport = s.transport ∧ (copyCommand i c s).sensors = s.sensors ∧ (copyCommand i c s).bins = s.bins ∧ (copyCommand i c s).bays = s.bays ∧ (copyCommand i c s).health = s.health ∧ (copyCommand i c s).pageWaiters = s.pageWaiters ∧ (copyCommand i c s).printer = s.printer ∧ (copyCommand i c s).event = s.event ∧ (copyCommand i c s).out = s.out := by
  unfold copyCommand; (try dsimp only); (repeat' split) <;> simp

@[simp] theorem snapshotEnds_frame (s : State) :
    (snapshotEnds s).pending = s.pending ∧ (snapshotEnds s).regs = s.regs ∧ (snapshotEnds s).sensors = s.sensors ∧ (snapshotEnds s).bins = s.bins ∧ (snapshotEnds s).printer = s.printer ∧ (snapshotEnds s).event = s.event := by
  unfold snapshotEnds; (try dsimp only); (repeat' split) <;> simp

@[simp] theorem runAct_frame (base : Nat) (a : ScanAct) (s : State) :
    (runAct base a s).2.2.pending = s.pending ∧ (runAct base a s).2.2.regs = s.regs ∧ (runAct base a s).2.2.sensors = s.sensors ∧ (runAct base a s).2.2.bins = s.bins ∧ (runAct base a s).2.2.printer = s.printer ∧ (runAct base a s).2.2.event = s.event := by
  unfold runAct; (try dsimp only); (repeat' split) <;> simp

@[simp] theorem nextAct_frame (s : State) :
    (nextAct s).2.pending = s.pending ∧ (nextAct s).2.regs = s.regs ∧ (nextAct s).2.sensors = s.sensors ∧ (nextAct s).2.bins = s.bins ∧ (nextAct s).2.printer = s.printer ∧ (nextAct s).2.event = s.event := by
  unfold nextAct; (try dsimp only); (repeat' split) <;> simp

@[simp] theorem writeTally_frame (base : Nat) (s : State) :
    (writeTally base s).pending = s.pending ∧ (writeTally base s).tower = s.tower ∧ (writeTally base s).faults = s.faults ∧ (writeTally base s).jobs = s.jobs ∧ (writeTally base s).dockets = s.dockets ∧ (writeTally base s).roundDue = s.roundDue ∧ (writeTally base s).transport = s.transport ∧ (writeTally base s).sensors = s.sensors ∧ (writeTally base s).bins = s.bins ∧ (writeTally base s).bays = s.bays ∧ (writeTally base s).health = s.health ∧ (writeTally base s).pageWaiters = s.pageWaiters ∧ (writeTally base s).printer = s.printer ∧ (writeTally base s).event = s.event := by
  unfold writeTally; (try dsimp only); (repeat' split) <;> simp

@[simp] theorem writeProgress_frame (j : SlotNo) (s : State) :
    (writeProgress j s).pending = s.pending ∧ (writeProgress j s).tower = s.tower ∧ (writeProgress j s).regs = s.regs ∧ (writeProgress j s).board = s.board ∧ (writeProgress j s).faults = s.faults ∧ (writeProgress j s).jobs = s.jobs ∧ (writeProgress j s).dockets = s.dockets ∧ (writeProgress j s).roundDue = s.roundDue ∧ (writeProgress j s).transport = s.transport ∧ (writeProgress j s).sensors = s.sensors ∧ (writeProgress j s).bins = s.bins ∧ (writeProgress j s).bays = s.bays ∧ (writeProgress j s).health = s.health ∧ (writeProgress j s).pageWaiters = s.pageWaiters ∧ (writeProgress j s).printer = s.printer ∧ (writeProgress j s).event = s.event ∧ (writeProgress j s).out = s.out := by
  unfold writeProgress; (try dsimp only); (repeat' split) <;> simp

@[simp] theorem countDocket_frame (d : DocketNo) (s : State) :
    (countDocket d s).pending = s.pending ∧ (countDocket d s).tower = s.tower ∧ (countDocket d s).regs = s.regs ∧ (countDocket d s).board = s.board ∧ (countDocket d s).faults = s.faults ∧ (countDocket d s).dockets = s.dockets ∧ (countDocket d s).roundDue = s.roundDue ∧ (countDocket d s).transport = s.transport ∧ (countDocket d s).sensors = s.sensors ∧ (countDocket d s).bins = s.bins ∧ (countDocket d s).bays = s.bays ∧ (countDocket d s).health = s.health ∧ (countDocket d s).pageWaiters = s.pageWaiters ∧ (countDocket d s).engine = s.engine ∧ (countDocket d s).printer = s.printer ∧ (countDocket d s).event = s.event ∧ (countDocket d s).out = s.out := by
  unfold countDocket; (try dsimp only); (repeat' split) <;> simp

@[simp] theorem writeHeld_frame (b : BayNo) (g : Nat) (s : State) :
    (writeHeld b g s).pending = s.pending ∧ (writeHeld b g s).tower = s.tower ∧ (writeHeld b g s).regs = s.regs ∧ (writeHeld b g s).board = s.board ∧ (writeHeld b g s).faults = s.faults ∧ (writeHeld b g s).jobs = s.jobs ∧ (writeHeld b g s).dockets = s.dockets ∧ (writeHeld b g s).roundDue = s.roundDue ∧ (writeHeld b g s).transport = s.transport ∧ (writeHeld b g s).sensors = s.sensors ∧ (writeHeld b g s).bins = s.bins ∧ (writeHeld b g s).health = s.health ∧ (writeHeld b g s).pageWaiters = s.pageWaiters ∧ (writeHeld b g s).printer = s.printer ∧ (writeHeld b g s).event = s.event ∧ (writeHeld b g s).out = s.out := by
  unfold writeHeld; (try dsimp only); (repeat' split) <;> simp

@[simp] theorem freeSlot_frame (j : SlotNo) (s : State) :
    (freeSlot j s).pending = s.pending ∧ (freeSlot j s).tower = s.tower ∧ (freeSlot j s).regs = s.regs ∧ (freeSlot j s).faults = s.faults ∧ (freeSlot j s).dockets = s.dockets ∧ (freeSlot j s).roundDue = s.roundDue ∧ (freeSlot j s).transport = s.transport ∧ (freeSlot j s).sensors = s.sensors ∧ (freeSlot j s).bins = s.bins ∧ (freeSlot j s).bays = s.bays ∧ (freeSlot j s).health = s.health ∧ (freeSlot j s).pageWaiters = s.pageWaiters ∧ (freeSlot j s).engine = s.engine ∧ (freeSlot j s).printer = s.printer ∧ (freeSlot j s).event = s.event ∧ (freeSlot j s).out = s.out := by
  unfold freeSlot; (try dsimp only); (repeat' split) <;> simp

@[simp] theorem runTodo_frame (x : Todo) (s : State) :
    (runTodo x s).2.pending = s.pending ∧ (runTodo x s).2.sensors = s.sensors ∧ (runTodo x s).2.bins = s.bins ∧ (runTodo x s).2.printer = s.printer ∧ (runTodo x s).2.event = s.event := by
  unfold runTodo; (try dsimp only); (repeat' split) <;> simp

@[simp] theorem setAgenda_frame (l : List Thread) (s : State) :
    (setAgenda l s).pending = s.pending ∧ (setAgenda l s).tower = s.tower ∧ (setAgenda l s).regs = s.regs ∧ (setAgenda l s).board = s.board ∧ (setAgenda l s).faults = s.faults ∧ (setAgenda l s).jobs = s.jobs ∧ (setAgenda l s).dockets = s.dockets ∧ (setAgenda l s).roundDue = s.roundDue ∧ (setAgenda l s).transport = s.transport ∧ (setAgenda l s).sensors = s.sensors ∧ (setAgenda l s).bins = s.bins ∧ (setAgenda l s).bays = s.bays ∧ (setAgenda l s).health = s.health ∧ (setAgenda l s).pageWaiters = s.pageWaiters ∧ (setAgenda l s).printer = s.printer ∧ (setAgenda l s).event = s.event ∧ (setAgenda l s).out = s.out := by
  unfold setAgenda; (try dsimp only); (repeat' split) <;> simp

@[simp] theorem setWaiting_frame (l : List Thread) (s : State) :
    (setWaiting l s).pending = s.pending ∧ (setWaiting l s).tower = s.tower ∧ (setWaiting l s).regs = s.regs ∧ (setWaiting l s).board = s.board ∧ (setWaiting l s).faults = s.faults ∧ (setWaiting l s).jobs = s.jobs ∧ (setWaiting l s).dockets = s.dockets ∧ (setWaiting l s).roundDue = s.roundDue ∧ (setWaiting l s).transport = s.transport ∧ (setWaiting l s).sensors = s.sensors ∧ (setWaiting l s).bins = s.bins ∧ (setWaiting l s).bays = s.bays ∧ (setWaiting l s).health = s.health ∧ (setWaiting l s).pageWaiters = s.pageWaiters ∧ (setWaiting l s).printer = s.printer ∧ (setWaiting l s).event = s.event ∧ (setWaiting l s).out = s.out := by
  unfold setWaiting; (try dsimp only); (repeat' split) <;> simp

theorem roomStep_frame (s : State) (t : State) (h : roomStep s = some t) :
    t.pending = s.pending ∧ t.sensors = s.sensors ∧ t.bins = s.bins ∧ t.printer = s.printer ∧ t.event = s.event := by
  unfold roomStep at h; split at h
  · cases h
  · cases h; simp
  · split at h
    · rename_i x more rest _ _
      have k := runTodo_frame x (setWaiting rest s)
      cases h; simp only [setAgenda_frame, setWaiting_frame] at k ⊢; exact k
    · cases h

theorem threadStep_frame (s : State) (t : State) (h : threadStep s = some t) :
    t.pending = s.pending ∧ t.sensors = s.sensors ∧ t.bins = s.bins ∧ t.printer = s.printer ∧ t.event = s.event := by
  revert h; unfold threadStep; (repeat' split) <;> simp <;> intros <;> subst_vars <;> simp

theorem handOffRule_frame (b : BayNo) (s : State) (t : State) (h : handOffRule b s = some t) :
    t.pending = s.pending ∧ t.tower = s.tower ∧ t.regs = s.regs ∧ t.board = s.board ∧ t.faults = s.faults ∧ t.roundDue = s.roundDue ∧ t.sensors = s.sensors ∧ t.bins = s.bins ∧ t.health = s.health ∧ t.printer = s.printer ∧ t.event = s.event ∧ t.out = s.out := by
  revert h; unfold handOffRule; (repeat' split) <;> simp <;> intros <;> subst_vars <;> simp

@[simp] theorem freeFetch_frame (k : FetchNo) (s : State) :
    (freeFetch k s).pending = s.pending ∧ (freeFetch k s).tower = s.tower ∧ (freeFetch k s).regs = s.regs ∧ (freeFetch k s).board = s.board ∧ (freeFetch k s).faults = s.faults ∧ (freeFetch k s).jobs = s.jobs ∧ (freeFetch k s).dockets = s.dockets ∧ (freeFetch k s).roundDue = s.roundDue ∧ (freeFetch k s).transport = s.transport ∧ (freeFetch k s).sensors = s.sensors ∧ (freeFetch k s).bins = s.bins ∧ (freeFetch k s).bays = s.bays ∧ (freeFetch k s).health = s.health ∧ (freeFetch k s).pageWaiters = s.pageWaiters ∧ (freeFetch k s).printer = s.printer ∧ (freeFetch k s).event = s.event ∧ (freeFetch k s).out = s.out := by
  unfold freeFetch; (try dsimp only); (repeat' split) <;> simp

@[simp] theorem arriveImage_frame (b : BayNo) (g off : Nat) (data : List Byte) (s : State) :
    (arriveImage b g off data s).pending = s.pending ∧ (arriveImage b g off data s).tower = s.tower ∧ (arriveImage b g off data s).regs = s.regs ∧ (arriveImage b g off data s).board = s.board ∧ (arriveImage b g off data s).faults = s.faults ∧ (arriveImage b g off data s).jobs = s.jobs ∧ (arriveImage b g off data s).dockets = s.dockets ∧ (arriveImage b g off data s).roundDue = s.roundDue ∧ (arriveImage b g off data s).transport = s.transport ∧ (arriveImage b g off data s).sensors = s.sensors ∧ (arriveImage b g off data s).bins = s.bins ∧ (arriveImage b g off data s).health = s.health ∧ (arriveImage b g off data s).pageWaiters = s.pageWaiters ∧ (arriveImage b g off data s).engine = s.engine ∧ (arriveImage b g off data s).printer = s.printer ∧ (arriveImage b g off data s).event = s.event ∧ (arriveImage b g off data s).out = s.out := by
  unfold arriveImage; (try dsimp only); (repeat' split) <;> simp

@[simp] theorem deliver_frame (f : Fetch) (data : List Byte) (s : State) :
    (deliver f data s).pending = s.pending ∧ (deliver f data s).tower = s.tower ∧ (deliver f data s).regs = s.regs ∧ (deliver f data s).sensors = s.sensors ∧ (deliver f data s).bins = s.bins ∧ (deliver f data s).event = s.event := by
  unfold deliver; (try dsimp only); (repeat' split) <;> simp

@[simp] theorem fetchEnds_frame (k : FetchNo) (data : List Byte) (s : State) :
    (fetchEnds k data s).pending = s.pending ∧ (fetchEnds k data s).tower = s.tower ∧ (fetchEnds k data s).regs = s.regs ∧ (fetchEnds k data s).sensors = s.sensors ∧ (fetchEnds k data s).bins = s.bins ∧ (fetchEnds k data s).event = s.event := by
  unfold fetchEnds; (try dsimp only); (repeat' split) <;> simp

@[simp] theorem endCompare_frame (b : BayNo) (target : Target) (s : State) :
    (endCompare b target s).pending = s.pending ∧ (endCompare b target s).tower = s.tower ∧ (endCompare b target s).regs = s.regs ∧ (endCompare b target s).board = s.board ∧ (endCompare b target s).faults = s.faults ∧ (endCompare b target s).jobs = s.jobs ∧ (endCompare b target s).dockets = s.dockets ∧ (endCompare b target s).roundDue = s.roundDue ∧ (endCompare b target s).transport = s.transport ∧ (endCompare b target s).sensors = s.sensors ∧ (endCompare b target s).bins = s.bins ∧ (endCompare b target s).health = s.health ∧ (endCompare b target s).pageWaiters = s.pageWaiters ∧ (endCompare b target s).engine = s.engine ∧ (endCompare b target s).printer = s.printer ∧ (endCompare b target s).event = s.event ∧ (endCompare b target s).out = s.out := by
  unfold endCompare; (try dsimp only); (repeat' split) <;> simp

@[simp] theorem requesterFails_frame (f : Fetch) (s : State) :
    (requesterFails f s).pending = s.pending ∧ (requesterFails f s).tower = s.tower ∧ (requesterFails f s).regs = s.regs ∧ (requesterFails f s).sensors = s.sensors ∧ (requesterFails f s).bins = s.bins ∧ (requesterFails f s).event = s.event := by
  unfold requesterFails requesterFails.burnFails; (repeat' split) <;> simp

@[simp] theorem fetchFails_frame (code : FaultCode) (k : FetchNo) (s : State) :
    (fetchFails code k s).pending = s.pending ∧ (fetchFails code k s).tower = s.tower ∧ (fetchFails code k s).regs = s.regs ∧ (fetchFails code k s).sensors = s.sensors ∧ (fetchFails code k s).bins = s.bins ∧ (fetchFails code k s).event = s.event := by
  unfold fetchFails; (try dsimp only); (repeat' split) <;> simp

@[simp] theorem ageLine_frame (id : LineId) (s : State) :
    (ageLine id s).pending = s.pending ∧ (ageLine id s).tower = s.tower ∧ (ageLine id s).regs = s.regs ∧ (ageLine id s).board = s.board ∧ (ageLine id s).faults = s.faults ∧ (ageLine id s).jobs = s.jobs ∧ (ageLine id s).dockets = s.dockets ∧ (ageLine id s).roundDue = s.roundDue ∧ (ageLine id s).transport = s.transport ∧ (ageLine id s).sensors = s.sensors ∧ (ageLine id s).bins = s.bins ∧ (ageLine id s).health = s.health ∧ (ageLine id s).pageWaiters = s.pageWaiters ∧ (ageLine id s).printer = s.printer ∧ (ageLine id s).event = s.event ∧ (ageLine id s).out = s.out := by
  unfold ageLine; (try dsimp only); (repeat' split) <;> simp

@[simp] theorem issueBytes_frame (addr : Nat) (bytes : List Byte) (s : State) :
    (issueBytes addr bytes s).pending = s.pending ∧ (issueBytes addr bytes s).tower = s.tower ∧ (issueBytes addr bytes s).regs = s.regs ∧ (issueBytes addr bytes s).board = s.board ∧ (issueBytes addr bytes s).faults = s.faults ∧ (issueBytes addr bytes s).jobs = s.jobs ∧ (issueBytes addr bytes s).dockets = s.dockets ∧ (issueBytes addr bytes s).roundDue = s.roundDue ∧ (issueBytes addr bytes s).transport = s.transport ∧ (issueBytes addr bytes s).sensors = s.sensors ∧ (issueBytes addr bytes s).bins = s.bins ∧ (issueBytes addr bytes s).bays = s.bays ∧ (issueBytes addr bytes s).health = s.health ∧ (issueBytes addr bytes s).pageWaiters = s.pageWaiters ∧ (issueBytes addr bytes s).engine = s.engine ∧ (issueBytes addr bytes s).printer = s.printer ∧ (issueBytes addr bytes s).event = s.event := by
  unfold issueBytes; exact ⟨(foldl_same (fun u : State => u.pending) _ (by intro a b; (try split) <;> simp) _ _).trans (by simp), (foldl_same (fun u : State => u.tower) _ (by intro a b; (try split) <;> simp) _ _).trans (by simp), (foldl_same (fun u : State => u.regs) _ (by intro a b; (try split) <;> simp) _ _).trans (by simp), (foldl_same (fun u : State => u.board) _ (by intro a b; (try split) <;> simp) _ _).trans (by simp), (foldl_same (fun u : State => u.faults) _ (by intro a b; (try split) <;> simp) _ _).trans (by simp), (foldl_same (fun u : State => u.jobs) _ (by intro a b; (try split) <;> simp) _ _).trans (by simp), (foldl_same (fun u : State => u.dockets) _ (by intro a b; (try split) <;> simp) _ _).trans (by simp), (foldl_same (fun u : State => u.roundDue) _ (by intro a b; (try split) <;> simp) _ _).trans (by simp), (foldl_same (fun u : State => u.transport) _ (by intro a b; (try split) <;> simp) _ _).trans (by simp), (foldl_same (fun u : State => u.sensors) _ (by intro a b; (try split) <;> simp) _ _).trans (by simp), (foldl_same (fun u : State => u.bins) _ (by intro a b; (try split) <;> simp) _ _).trans (by simp), (foldl_same (fun u : State => u.bays) _ (by intro a b; (try split) <;> simp) _ _).trans (by simp), (foldl_same (fun u : State => u.health) _ (by intro a b; (try split) <;> simp) _ _).trans (by simp), (foldl_same (fun u : State => u.pageWaiters) _ (by intro a b; (try split) <;> simp) _ _).trans (by simp), (foldl_same (fun u : State => u.engine) _ (by intro a b; (try split) <;> simp) _ _).trans (by simp), (foldl_same (fun u : State => u.printer) _ (by intro a b; (try split) <;> simp) _ _).trans (by simp), (foldl_same (fun u : State => u.event) _ (by intro a b; (try split) <;> simp) _ _).trans (by simp)⟩

@[simp] theorem issueGeneration_frame (addr : Nat) (s : State) :
    (issueGeneration addr s).pending = s.pending ∧ (issueGeneration addr s).tower = s.tower ∧ (issueGeneration addr s).regs = s.regs ∧ (issueGeneration addr s).faults = s.faults ∧ (issueGeneration addr s).jobs = s.jobs ∧ (issueGeneration addr s).dockets = s.dockets ∧ (issueGeneration addr s).roundDue = s.roundDue ∧ (issueGeneration addr s).transport = s.transport ∧ (issueGeneration addr s).sensors = s.sensors ∧ (issueGeneration addr s).bins = s.bins ∧ (issueGeneration addr s).bays = s.bays ∧ (issueGeneration addr s).health = s.health ∧ (issueGeneration addr s).pageWaiters = s.pageWaiters ∧ (issueGeneration addr s).engine = s.engine ∧ (issueGeneration addr s).printer = s.printer ∧ (issueGeneration addr s).event = s.event := by
  unfold issueGeneration; (try dsimp only); (repeat' split) <;> simp

@[simp] theorem issueStatus_frame (addr : Nat) (s : State) :
    (issueStatus addr s).pending = s.pending ∧ (issueStatus addr s).tower = s.tower ∧ (issueStatus addr s).faults = s.faults ∧ (issueStatus addr s).jobs = s.jobs ∧ (issueStatus addr s).dockets = s.dockets ∧ (issueStatus addr s).roundDue = s.roundDue ∧ (issueStatus addr s).transport = s.transport ∧ (issueStatus addr s).sensors = s.sensors ∧ (issueStatus addr s).bins = s.bins ∧ (issueStatus addr s).bays = s.bays ∧ (issueStatus addr s).health = s.health ∧ (issueStatus addr s).pageWaiters = s.pageWaiters ∧ (issueStatus addr s).engine = s.engine ∧ (issueStatus addr s).printer = s.printer ∧ (issueStatus addr s).event = s.event := by
  unfold issueStatus; (try dsimp only); (repeat' split) <;> simp

@[simp] theorem issueOldest_frame (s : State) :
    (issueOldest s).pending = s.pending ∧ (issueOldest s).tower = s.tower ∧ (issueOldest s).faults = s.faults ∧ (issueOldest s).jobs = s.jobs ∧ (issueOldest s).dockets = s.dockets ∧ (issueOldest s).roundDue = s.roundDue ∧ (issueOldest s).transport = s.transport ∧ (issueOldest s).sensors = s.sensors ∧ (issueOldest s).bins = s.bins ∧ (issueOldest s).bays = s.bays ∧ (issueOldest s).health = s.health ∧ (issueOldest s).pageWaiters = s.pageWaiters ∧ (issueOldest s).printer = s.printer ∧ (issueOldest s).event = s.event := by
  unfold issueOldest; (try dsimp only); (repeat' split) <;> simp

@[simp] theorem writeFails_frame (n : Nat) (s : State) :
    (writeFails n s).pending = s.pending ∧ (writeFails n s).tower = s.tower ∧ (writeFails n s).regs = s.regs ∧ (writeFails n s).board = s.board ∧ (writeFails n s).jobs = s.jobs ∧ (writeFails n s).dockets = s.dockets ∧ (writeFails n s).roundDue = s.roundDue ∧ (writeFails n s).transport = s.transport ∧ (writeFails n s).sensors = s.sensors ∧ (writeFails n s).bins = s.bins ∧ (writeFails n s).bays = s.bays ∧ (writeFails n s).health = s.health ∧ (writeFails n s).pageWaiters = s.pageWaiters ∧ (writeFails n s).printer = s.printer ∧ (writeFails n s).event = s.event ∧ (writeFails n s).out = s.out := by
  unfold writeFails; (try dsimp only); (repeat' split) <;> simp

@[simp] theorem drain_frame (s : State) :
    (drain s).pending = s.pending ∧ (drain s).tower = s.tower ∧ (drain s).regs = s.regs ∧ (drain s).board = s.board ∧ (drain s).faults = s.faults ∧ (drain s).jobs = s.jobs ∧ (drain s).dockets = s.dockets ∧ (drain s).roundDue = s.roundDue ∧ (drain s).transport = s.transport ∧ (drain s).sensors = s.sensors ∧ (drain s).bins = s.bins ∧ (drain s).pageWaiters = s.pageWaiters ∧ (drain s).printer = s.printer ∧ (drain s).event = s.event ∧ (drain s).out = s.out := by
  unfold drain; (try dsimp only); (repeat' split) <;> simp

@[simp] theorem createDocket_frame (d : DocketNo) (k : SlotNo) (j : Job) (i : InputBin) (b n : BayNo) (s : State) :
    (createDocket d k j i b n s).pending = s.pending ∧ (createDocket d k j i b n s).tower = s.tower ∧ (createDocket d k j i b n s).regs = s.regs ∧ (createDocket d k j i b n s).board = s.board ∧ (createDocket d k j i b n s).faults = s.faults ∧ (createDocket d k j i b n s).roundDue = s.roundDue ∧ (createDocket d k j i b n s).sensors = s.sensors ∧ (createDocket d k j i b n s).bins = s.bins ∧ (createDocket d k j i b n s).health = s.health ∧ (createDocket d k j i b n s).pageWaiters = s.pageWaiters ∧ (createDocket d k j i b n s).printer = s.printer ∧ (createDocket d k j i b n s).event = s.event ∧ (createDocket d k j i b n s).out = s.out := by
  unfold createDocket; (try dsimp only); (repeat' split) <;> simp

@[simp] theorem considerBay_frame (n : BayNo) (s : State) :
    (considerBay n s).pending = s.pending ∧ (considerBay n s).tower = s.tower ∧ (considerBay n s).regs = s.regs ∧ (considerBay n s).board = s.board ∧ (considerBay n s).faults = s.faults ∧ (considerBay n s).roundDue = s.roundDue ∧ (considerBay n s).sensors = s.sensors ∧ (considerBay n s).bins = s.bins ∧ (considerBay n s).health = s.health ∧ (considerBay n s).pageWaiters = s.pageWaiters ∧ (considerBay n s).printer = s.printer ∧ (considerBay n s).event = s.event ∧ (considerBay n s).out = s.out := by
  unfold considerBay; (try dsimp only); (repeat' split) <;> simp

@[simp] theorem dispatchRound_frame (s : State) :
    (dispatchRound s).pending = s.pending ∧ (dispatchRound s).tower = s.tower ∧ (dispatchRound s).regs = s.regs ∧ (dispatchRound s).board = s.board ∧ (dispatchRound s).faults = s.faults ∧ (dispatchRound s).sensors = s.sensors ∧ (dispatchRound s).bins = s.bins ∧ (dispatchRound s).health = s.health ∧ (dispatchRound s).pageWaiters = s.pageWaiters ∧ (dispatchRound s).printer = s.printer ∧ (dispatchRound s).event = s.event ∧ (dispatchRound s).out = s.out := by
  unfold dispatchRound; split
  · dsimp only; split
    · exact ⟨(foldl_same (fun u : State => u.pending) _ (by intro a b; (try split) <;> simp) _ _).trans (by simp), (foldl_same (fun u : State => u.tower) _ (by intro a b; (try split) <;> simp) _ _).trans (by simp), (foldl_same (fun u : State => u.regs) _ (by intro a b; (try split) <;> simp) _ _).trans (by simp), (foldl_same (fun u : State => u.board) _ (by intro a b; (try split) <;> simp) _ _).trans (by simp), (foldl_same (fun u : State => u.faults) _ (by intro a b; (try split) <;> simp) _ _).trans (by simp), (foldl_same (fun u : State => u.sensors) _ (by intro a b; (try split) <;> simp) _ _).trans (by simp), (foldl_same (fun u : State => u.bins) _ (by intro a b; (try split) <;> simp) _ _).trans (by simp), (foldl_same (fun u : State => u.health) _ (by intro a b; (try split) <;> simp) _ _).trans (by simp), (foldl_same (fun u : State => u.pageWaiters) _ (by intro a b; (try split) <;> simp) _ _).trans (by simp), (foldl_same (fun u : State => u.printer) _ (by intro a b; (try split) <;> simp) _ _).trans (by simp), (foldl_same (fun u : State => u.event) _ (by intro a b; (try split) <;> simp) _ _).trans (by simp), (foldl_same (fun u : State => u.out) _ (by intro a b; (try split) <;> simp) _ _).trans (by simp)⟩
    · simp
  · simp

/-! ### What no rule of an event changes -/

/-- No rule that acts in an event changes the queue of commands, a sensor or the event's number. -/
theorem settleStep_frame (s t : State) (h : settleStep s = some t) :
    t.pending = s.pending ∧ t.sensors = s.sensors ∧ t.event = s.event := by
  obtain ⟨r, m, e⟩ := List.exists_of_findSome?_eq_some h
  simp only [rules, List.mem_cons, List.not_mem_nil, or_false] at m
  rcases m with rfl | rfl | rfl | rfl | rfl | rfl | rfl | rfl | rfl | rfl | rfl | rfl | rfl | rfl | rfl | rfl | rfl | rfl | rfl | rfl | rfl | rfl | rfl | rfl
  · have k := roomStep_frame _ _ e; simp_all
  · have k := threadStep_frame _ _ e; simp_all
  · have k := offerPage_frame _ _ e; simp_all
  · obtain ⟨b, -, e⟩ := List.exists_of_findSome?_eq_some e
    have k := completeGroup_frame b _ _ e; simp_all
  · obtain ⟨b, -, e⟩ := List.exists_of_findSome?_eq_some e
    have k := makeCompare_frame b _ _ e; simp_all
  · obtain ⟨b, -, e⟩ := List.exists_of_findSome?_eq_some e
    have k := sendGroup_frame b _ _ e; simp_all
  · obtain ⟨b, -, e⟩ := List.exists_of_findSome?_eq_some e
    have k := handOffRule_frame b _ _ e; simp_all
  · obtain ⟨b, -, e⟩ := List.exists_of_findSome?_eq_some e
    have k := advanceExtent_frame b _ _ e; simp_all
  · obtain ⟨b, -, e⟩ := List.exists_of_findSome?_eq_some e
    have k := presentExtent_frame b _ _ e; simp_all
  · obtain ⟨b, -, e⟩ := List.exists_of_findSome?_eq_some e
    have k := presentCompare_frame b _ _ e; simp_all
  · obtain ⟨b, -, e⟩ := List.exists_of_findSome?_eq_some e
    have k := cutPiece_frame b _ _ e; simp_all
  · obtain ⟨b, -, e⟩ := List.exists_of_findSome?_eq_some e
    have k := askBurnPage_frame b _ _ e; simp_all
  · obtain ⟨b, -, e⟩ := List.exists_of_findSome?_eq_some e
    have k := issueRead_frame b _ _ e; simp_all
  · obtain ⟨b, -, e⟩ := List.exists_of_findSome?_eq_some e
    have k := presentBlock_frame b _ _ e; simp_all
  · have k := presentBand_frame _ _ e; simp_all
  · have k := startCarriage_frame _ _ e; simp_all
  · have k := presentBoard_frame _ _ e; simp_all
  · have k := cutBurst_frame _ _ e; simp_all
  · have k := grantFetch_frame _ _ e; simp_all
  · have k := endDiscovering_frame _ _ e; simp_all
  · have k := sweepStep_frame _ _ e; simp_all
  · have k := printerEmpties_frame _ _ e; simp_all
  · have k := armStep_frame _ _ e; simp_all
  · have k := grant_frame _ _ e; simp_all

theorem settle_frame (n : Nat) (s : State) :
    (settle n s).pending = s.pending ∧ (settle n s).sensors = s.sensors ∧ (settle n s).event = s.event := by
  induction n generalizing s with
  | zero => exact ⟨rfl, rfl, rfl⟩
  | succ n ih =>
    unfold settle; split
    · rename_i u e
      have k := settleStep_frame _ _ e
      exact ⟨(ih u).1.trans k.1, (ih u).2.1.trans k.2.1, (ih u).2.2.trans k.2.2⟩
    · exact ⟨rfl, rfl, rfl⟩

/-- An event leaves the queue of commands and the sensors as its own command left them, and counts itself. -/
theorem conclude_frame (s : State) :
    (conclude s).pending = s.pending ∧ (conclude s).sensors = s.sensors ∧ (conclude s).event = s.event + 1 := by
  have k := settle_frame settleFuel s
  exact ⟨k.1, k.2.1, congrArg (· + 1) k.2.2⟩

end Sys2Proof.Machine
end

