-- ==== Sys2Proof/Laws/State.lean ====
section
/-! SUPPORT. The small lemmas of State: one per field per update, and what a record reads as after a record is written. -/

namespace Sys2Proof.Machine

/-! ### A record read after one is written -/

/-- A bay read after another has been written, and after itself has. -/
theorem State.bay_setBay (s : State) (b x : BayNo) (r : Bay) : (s.setBay b r).bay x = if x = b then r else s.bay x := by
  show (s.bays.set b.val r)[x.val] = if x = b then r else s.bays[x.val]
  rw [Vector.getElem_set]
  by_cases h : x = b
  · subst h; simp
  · rw [if_neg (fun e => h (Fin.ext e.symm)), if_neg h]

/-- A docket read after another has been written, and after itself has. -/
theorem State.docket_setDocket (s : State) (d x : DocketNo) (r : Option Docket) :
    (s.setDocket d r).docket x = if x = d then r else s.docket x := by
  show (s.dockets.set d.val r)[x.val] = if x = d then r else s.dockets[x.val]
  rw [Vector.getElem_set]
  by_cases h : x = d
  · subst h; simp
  · rw [if_neg (fun e => h (Fin.ext e.symm)), if_neg h]

/-- A slot read after another has been written, and after itself has. -/
theorem State.job_setJob (s : State) (j x : SlotNo) (r : Option Job) :
    (s.setJob j r).job x = if x = j then r else s.job x := by
  show (s.jobs.set j.val r)[x.val] = if x = j then r else s.jobs[x.val]
  rw [Vector.getElem_set]
  by_cases h : x = j
  · subst h; simp
  · rw [if_neg (fun e => h (Fin.ext e.symm)), if_neg h]

@[simp] theorem State.bay_setBay_self (s : State) (b : BayNo) (r : Bay) : (s.setBay b r).bay b = r := by
  simp [State.bay_setBay]

@[simp] theorem State.docket_setDocket_self (s : State) (d : DocketNo) (r : Option Docket) : (s.setDocket d r).docket d = r := by
  simp [State.docket_setDocket]

@[simp] theorem State.job_setJob_self (s : State) (j : SlotNo) (r : Option Job) : (s.setJob j r).job j = r := by
  simp [State.job_setJob]

/-- Two sensors of one number are one sensor. -/
theorem sensorIndex_inj (x y : Sensor) (h : sensorIndex x = sensorIndex y) : x = y := by
  revert h; cases x <;> cases y <;> decide

/-- A sensor read after another's filter has been written, and after its own has. -/
theorem State.filter_setFilter (s : State) (x y : Sensor) (f : Filter) :
    (s.setFilter x f).filter y = if y = x then f else s.filter y := by
  show (s.sensors.set (sensorIndex x).val f)[(sensorIndex y).val] = if y = x then f else s.sensors[(sensorIndex y).val]
  rw [Vector.getElem_set]
  by_cases h : y = x
  · subst h; simp
  · rw [if_neg (fun e => h (sensorIndex_inj _ _ (Fin.ext e.symm))), if_neg h]

/-! ### Records read from a state written out, and folded back -/

@[simp] theorem State.bay_mk (pending : List Instr) (tower : Tower) (regs : Regs) (board : Board) (faults : FaultRecord)
    (jobs : Vector (Option Job) 8) (dockets : Vector (Option Docket) 16) (roundDue : Bool) (transport : Transport)
    (sensors : Vector Filter 12) (bins : Bins) (bays : Vector Bay 12) (health : Health) (pageWaiters : List BayNo)
    (engine : Engine) (printer : Printer) (event : Nat) (out : List Output) (b : BayNo) :
    (State.mk pending tower regs board faults jobs dockets roundDue transport sensors bins bays health pageWaiters engine
      printer event out).bay b = bays.get b := rfl
@[simp] theorem State.docket_mk (pending : List Instr) (tower : Tower) (regs : Regs) (board : Board) (faults : FaultRecord)
    (jobs : Vector (Option Job) 8) (dockets : Vector (Option Docket) 16) (roundDue : Bool) (transport : Transport)
    (sensors : Vector Filter 12) (bins : Bins) (bays : Vector Bay 12) (health : Health) (pageWaiters : List BayNo)
    (engine : Engine) (printer : Printer) (event : Nat) (out : List Output) (d : DocketNo) :
    (State.mk pending tower regs board faults jobs dockets roundDue transport sensors bins bays health pageWaiters engine
      printer event out).docket d = dockets.get d := rfl
@[simp] theorem State.job_mk (pending : List Instr) (tower : Tower) (regs : Regs) (board : Board) (faults : FaultRecord)
    (jobs : Vector (Option Job) 8) (dockets : Vector (Option Docket) 16) (roundDue : Bool) (transport : Transport)
    (sensors : Vector Filter 12) (bins : Bins) (bays : Vector Bay 12) (health : Health) (pageWaiters : List BayNo)
    (engine : Engine) (printer : Printer) (event : Nat) (out : List Output) (j : SlotNo) :
    (State.mk pending tower regs board faults jobs dockets roundDue transport sensors bins bays health pageWaiters engine
      printer event out).job j = jobs.get j := rfl
@[simp] theorem State.sensor_mk (pending : List Instr) (tower : Tower) (regs : Regs) (board : Board) (faults : FaultRecord)
    (jobs : Vector (Option Job) 8) (dockets : Vector (Option Docket) 16) (roundDue : Bool) (transport : Transport)
    (sensors : Vector Filter 12) (bins : Bins) (bays : Vector Bay 12) (health : Health) (pageWaiters : List BayNo)
    (engine : Engine) (printer : Printer) (event : Nat) (out : List Output) (x : Sensor) :
    (State.mk pending tower regs board faults jobs dockets roundDue transport sensors bins bays health pageWaiters engine
      printer event out).sensor x = (sensors.get (sensorIndex x)).on := rfl
@[simp] theorem State.bays_get (s : State) (b : BayNo) : s.bays.get b = s.bay b := rfl
@[simp] theorem State.dockets_get (s : State) (d : DocketNo) : s.dockets.get d = s.docket d := rfl
@[simp] theorem State.jobs_get (s : State) (j : SlotNo) : s.jobs.get j = s.job j := rfl
@[simp] theorem State.sensors_get (s : State) (x : Sensor) : (s.sensors.get (sensorIndex x)).on = s.sensor x := rfl

/-! ### Fields of an update -/

@[simp] theorem setSpare_health (d : Option BayNo) (s : State) : (setSpare d s).health = { s.health with spare := d } := rfl

@[simp] theorem State.bay_setDocket (s : State) (d : DocketNo) (r : Option Docket) (b : BayNo) :
    (s.setDocket d r).bay b = s.bay b := rfl
@[simp] theorem State.bay_setJob (s : State) (j : SlotNo) (r : Option Job) (b : BayNo) : (s.setJob j r).bay b = s.bay b := rfl
@[simp] theorem State.docket_setBay (s : State) (b : BayNo) (r : Bay) (d : DocketNo) : (s.setBay b r).docket d = s.docket d := rfl
@[simp] theorem State.docket_setJob (s : State) (j : SlotNo) (r : Option Job) (d : DocketNo) :
    (s.setJob j r).docket d = s.docket d := rfl
@[simp] theorem State.job_setBay (s : State) (b : BayNo) (r : Bay) (j : SlotNo) : (s.setBay b r).job j = s.job j := rfl
@[simp] theorem State.job_setDocket (s : State) (d : DocketNo) (r : Option Docket) (j : SlotNo) :
    (s.setDocket d r).job j = s.job j := rfl
@[simp] theorem State.sensor_setBay (s : State) (b : BayNo) (r : Bay) (x : Sensor) : (s.setBay b r).sensor x = s.sensor x := rfl
@[simp] theorem State.sensor_setDocket (s : State) (d : DocketNo) (r : Option Docket) (x : Sensor) :
    (s.setDocket d r).sensor x = s.sensor x := rfl
@[simp] theorem State.sensor_setJob (s : State) (j : SlotNo) (r : Option Job) (x : Sensor) :
    (s.setJob j r).sensor x = s.sensor x := rfl
@[simp] theorem State.bay_setFilter (s : State) (x : Sensor) (f : Filter) (b : BayNo) : (s.setFilter x f).bay b = s.bay b := rfl
@[simp] theorem State.docket_setFilter (s : State) (x : Sensor) (f : Filter) (d : DocketNo) :
    (s.setFilter x f).docket d = s.docket d := rfl
@[simp] theorem State.job_setFilter (s : State) (x : Sensor) (f : Filter) (j : SlotNo) : (s.setFilter x f).job j = s.job j := rfl

@[simp] theorem emit_out (o : Output) (s : State) : (emit o s).out = s.out ++ [o] := rfl
@[simp] theorem post_posted (w : PostedWrite) (s : State) : (post w s).engine.posted = s.engine.posted ++ [w] := rfl
@[simp] theorem post_waiting (w : PostedWrite) (s : State) : (post w s).engine.waiting = s.engine.waiting := rfl
@[simp] theorem post_slots (w : PostedWrite) (s : State) : (post w s).engine.slots = s.engine.slots := rfl
@[simp] theorem waitForRoom_posted (t : Thread) (s : State) : (waitForRoom t s).engine.posted = s.engine.posted := rfl
@[simp] theorem waitForRoom_waiting (t : Thread) (s : State) : (waitForRoom t s).engine.waiting = s.engine.waiting ++ [t] := rfl
@[simp] theorem startThread_agenda (t : Thread) (s : State) : (startThread t s).engine.agenda = s.engine.agenda ++ [t] := rfl
@[simp] theorem startThread_posted (t : Thread) (s : State) : (startThread t s).engine.posted = s.engine.posted := rfl

@[simp] theorem State.tick_pending (s : State) : s.tick.pending = s.pending := rfl
@[simp] theorem State.tick_regs (s : State) : s.tick.regs = s.regs := rfl
@[simp] theorem State.tick_jobs (s : State) : s.tick.jobs = s.jobs := rfl
@[simp] theorem State.tick_dockets (s : State) : s.tick.dockets = s.dockets := rfl
@[simp] theorem State.tick_sensors (s : State) : s.tick.sensors = s.sensors := rfl
@[simp] theorem State.tick_bins (s : State) : s.tick.bins = s.bins := rfl
@[simp] theorem State.tick_faults (s : State) : s.tick.faults = s.faults := rfl
@[simp] theorem State.tick_out (s : State) : s.tick.out = s.out := rfl
@[simp] theorem State.tick_posted (s : State) : s.tick.engine.posted = s.engine.posted := rfl

/-- A bay read after a millisecond. -/
@[simp] theorem State.bay_tick (s : State) (b : BayNo) : s.tick.bay b = (s.bay b).tick := by
  show (s.bays.map Bay.tick)[b.val] = (s.bays[b.val]).tick
  exact Vector.getElem_map ..

end Sys2Proof.Machine
end

