-- ==== Sys2Proof/Laws/Reads.lean ====
section
/-! SUPPORT. What each operation leaves as it was, read record by record: a bay, a docket, a job, a sensor; and what the search for the oldest
eligible task finds. -/

namespace Sys2Proof.Machine

/-- Equal bay records read alike. -/
theorem State.bay_congr {s t : State} (h : t.bays = s.bays) (b : BayNo) : t.bay b = s.bay b := congrArg (·.get b) h

/-- Equal docket records read alike. -/
theorem State.docket_congr {s t : State} (h : t.dockets = s.dockets) (d : DocketNo) : t.docket d = s.docket d :=
  congrArg (·.get d) h

/-- Equal job slots read alike. -/
theorem State.job_congr {s t : State} (h : t.jobs = s.jobs) (j : SlotNo) : t.job j = s.job j := congrArg (·.get j) h

/-- Equal sensors read alike. -/
theorem State.sensor_congr {s t : State} (h : t.sensors = s.sensors) (x : Sensor) : t.sensor x = s.sensor x :=
  congrArg (fun v : Vector Filter 12 => (v.get (sensorIndex x)).on) h

/-- A request outstanding is read from the bay's record alone. -/
theorem State.hasReq_congr {s t : State} {b : BayNo} (h : t.bay b = s.bay b) (q : Request) : t.hasReq b q = s.hasReq b q :=
  congrArg (fun r : Bay => r.reqs.any fun o => o.req == q) h

@[simp] theorem State.updDocket_job (s : State) (d : DocketNo) (f : Docket → Docket) (x : SlotNo) : (State.updDocket s d f).job x = s.job x :=
  State.job_congr (by simp) _
@[simp] theorem State.updDocket_sensor (s : State) (d : DocketNo) (f : Docket → Docket) (x : Sensor) : (State.updDocket s d f).sensor x = s.sensor x :=
  State.sensor_congr (by simp) _
@[simp] theorem State.updDocket_bay (s : State) (d : DocketNo) (f : Docket → Docket) (x : BayNo) : (State.updDocket s d f).bay x = s.bay x :=
  State.bay_congr (by simp) _
@[simp] theorem State.updJob_docket (s : State) (j : SlotNo) (f : Job → Job) (x : DocketNo) : (State.updJob s j f).docket x = s.docket x :=
  State.docket_congr (by simp) _
@[simp] theorem State.updJob_sensor (s : State) (j : SlotNo) (f : Job → Job) (x : Sensor) : (State.updJob s j f).sensor x = s.sensor x :=
  State.sensor_congr (by simp) _
@[simp] theorem State.updJob_bay (s : State) (j : SlotNo) (f : Job → Job) (x : BayNo) : (State.updJob s j f).bay x = s.bay x :=
  State.bay_congr (by simp) _
@[simp] theorem emit_job (o : Output) (s : State) (x : SlotNo) : (emit o s).job x = s.job x :=
  State.job_congr (by simp) _
@[simp] theorem emit_docket (o : Output) (s : State) (x : DocketNo) : (emit o s).docket x = s.docket x :=
  State.docket_congr (by simp) _
@[simp] theorem emit_sensor (o : Output) (s : State) (x : Sensor) : (emit o s).sensor x = s.sensor x :=
  State.sensor_congr (by simp) _
@[simp] theorem emit_bay (o : Output) (s : State) (x : BayNo) : (emit o s).bay x = s.bay x :=
  State.bay_congr (by simp) _
@[simp] theorem raiseAttention_job (a : Attention) (s : State) (x : SlotNo) : (raiseAttention a s).job x = s.job x :=
  State.job_congr (by simp) _
@[simp] theorem raiseAttention_docket (a : Attention) (s : State) (x : DocketNo) : (raiseAttention a s).docket x = s.docket x :=
  State.docket_congr (by simp) _
@[simp] theorem raiseAttention_sensor (a : Attention) (s : State) (x : Sensor) : (raiseAttention a s).sensor x = s.sensor x :=
  State.sensor_congr (by simp) _
@[simp] theorem raiseAttention_bay (a : Attention) (s : State) (x : BayNo) : (raiseAttention a s).bay x = s.bay x :=
  State.bay_congr (by simp) _
@[simp] theorem post_job (w : PostedWrite) (s : State) (x : SlotNo) : (post w s).job x = s.job x :=
  State.job_congr (by simp) _
@[simp] theorem post_docket (w : PostedWrite) (s : State) (x : DocketNo) : (post w s).docket x = s.docket x :=
  State.docket_congr (by simp) _
@[simp] theorem post_sensor (w : PostedWrite) (s : State) (x : Sensor) : (post w s).sensor x = s.sensor x :=
  State.sensor_congr (by simp) _
@[simp] theorem post_bay (w : PostedWrite) (s : State) (x : BayNo) : (post w s).bay x = s.bay x :=
  State.bay_congr (by simp) _
@[simp] theorem waitForRoom_job (t : Thread) (s : State) (x : SlotNo) : (waitForRoom t s).job x = s.job x :=
  State.job_congr (by simp) _
@[simp] theorem waitForRoom_docket (t : Thread) (s : State) (x : DocketNo) : (waitForRoom t s).docket x = s.docket x :=
  State.docket_congr (by simp) _
@[simp] theorem waitForRoom_sensor (t : Thread) (s : State) (x : Sensor) : (waitForRoom t s).sensor x = s.sensor x :=
  State.sensor_congr (by simp) _
@[simp] theorem waitForRoom_bay (t : Thread) (s : State) (x : BayNo) : (waitForRoom t s).bay x = s.bay x :=
  State.bay_congr (by simp) _
@[simp] theorem startThread_job (t : Thread) (s : State) (x : SlotNo) : (startThread t s).job x = s.job x :=
  State.job_congr (by simp) _
@[simp] theorem startThread_docket (t : Thread) (s : State) (x : DocketNo) : (startThread t s).docket x = s.docket x :=
  State.docket_congr (by simp) _
@[simp] theorem startThread_sensor (t : Thread) (s : State) (x : Sensor) : (startThread t s).sensor x = s.sensor x :=
  State.sensor_congr (by simp) _
@[simp] theorem startThread_bay (t : Thread) (s : State) (x : BayNo) : (startThread t s).bay x = s.bay x :=
  State.bay_congr (by simp) _
@[simp] theorem queueStatus_job (s : State) (x : SlotNo) : (queueStatus s).job x = s.job x :=
  State.job_congr (by simp) _
@[simp] theorem queueStatus_docket (s : State) (x : DocketNo) : (queueStatus s).docket x = s.docket x :=
  State.docket_congr (by simp) _
@[simp] theorem queueStatus_sensor (s : State) (x : Sensor) : (queueStatus s).sensor x = s.sensor x :=
  State.sensor_congr (by simp) _
@[simp] theorem queueStatus_bay (s : State) (x : BayNo) : (queueStatus s).bay x = s.bay x :=
  State.bay_congr (by simp) _
@[simp] theorem reportStatus_job (s : State) (x : SlotNo) : (reportStatus s).job x = s.job x :=
  State.job_congr (by simp) _
@[simp] theorem reportStatus_docket (s : State) (x : DocketNo) : (reportStatus s).docket x = s.docket x :=
  State.docket_congr (by simp) _
@[simp] theorem reportStatus_sensor (s : State) (x : Sensor) : (reportStatus s).sensor x = s.sensor x :=
  State.sensor_congr (by simp) _
@[simp] theorem reportStatus_bay (s : State) (x : BayNo) : (reportStatus s).bay x = s.bay x :=
  State.bay_congr (by simp) _
@[simp] theorem reportFault_job (code : FaultCode) (bay : Option BayNo) (docket : Option DocketNo) (s : State) (x : SlotNo) : (reportFault code bay docket s).job x = s.job x :=
  State.job_congr (by simp) _
@[simp] theorem reportFault_docket (code : FaultCode) (bay : Option BayNo) (docket : Option DocketNo) (s : State) (x : DocketNo) : (reportFault code bay docket s).docket x = s.docket x :=
  State.docket_congr (by simp) _
@[simp] theorem reportFault_sensor (code : FaultCode) (bay : Option BayNo) (docket : Option DocketNo) (s : State) (x : Sensor) : (reportFault code bay docket s).sensor x = s.sensor x :=
  State.sensor_congr (by simp) _
@[simp] theorem reportFault_bay (code : FaultCode) (bay : Option BayNo) (docket : Option DocketNo) (s : State) (x : BayNo) : (reportFault code bay docket s).bay x = s.bay x :=
  State.bay_congr (by simp) _
@[simp] theorem triggerRound_job (s : State) (x : SlotNo) : (triggerRound s).job x = s.job x :=
  State.job_congr (by simp) _
@[simp] theorem triggerRound_docket (s : State) (x : DocketNo) : (triggerRound s).docket x = s.docket x :=
  State.docket_congr (by simp) _
@[simp] theorem triggerRound_sensor (s : State) (x : Sensor) : (triggerRound s).sensor x = s.sensor x :=
  State.sensor_congr (by simp) _
@[simp] theorem triggerRound_bay (s : State) (x : BayNo) : (triggerRound s).bay x = s.bay x :=
  State.bay_congr (by simp) _
@[simp] theorem setTower_job (st : TowerState) (s : State) (x : SlotNo) : (setTower st s).job x = s.job x :=
  State.job_congr (by simp) _
@[simp] theorem setTower_docket (st : TowerState) (s : State) (x : DocketNo) : (setTower st s).docket x = s.docket x :=
  State.docket_congr (by simp) _
@[simp] theorem setTower_sensor (st : TowerState) (s : State) (x : Sensor) : (setTower st s).sensor x = s.sensor x :=
  State.sensor_congr (by simp) _
@[simp] theorem setTower_bay (st : TowerState) (s : State) (x : BayNo) : (setTower st s).bay x = s.bay x :=
  State.bay_congr (by simp) _
@[simp] theorem setTransport_job (st : TransportState) (s : State) (x : SlotNo) : (setTransport st s).job x = s.job x :=
  State.job_congr (by simp) _
@[simp] theorem setTransport_docket (st : TransportState) (s : State) (x : DocketNo) : (setTransport st s).docket x = s.docket x :=
  State.docket_congr (by simp) _
@[simp] theorem setTransport_sensor (st : TransportState) (s : State) (x : Sensor) : (setTransport st s).sensor x = s.sensor x :=
  State.sensor_congr (by simp) _
@[simp] theorem setTransport_bay (st : TransportState) (s : State) (x : BayNo) : (setTransport st s).bay x = s.bay x :=
  State.bay_congr (by simp) _
@[simp] theorem setPrinter_job (st : PrinterState) (s : State) (x : SlotNo) : (setPrinter st s).job x = s.job x :=
  State.job_congr (by simp) _
@[simp] theorem setPrinter_docket (st : PrinterState) (s : State) (x : DocketNo) : (setPrinter st s).docket x = s.docket x :=
  State.docket_congr (by simp) _
@[simp] theorem setPrinter_sensor (st : PrinterState) (s : State) (x : Sensor) : (setPrinter st s).sensor x = s.sensor x :=
  State.sensor_congr (by simp) _
@[simp] theorem setPrinter_bay (st : PrinterState) (s : State) (x : BayNo) : (setPrinter st s).bay x = s.bay x :=
  State.bay_congr (by simp) _
@[simp] theorem setBayState_job (b : BayNo) (st : BayState) (s : State) (x : SlotNo) : (setBayState b st s).job x = s.job x :=
  State.job_congr (by simp) _
@[simp] theorem setBayState_docket (b : BayNo) (st : BayState) (s : State) (x : DocketNo) : (setBayState b st s).docket x = s.docket x :=
  State.docket_congr (by simp) _
@[simp] theorem setBayState_sensor (b : BayNo) (st : BayState) (s : State) (x : Sensor) : (setBayState b st s).sensor x = s.sensor x :=
  State.sensor_congr (by simp) _
@[simp] theorem setLogical_job (b : BayNo) (n : Option BayNo) (s : State) (x : SlotNo) : (setLogical b n s).job x = s.job x :=
  State.job_congr (by simp) _
@[simp] theorem setLogical_docket (b : BayNo) (n : Option BayNo) (s : State) (x : DocketNo) : (setLogical b n s).docket x = s.docket x :=
  State.docket_congr (by simp) _
@[simp] theorem setLogical_sensor (b : BayNo) (n : Option BayNo) (s : State) (x : Sensor) : (setLogical b n s).sensor x = s.sensor x :=
  State.sensor_congr (by simp) _
@[simp] theorem setInput_job (i : InputBin) (st : InputBinState) (s : State) (x : SlotNo) : (setInput i st s).job x = s.job x :=
  State.job_congr (by simp) _
@[simp] theorem setInput_docket (i : InputBin) (st : InputBinState) (s : State) (x : DocketNo) : (setInput i st s).docket x = s.docket x :=
  State.docket_congr (by simp) _
@[simp] theorem setInput_sensor (i : InputBin) (st : InputBinState) (s : State) (x : Sensor) : (setInput i st s).sensor x = s.sensor x :=
  State.sensor_congr (by simp) _
@[simp] theorem setInput_bay (i : InputBin) (st : InputBinState) (s : State) (x : BayNo) : (setInput i st s).bay x = s.bay x :=
  State.bay_congr (by simp) _
@[simp] theorem binUp_job (o : OutputBin) (s : State) (x : SlotNo) : (binUp o s).job x = s.job x :=
  State.job_congr (by simp) _
@[simp] theorem binUp_docket (o : OutputBin) (s : State) (x : DocketNo) : (binUp o s).docket x = s.docket x :=
  State.docket_congr (by simp) _
@[simp] theorem binUp_sensor (o : OutputBin) (s : State) (x : Sensor) : (binUp o s).sensor x = s.sensor x :=
  State.sensor_congr (by simp) _
@[simp] theorem binUp_bay (o : OutputBin) (s : State) (x : BayNo) : (binUp o s).bay x = s.bay x :=
  State.bay_congr (by simp) _
@[simp] theorem enterReq_job (b : BayNo) (q : Request) (p : Purpose) (m : DriveMsg) (s : State) (x : SlotNo) : (enterReq b q p m s).job x = s.job x :=
  State.job_congr (by simp) _
@[simp] theorem enterReq_docket (b : BayNo) (q : Request) (p : Purpose) (m : DriveMsg) (s : State) (x : DocketNo) : (enterReq b q p m s).docket x = s.docket x :=
  State.docket_congr (by simp) _
@[simp] theorem enterReq_sensor (b : BayNo) (q : Request) (p : Purpose) (m : DriveMsg) (s : State) (x : Sensor) : (enterReq b q p m s).sensor x = s.sensor x :=
  State.sensor_congr (by simp) _
@[simp] theorem sendReq_job (b : BayNo) (q : Request) (p : Purpose) (m : DriveMsg) (s : State) (x : SlotNo) : (sendReq b q p m s).job x = s.job x :=
  State.job_congr (by simp) _
@[simp] theorem sendReq_docket (b : BayNo) (q : Request) (p : Purpose) (m : DriveMsg) (s : State) (x : DocketNo) : (sendReq b q p m s).docket x = s.docket x :=
  State.docket_congr (by simp) _
@[simp] theorem sendReq_sensor (b : BayNo) (q : Request) (p : Purpose) (m : DriveMsg) (s : State) (x : Sensor) : (sendReq b q p m s).sensor x = s.sensor x :=
  State.sensor_congr (by simp) _
@[simp] theorem dropReq_job (b : BayNo) (q : Request) (s : State) (x : SlotNo) : (dropReq b q s).job x = s.job x :=
  State.job_congr (by simp) _
@[simp] theorem dropReq_docket (b : BayNo) (q : Request) (s : State) (x : DocketNo) : (dropReq b q s).docket x = s.docket x :=
  State.docket_congr (by simp) _
@[simp] theorem dropReq_sensor (b : BayNo) (q : Request) (s : State) (x : Sensor) : (dropReq b q s).sensor x = s.sensor x :=
  State.sensor_congr (by simp) _
@[simp] theorem withdrawBurn_job (b : BayNo) (s : State) (x : SlotNo) : (withdrawBurn b s).job x = s.job x :=
  State.job_congr (by simp) _
@[simp] theorem withdrawBurn_docket (b : BayNo) (s : State) (x : DocketNo) : (withdrawBurn b s).docket x = s.docket x :=
  State.docket_congr (by simp) _
@[simp] theorem withdrawBurn_sensor (b : BayNo) (s : State) (x : Sensor) : (withdrawBurn b s).sensor x = s.sensor x :=
  State.sensor_congr (by simp) _
@[simp] theorem linkError_job (b : BayNo) (s : State) (x : SlotNo) : (linkError b s).job x = s.job x :=
  State.job_congr (by simp) _
@[simp] theorem linkError_docket (b : BayNo) (s : State) (x : DocketNo) : (linkError b s).docket x = s.docket x :=
  State.docket_congr (by simp) _
@[simp] theorem linkError_sensor (b : BayNo) (s : State) (x : Sensor) : (linkError b s).sensor x = s.sensor x :=
  State.sensor_congr (by simp) _
@[simp] theorem discardMsg_job (b : BayNo) (s : State) (x : SlotNo) : (discardMsg b s).job x = s.job x :=
  State.job_congr (by simp) _
@[simp] theorem discardMsg_docket (b : BayNo) (s : State) (x : DocketNo) : (discardMsg b s).docket x = s.docket x :=
  State.docket_congr (by simp) _
@[simp] theorem discardMsg_sensor (b : BayNo) (s : State) (x : Sensor) : (discardMsg b s).sensor x = s.sensor x :=
  State.sensor_congr (by simp) _
@[simp] theorem setSpare_job (d : Option BayNo) (s : State) (x : SlotNo) : (setSpare d s).job x = s.job x :=
  State.job_congr (by simp) _
@[simp] theorem setSpare_docket (d : Option BayNo) (s : State) (x : DocketNo) : (setSpare d s).docket x = s.docket x :=
  State.docket_congr (by simp) _
@[simp] theorem setSpare_sensor (d : Option BayNo) (s : State) (x : Sensor) : (setSpare d s).sensor x = s.sensor x :=
  State.sensor_congr (by simp) _
@[simp] theorem setSpare_bay (d : Option BayNo) (s : State) (x : BayNo) : (setSpare d s).bay x = s.bay x :=
  State.bay_congr (by simp) _
@[simp] theorem takeover_job (number : Option BayNo) (s : State) (x : SlotNo) : (takeover number s).job x = s.job x :=
  State.job_congr (by simp) _
@[simp] theorem takeover_docket (number : Option BayNo) (s : State) (x : DocketNo) : (takeover number s).docket x = s.docket x :=
  State.docket_congr (by simp) _
@[simp] theorem takeover_sensor (number : Option BayNo) (s : State) (x : Sensor) : (takeover number s).sensor x = s.sensor x :=
  State.sensor_congr (by simp) _
@[simp] theorem retire_job (b : BayNo) (s : State) (x : SlotNo) : (retire b s).job x = s.job x :=
  State.job_congr (by simp) _
@[simp] theorem retire_docket (b : BayNo) (s : State) (x : DocketNo) : (retire b s).docket x = s.docket x :=
  State.docket_congr (by simp) _
@[simp] theorem retire_sensor (b : BayNo) (s : State) (x : Sensor) : (retire b s).sensor x = s.sensor x :=
  State.sensor_congr (by simp) _
@[simp] theorem enterIdle_job (b : BayNo) (s : State) (x : SlotNo) : (enterIdle b s).job x = s.job x :=
  State.job_congr (by simp) _
@[simp] theorem enterIdle_docket (b : BayNo) (s : State) (x : DocketNo) : (enterIdle b s).docket x = s.docket x :=
  State.docket_congr (by simp) _
@[simp] theorem enterIdle_sensor (b : BayNo) (s : State) (x : Sensor) : (enterIdle b s).sensor x = s.sensor x :=
  State.sensor_congr (by simp) _
@[simp] theorem endDesignation_job (b : BayNo) (s : State) (x : SlotNo) : (endDesignation b s).job x = s.job x :=
  State.job_congr (by simp) _
@[simp] theorem endDesignation_docket (b : BayNo) (s : State) (x : DocketNo) : (endDesignation b s).docket x = s.docket x :=
  State.docket_congr (by simp) _
@[simp] theorem endDesignation_sensor (b : BayNo) (s : State) (x : Sensor) : (endDesignation b s).sensor x = s.sensor x :=
  State.sensor_congr (by simp) _
@[simp] theorem endDesignation_bay (b : BayNo) (s : State) (x : BayNo) : (endDesignation b s).bay x = s.bay x :=
  State.bay_congr (by simp) _
@[simp] theorem retireSpare_job (b : BayNo) (s : State) (x : SlotNo) : (retireSpare b s).job x = s.job x :=
  State.job_congr (by simp) _
@[simp] theorem retireSpare_docket (b : BayNo) (s : State) (x : DocketNo) : (retireSpare b s).docket x = s.docket x :=
  State.docket_congr (by simp) _
@[simp] theorem retireSpare_sensor (b : BayNo) (s : State) (x : Sensor) : (retireSpare b s).sensor x = s.sensor x :=
  State.sensor_congr (by simp) _
@[simp] theorem enterSpare_job (b : BayNo) (s : State) (x : SlotNo) : (enterSpare b s).job x = s.job x :=
  State.job_congr (by simp) _
@[simp] theorem enterSpare_docket (b : BayNo) (s : State) (x : DocketNo) : (enterSpare b s).docket x = s.docket x :=
  State.docket_congr (by simp) _
@[simp] theorem enterSpare_sensor (b : BayNo) (s : State) (x : Sensor) : (enterSpare b s).sensor x = s.sensor x :=
  State.sensor_congr (by simp) _
@[simp] theorem markFailing_job (b : BayNo) (s : State) (x : SlotNo) : (markFailing b s).job x = s.job x :=
  State.job_congr (by simp) _
@[simp] theorem markFailing_docket (b : BayNo) (s : State) (x : DocketNo) : (markFailing b s).docket x = s.docket x :=
  State.docket_congr (by simp) _
@[simp] theorem markFailing_sensor (b : BayNo) (s : State) (x : Sensor) : (markFailing b s).sensor x = s.sensor x :=
  State.sensor_congr (by simp) _
@[simp] theorem testLimits_job (b : BayNo) (s : State) (x : SlotNo) : (testLimits b s).job x = s.job x :=
  State.job_congr (by simp) _
@[simp] theorem testLimits_docket (b : BayNo) (s : State) (x : DocketNo) : (testLimits b s).docket x = s.docket x :=
  State.docket_congr (by simp) _
@[simp] theorem testLimits_sensor (b : BayNo) (s : State) (x : Sensor) : (testLimits b s).sensor x = s.sensor x :=
  State.sensor_congr (by simp) _
@[simp] theorem hardUp_job (b : BayNo) (s : State) (x : SlotNo) : (hardUp b s).job x = s.job x :=
  State.job_congr (by simp) _
@[simp] theorem hardUp_docket (b : BayNo) (s : State) (x : DocketNo) : (hardUp b s).docket x = s.docket x :=
  State.docket_congr (by simp) _
@[simp] theorem hardUp_sensor (b : BayNo) (s : State) (x : Sensor) : (hardUp b s).sensor x = s.sensor x :=
  State.sensor_congr (by simp) _
@[simp] theorem softUp_job (b : BayNo) (s : State) (x : SlotNo) : (softUp b s).job x = s.job x :=
  State.job_congr (by simp) _
@[simp] theorem softUp_docket (b : BayNo) (s : State) (x : DocketNo) : (softUp b s).docket x = s.docket x :=
  State.docket_congr (by simp) _
@[simp] theorem softUp_sensor (b : BayNo) (s : State) (x : Sensor) : (softUp b s).sensor x = s.sensor x :=
  State.sensor_congr (by simp) _
@[simp] theorem setLine_job (id : LineId) (r : Option FetchReq) (s : State) (x : SlotNo) : (setLine id r s).job x = s.job x :=
  State.job_congr (by simp) _
@[simp] theorem setLine_docket (id : LineId) (r : Option FetchReq) (s : State) (x : DocketNo) : (setLine id r s).docket x = s.docket x :=
  State.docket_congr (by simp) _
@[simp] theorem setLine_sensor (id : LineId) (r : Option FetchReq) (s : State) (x : Sensor) : (setLine id r s).sensor x = s.sensor x :=
  State.sensor_congr (by simp) _
@[simp] theorem present_job (id : LineId) (addr len : Nat) (target : Target) (s : State) (x : SlotNo) : (present id addr len target s).job x = s.job x :=
  State.job_congr (by simp) _
@[simp] theorem present_docket (id : LineId) (addr len : Nat) (target : Target) (s : State) (x : DocketNo) : (present id addr len target s).docket x = s.docket x :=
  State.docket_congr (by simp) _
@[simp] theorem present_sensor (id : LineId) (addr len : Nat) (target : Target) (s : State) (x : Sensor) : (present id addr len target s).sensor x = s.sensor x :=
  State.sensor_congr (by simp) _
@[simp] theorem orphanLine_job (id : LineId) (s : State) (x : SlotNo) : (orphanLine id s).job x = s.job x :=
  State.job_congr (by simp) _
@[simp] theorem orphanLine_docket (id : LineId) (s : State) (x : DocketNo) : (orphanLine id s).docket x = s.docket x :=
  State.docket_congr (by simp) _
@[simp] theorem orphanLine_sensor (id : LineId) (s : State) (x : Sensor) : (orphanLine id s).sensor x = s.sensor x :=
  State.sensor_congr (by simp) _
@[simp] theorem orphanLine_bay (id : LineId) (s : State) (x : BayNo) : (orphanLine id s).bay x = s.bay x :=
  State.bay_congr (by simp) _
@[simp] theorem setChannel_job (b : BayNo) (c : Channel) (s : State) (x : SlotNo) : (setChannel b c s).job x = s.job x :=
  State.job_congr (by simp) _
@[simp] theorem setChannel_docket (b : BayNo) (c : Channel) (s : State) (x : DocketNo) : (setChannel b c s).docket x = s.docket x :=
  State.docket_congr (by simp) _
@[simp] theorem setChannel_sensor (b : BayNo) (c : Channel) (s : State) (x : Sensor) : (setChannel b c s).sensor x = s.sensor x :=
  State.sensor_congr (by simp) _
@[simp] theorem recordSignature_job (b : BayNo) (j : Job) (g : Nat) (crc : BitVec 32) (s : State) (x : SlotNo) : (recordSignature b j g crc s).job x = s.job x :=
  State.job_congr (by simp) _
@[simp] theorem recordSignature_docket (b : BayNo) (j : Job) (g : Nat) (crc : BitVec 32) (s : State) (x : DocketNo) : (recordSignature b j g crc s).docket x = s.docket x :=
  State.docket_congr (by simp) _
@[simp] theorem recordSignature_sensor (b : BayNo) (j : Job) (g : Nat) (crc : BitVec 32) (s : State) (x : Sensor) : (recordSignature b j g crc s).sensor x = s.sensor x :=
  State.sensor_congr (by simp) _
@[simp] theorem openEntry_docket (j : SlotNo) (g : Nat) (s : State) (x : DocketNo) : (openEntry j g s).docket x = s.docket x :=
  State.docket_congr (by simp) _
@[simp] theorem openEntry_sensor (j : SlotNo) (g : Nat) (s : State) (x : Sensor) : (openEntry j g s).sensor x = s.sensor x :=
  State.sensor_congr (by simp) _
@[simp] theorem endBurstOf_job (b : BayNo) (s : State) (x : SlotNo) : (endBurstOf b s).job x = s.job x :=
  State.job_congr (by simp) _
@[simp] theorem endBurstOf_docket (b : BayNo) (s : State) (x : DocketNo) : (endBurstOf b s).docket x = s.docket x :=
  State.docket_congr (by simp) _
@[simp] theorem endBurstOf_sensor (b : BayNo) (s : State) (x : Sensor) : (endBurstOf b s).sensor x = s.sensor x :=
  State.sensor_congr (by simp) _
@[simp] theorem endBurstOf_bay (b : BayNo) (s : State) (x : BayNo) : (endBurstOf b s).bay x = s.bay x :=
  State.bay_congr (by simp) _
@[simp] theorem dropChannel_job (b : BayNo) (s : State) (x : SlotNo) : (dropChannel b s).job x = s.job x :=
  State.job_congr (by simp) _
@[simp] theorem dropChannel_docket (b : BayNo) (s : State) (x : DocketNo) : (dropChannel b s).docket x = s.docket x :=
  State.docket_congr (by simp) _
@[simp] theorem dropChannel_sensor (b : BayNo) (s : State) (x : Sensor) : (dropChannel b s).sensor x = s.sensor x :=
  State.sensor_congr (by simp) _
@[simp] theorem discardChannel_docket (b : BayNo) (s : State) (x : DocketNo) : (discardChannel b s).docket x = s.docket x :=
  State.docket_congr (by simp) _
@[simp] theorem discardChannel_sensor (b : BayNo) (s : State) (x : Sensor) : (discardChannel b s).sensor x = s.sensor x :=
  State.sensor_congr (by simp) _
@[simp] theorem abortBurn_job (b : BayNo) (s : State) (x : SlotNo) : (abortBurn b s).job x = s.job x :=
  State.job_congr (by simp) _
@[simp] theorem abortBurn_docket (b : BayNo) (s : State) (x : DocketNo) : (abortBurn b s).docket x = s.docket x :=
  State.docket_congr (by simp) _
@[simp] theorem abortBurn_sensor (b : BayNo) (s : State) (x : Sensor) : (abortBurn b s).sensor x = s.sensor x :=
  State.sensor_congr (by simp) _
@[simp] theorem stopVerify_job (b : BayNo) (s : State) (x : SlotNo) : (stopVerify b s).job x = s.job x :=
  State.job_congr (by simp) _
@[simp] theorem stopVerify_docket (b : BayNo) (s : State) (x : DocketNo) : (stopVerify b s).docket x = s.docket x :=
  State.docket_congr (by simp) _
@[simp] theorem stopVerify_sensor (b : BayNo) (s : State) (x : Sensor) : (stopVerify b s).sensor x = s.sensor x :=
  State.sensor_congr (by simp) _
@[simp] theorem setLift_job (l : Lift) (s : State) (x : SlotNo) : (setLift l s).job x = s.job x :=
  State.job_congr (by simp) _
@[simp] theorem setLift_docket (l : Lift) (s : State) (x : DocketNo) : (setLift l s).docket x = s.docket x :=
  State.docket_congr (by simp) _
@[simp] theorem setLift_sensor (l : Lift) (s : State) (x : Sensor) : (setLift l s).sensor x = s.sensor x :=
  State.sensor_congr (by simp) _
@[simp] theorem setLift_bay (l : Lift) (s : State) (x : BayNo) : (setLift l s).bay x = s.bay x :=
  State.bay_congr (by simp) _
@[simp] theorem setPhase_job (p : Phase) (s : State) (x : SlotNo) : (setPhase p s).job x = s.job x :=
  State.job_congr (by simp) _
@[simp] theorem setPhase_docket (p : Phase) (s : State) (x : DocketNo) : (setPhase p s).docket x = s.docket x :=
  State.docket_congr (by simp) _
@[simp] theorem setPhase_sensor (p : Phase) (s : State) (x : Sensor) : (setPhase p s).sensor x = s.sensor x :=
  State.sensor_congr (by simp) _
@[simp] theorem setPhase_bay (p : Phase) (s : State) (x : BayNo) : (setPhase p s).bay x = s.bay x :=
  State.bay_congr (by simp) _
@[simp] theorem setErrand_job (e : Option Errand) (s : State) (x : SlotNo) : (setErrand e s).job x = s.job x :=
  State.job_congr (by simp) _
@[simp] theorem setErrand_docket (e : Option Errand) (s : State) (x : DocketNo) : (setErrand e s).docket x = s.docket x :=
  State.docket_congr (by simp) _
@[simp] theorem setErrand_sensor (e : Option Errand) (s : State) (x : Sensor) : (setErrand e s).sensor x = s.sensor x :=
  State.sensor_congr (by simp) _
@[simp] theorem setErrand_bay (e : Option Errand) (s : State) (x : BayNo) : (setErrand e s).bay x = s.bay x :=
  State.bay_congr (by simp) _
@[simp] theorem startMove_job (target : Nat) (s : State) (x : SlotNo) : (startMove target s).job x = s.job x :=
  State.job_congr (by simp) _
@[simp] theorem startMove_docket (target : Nat) (s : State) (x : DocketNo) : (startMove target s).docket x = s.docket x :=
  State.docket_congr (by simp) _
@[simp] theorem startMove_sensor (target : Nat) (s : State) (x : Sensor) : (startMove target s).sensor x = s.sensor x :=
  State.sensor_congr (by simp) _
@[simp] theorem startMove_bay (target : Nat) (s : State) (x : BayNo) : (startMove target s).bay x = s.bay x :=
  State.bay_congr (by simp) _
@[simp] theorem stopLift_job (s : State) (x : SlotNo) : (stopLift s).job x = s.job x :=
  State.job_congr (by simp) _
@[simp] theorem stopLift_docket (s : State) (x : DocketNo) : (stopLift s).docket x = s.docket x :=
  State.docket_congr (by simp) _
@[simp] theorem stopLift_sensor (s : State) (x : Sensor) : (stopLift s).sensor x = s.sensor x :=
  State.sensor_congr (by simp) _
@[simp] theorem stopLift_bay (s : State) (x : BayNo) : (stopLift s).bay x = s.bay x :=
  State.bay_congr (by simp) _
@[simp] theorem stopMotors_job (s : State) (x : SlotNo) : (stopMotors s).job x = s.job x :=
  State.job_congr (by simp) _
@[simp] theorem stopMotors_docket (s : State) (x : DocketNo) : (stopMotors s).docket x = s.docket x :=
  State.docket_congr (by simp) _
@[simp] theorem stopMotors_sensor (s : State) (x : Sensor) : (stopMotors s).sensor x = s.sensor x :=
  State.sensor_congr (by simp) _
@[simp] theorem stopMotors_bay (s : State) (x : BayNo) : (stopMotors s).bay x = s.bay x :=
  State.bay_congr (by simp) _
@[simp] theorem startHoming_job (s : State) (x : SlotNo) : (startHoming s).job x = s.job x :=
  State.job_congr (by simp) _
@[simp] theorem startHoming_docket (s : State) (x : DocketNo) : (startHoming s).docket x = s.docket x :=
  State.docket_congr (by simp) _
@[simp] theorem startHoming_sensor (s : State) (x : Sensor) : (startHoming s).sensor x = s.sensor x :=
  State.sensor_congr (by simp) _
@[simp] theorem startHoming_bay (s : State) (x : BayNo) : (startHoming s).bay x = s.bay x :=
  State.bay_congr (by simp) _
@[simp] theorem startGripper_job (c : GripCommand) (s : State) (x : SlotNo) : (startGripper c s).job x = s.job x :=
  State.job_congr (by simp) _
@[simp] theorem startGripper_docket (c : GripCommand) (s : State) (x : DocketNo) : (startGripper c s).docket x = s.docket x :=
  State.docket_congr (by simp) _
@[simp] theorem startGripper_sensor (c : GripCommand) (s : State) (x : Sensor) : (startGripper c s).sensor x = s.sensor x :=
  State.sensor_congr (by simp) _
@[simp] theorem startGripper_bay (c : GripCommand) (s : State) (x : BayNo) : (startGripper c s).bay x = s.bay x :=
  State.bay_congr (by simp) _
@[simp] theorem askTrayOpen_job (b : BayNo) (p : Purpose) (s : State) (x : SlotNo) : (askTrayOpen b p s).job x = s.job x :=
  State.job_congr (by simp) _
@[simp] theorem askTrayOpen_docket (b : BayNo) (p : Purpose) (s : State) (x : DocketNo) : (askTrayOpen b p s).docket x = s.docket x :=
  State.docket_congr (by simp) _
@[simp] theorem askTrayOpen_sensor (b : BayNo) (p : Purpose) (s : State) (x : Sensor) : (askTrayOpen b p s).sensor x = s.sensor x :=
  State.sensor_congr (by simp) _
@[simp] theorem askTrayClose_job (b : BayNo) (s : State) (x : SlotNo) : (askTrayClose b s).job x = s.job x :=
  State.job_congr (by simp) _
@[simp] theorem askTrayClose_docket (b : BayNo) (s : State) (x : DocketNo) : (askTrayClose b s).docket x = s.docket x :=
  State.docket_congr (by simp) _
@[simp] theorem askTrayClose_sensor (b : BayNo) (s : State) (x : Sensor) : (askTrayClose b s).sensor x = s.sensor x :=
  State.sensor_congr (by simp) _
@[simp] theorem releaseBay_job (b : BayNo) (s : State) (x : SlotNo) : (releaseBay b s).job x = s.job x :=
  State.job_congr (by simp) _
@[simp] theorem releaseBay_docket (b : BayNo) (s : State) (x : DocketNo) : (releaseBay b s).docket x = s.docket x :=
  State.docket_congr (by simp) _
@[simp] theorem releaseBay_sensor (b : BayNo) (s : State) (x : Sensor) : (releaseBay b s).sensor x = s.sensor x :=
  State.sensor_congr (by simp) _
@[simp] theorem beginLeg_job (leg : Leg) (s : State) (x : SlotNo) : (beginLeg leg s).job x = s.job x :=
  State.job_congr (by simp) _
@[simp] theorem beginLeg_docket (leg : Leg) (s : State) (x : DocketNo) : (beginLeg leg s).docket x = s.docket x :=
  State.docket_congr (by simp) _
@[simp] theorem beginLeg_sensor (leg : Leg) (s : State) (x : Sensor) : (beginLeg leg s).sensor x = s.sensor x :=
  State.sensor_congr (by simp) _
@[simp] theorem beginLeg_bay (leg : Leg) (s : State) (x : BayNo) : (beginLeg leg s).bay x = s.bay x :=
  State.bay_congr (by simp) _
@[simp] theorem endErrand_job (s : State) (x : SlotNo) : (endErrand s).job x = s.job x :=
  State.job_congr (by simp) _
@[simp] theorem endErrand_docket (s : State) (x : DocketNo) : (endErrand s).docket x = s.docket x :=
  State.docket_congr (by simp) _
@[simp] theorem endErrand_sensor (s : State) (x : Sensor) : (endErrand s).sensor x = s.sensor x :=
  State.sensor_congr (by simp) _
@[simp] theorem endErrand_bay (s : State) (x : BayNo) : (endErrand s).bay x = s.bay x :=
  State.bay_congr (by simp) _
@[simp] theorem haltTransport_job (code : FaultCode) (bay : Option BayNo) (docket : Option DocketNo) (s : State) (x : SlotNo) : (haltTransport code bay docket s).job x = s.job x :=
  State.job_congr (by simp) _
@[simp] theorem haltTransport_docket (code : FaultCode) (bay : Option BayNo) (docket : Option DocketNo) (s : State) (x : DocketNo) : (haltTransport code bay docket s).docket x = s.docket x :=
  State.docket_congr (by simp) _
@[simp] theorem haltTransport_sensor (code : FaultCode) (bay : Option BayNo) (docket : Option DocketNo) (s : State) (x : Sensor) : (haltTransport code bay docket s).sensor x = s.sensor x :=
  State.sensor_congr (by simp) _
@[simp] theorem haltTransport_bay (code : FaultCode) (bay : Option BayNo) (docket : Option DocketNo) (s : State) (x : BayNo) : (haltTransport code bay docket s).bay x = s.bay x :=
  State.bay_congr (by simp) _
@[simp] theorem transportFault_job (code : FaultCode) (s : State) (x : SlotNo) : (transportFault code s).job x = s.job x :=
  State.job_congr (by simp) _
@[simp] theorem transportFault_docket (code : FaultCode) (s : State) (x : DocketNo) : (transportFault code s).docket x = s.docket x :=
  State.docket_congr (by simp) _
@[simp] theorem transportFault_sensor (code : FaultCode) (s : State) (x : Sensor) : (transportFault code s).sensor x = s.sensor x :=
  State.sensor_congr (by simp) _
@[simp] theorem transportFault_bay (code : FaultCode) (s : State) (x : BayNo) : (transportFault code s).bay x = s.bay x :=
  State.bay_congr (by simp) _
@[simp] theorem setQueue_job (q : List Task) (s : State) (x : SlotNo) : (setQueue q s).job x = s.job x :=
  State.job_congr (by simp) _
@[simp] theorem setQueue_docket (q : List Task) (s : State) (x : DocketNo) : (setQueue q s).docket x = s.docket x :=
  State.docket_congr (by simp) _
@[simp] theorem setQueue_sensor (q : List Task) (s : State) (x : Sensor) : (setQueue q s).sensor x = s.sensor x :=
  State.sensor_congr (by simp) _
@[simp] theorem setQueue_bay (q : List Task) (s : State) (x : BayNo) : (setQueue q s).bay x = s.bay x :=
  State.bay_congr (by simp) _
@[simp] theorem queueTask_job (d : DocketNo) (kind : TaskKind) (source dest : Station) (s : State) (x : SlotNo) : (queueTask d kind source dest s).job x = s.job x :=
  State.job_congr (by simp) _
@[simp] theorem queueTask_docket (d : DocketNo) (kind : TaskKind) (source dest : Station) (s : State) (x : DocketNo) : (queueTask d kind source dest s).docket x = s.docket x :=
  State.docket_congr (by simp) _
@[simp] theorem queueTask_sensor (d : DocketNo) (kind : TaskKind) (source dest : Station) (s : State) (x : Sensor) : (queueTask d kind source dest s).sensor x = s.sensor x :=
  State.sensor_congr (by simp) _
@[simp] theorem queueTask_bay (d : DocketNo) (kind : TaskKind) (source dest : Station) (s : State) (x : BayNo) : (queueTask d kind source dest s).bay x = s.bay x :=
  State.bay_congr (by simp) _
@[simp] theorem unqueueTask_job (d : DocketNo) (s : State) (x : SlotNo) : (unqueueTask d s).job x = s.job x :=
  State.job_congr (by simp) _
@[simp] theorem unqueueTask_docket (d : DocketNo) (s : State) (x : DocketNo) : (unqueueTask d s).docket x = s.docket x :=
  State.docket_congr (by simp) _
@[simp] theorem unqueueTask_sensor (d : DocketNo) (s : State) (x : Sensor) : (unqueueTask d s).sensor x = s.sensor x :=
  State.sensor_congr (by simp) _
@[simp] theorem unqueueTask_bay (d : DocketNo) (s : State) (x : BayNo) : (unqueueTask d s).bay x = s.bay x :=
  State.bay_congr (by simp) _
@[simp] theorem rejectQueued_job (d : DocketNo) (s : State) (x : SlotNo) : (rejectQueued d s).job x = s.job x :=
  State.job_congr (by simp) _
@[simp] theorem rejectQueued_docket (d : DocketNo) (s : State) (x : DocketNo) : (rejectQueued d s).docket x = s.docket x :=
  State.docket_congr (by simp) _
@[simp] theorem rejectQueued_sensor (d : DocketNo) (s : State) (x : Sensor) : (rejectQueued d s).sensor x = s.sensor x :=
  State.sensor_congr (by simp) _
@[simp] theorem rejectQueued_bay (d : DocketNo) (s : State) (x : BayNo) : (rejectQueued d s).bay x = s.bay x :=
  State.bay_congr (by simp) _
@[simp] theorem returnTask_job (s : State) (x : SlotNo) : (returnTask s).job x = s.job x :=
  State.job_congr (by simp) _
@[simp] theorem returnTask_docket (s : State) (x : DocketNo) : (returnTask s).docket x = s.docket x :=
  State.docket_congr (by simp) _
@[simp] theorem returnTask_sensor (s : State) (x : Sensor) : (returnTask s).sensor x = s.sensor x :=
  State.sensor_congr (by simp) _
@[simp] theorem returnTask_bay (s : State) (x : BayNo) : (returnTask s).bay x = s.bay x :=
  State.bay_congr (by simp) _
@[simp] theorem returnToEnd_job (s : State) (x : SlotNo) : (returnToEnd s).job x = s.job x :=
  State.job_congr (by simp) _
@[simp] theorem returnToEnd_docket (s : State) (x : DocketNo) : (returnToEnd s).docket x = s.docket x :=
  State.docket_congr (by simp) _
@[simp] theorem returnToEnd_sensor (s : State) (x : Sensor) : (returnToEnd s).sensor x = s.sensor x :=
  State.sensor_congr (by simp) _
@[simp] theorem returnToEnd_bay (s : State) (x : BayNo) : (returnToEnd s).bay x = s.bay x :=
  State.bay_congr (by simp) _
@[simp] theorem sendHalt_job (b : BayNo) (s : State) (x : SlotNo) : (sendHalt b s).job x = s.job x :=
  State.job_congr (by simp) _
@[simp] theorem sendHalt_docket (b : BayNo) (s : State) (x : DocketNo) : (sendHalt b s).docket x = s.docket x :=
  State.docket_congr (by simp) _
@[simp] theorem sendHalt_sensor (b : BayNo) (s : State) (x : Sensor) : (sendHalt b s).sensor x = s.sensor x :=
  State.sensor_congr (by simp) _
@[simp] theorem stopWork_job (halt : Bool) (r : Docket) (s : State) (x : SlotNo) : (stopWork halt r s).job x = s.job x :=
  State.job_congr (by simp) _
@[simp] theorem stopWork_docket (halt : Bool) (r : Docket) (s : State) (x : DocketNo) : (stopWork halt r s).docket x = s.docket x :=
  State.docket_congr (by simp) _
@[simp] theorem stopWork_sensor (halt : Bool) (r : Docket) (s : State) (x : Sensor) : (stopWork halt r s).sensor x = s.sensor x :=
  State.sensor_congr (by simp) _
@[simp] theorem giveCause_job (halt : Bool) (d : DocketNo) (c : Cause) (s : State) (x : SlotNo) : (giveCause halt d c s).job x = s.job x :=
  State.job_congr (by simp) _
@[simp] theorem giveCause_sensor (halt : Bool) (d : DocketNo) (c : Cause) (s : State) (x : Sensor) : (giveCause halt d c s).sensor x = s.sensor x :=
  State.sensor_congr (by simp) _
@[simp] theorem giveGood_job (d : DocketNo) (s : State) (x : SlotNo) : (giveGood d s).job x = s.job x :=
  State.job_congr (by simp) _
@[simp] theorem giveGood_sensor (d : DocketNo) (s : State) (x : Sensor) : (giveGood d s).sensor x = s.sensor x :=
  State.sensor_congr (by simp) _
@[simp] theorem giveGood_bay (d : DocketNo) (s : State) (x : BayNo) : (giveGood d s).bay x = s.bay x :=
  State.bay_congr (by simp) _
@[simp] theorem setDocketState_job (d : DocketNo) (st : DocketState) (s : State) (x : SlotNo) : (setDocketState d st s).job x = s.job x :=
  State.job_congr (by simp) _
@[simp] theorem setDocketState_sensor (d : DocketNo) (st : DocketState) (s : State) (x : Sensor) : (setDocketState d st s).sensor x = s.sensor x :=
  State.sensor_congr (by simp) _
@[simp] theorem setDocketState_bay (d : DocketNo) (st : DocketState) (s : State) (x : BayNo) : (setDocketState d st s).bay x = s.bay x :=
  State.bay_congr (by simp) _
@[simp] theorem endJob_docket (j : SlotNo) (s : State) (x : DocketNo) : (endJob j s).docket x = s.docket x :=
  State.docket_congr (by simp) _
@[simp] theorem endJob_sensor (j : SlotNo) (s : State) (x : Sensor) : (endJob j s).sensor x = s.sensor x :=
  State.sensor_congr (by simp) _
@[simp] theorem endJob_bay (j : SlotNo) (s : State) (x : BayNo) : (endJob j s).bay x = s.bay x :=
  State.bay_congr (by simp) _
@[simp] theorem endIfStopped_docket (j : SlotNo) (s : State) (x : DocketNo) : (endIfStopped j s).docket x = s.docket x :=
  State.docket_congr (by simp) _
@[simp] theorem endIfStopped_sensor (j : SlotNo) (s : State) (x : Sensor) : (endIfStopped j s).sensor x = s.sensor x :=
  State.sensor_congr (by simp) _
@[simp] theorem endIfStopped_bay (j : SlotNo) (s : State) (x : BayNo) : (endIfStopped j s).bay x = s.bay x :=
  State.bay_congr (by simp) _
@[simp] theorem land_job (d : DocketNo) (place : Option Place) (bin : Option OutputBin) (s : State) (x : SlotNo) : (land d place bin s).job x = s.job x :=
  State.job_congr (by simp) _
@[simp] theorem land_sensor (d : DocketNo) (place : Option Place) (bin : Option OutputBin) (s : State) (x : Sensor) : (land d place bin s).sensor x = s.sensor x :=
  State.sensor_congr (by simp) _
@[simp] theorem land_bay (d : DocketNo) (place : Option Place) (bin : Option OutputBin) (s : State) (x : BayNo) : (land d place bin s).bay x = s.bay x :=
  State.bay_congr (by simp) _
@[simp] theorem loseDisc_job (dropped : Bool) (d : DocketNo) (place : Place) (s : State) (x : SlotNo) : (loseDisc dropped d place s).job x = s.job x :=
  State.job_congr (by simp) _
@[simp] theorem loseDisc_sensor (dropped : Bool) (d : DocketNo) (place : Place) (s : State) (x : Sensor) : (loseDisc dropped d place s).sensor x = s.sensor x :=
  State.sensor_congr (by simp) _
@[simp] theorem stopPick_job (s : State) (x : SlotNo) : (stopPick s).job x = s.job x :=
  State.job_congr (by simp) _
@[simp] theorem stopPick_docket (s : State) (x : DocketNo) : (stopPick s).docket x = s.docket x :=
  State.docket_congr (by simp) _
@[simp] theorem stopPick_sensor (s : State) (x : Sensor) : (stopPick s).sensor x = s.sensor x :=
  State.sensor_congr (by simp) _
@[simp] theorem stopPick_bay (s : State) (x : BayNo) : (stopPick s).bay x = s.bay x :=
  State.bay_congr (by simp) _
@[simp] theorem forgetDissolved_sensor (d : DocketNo) (j : SlotNo) (s : State) (x : Sensor) : (forgetDissolved d j s).sensor x = s.sensor x :=
  State.sensor_congr (by simp) _
@[simp] theorem forgetDissolved_bay (d : DocketNo) (j : SlotNo) (s : State) (x : BayNo) : (forgetDissolved d j s).bay x = s.bay x :=
  State.bay_congr (by simp) _
@[simp] theorem dissolve_sensor (d : DocketNo) (s : State) (x : Sensor) : (dissolve d s).sensor x = s.sensor x :=
  State.sensor_congr (by simp) _
@[simp] theorem redirectArm_job (s : State) (x : SlotNo) : (redirectArm s).job x = s.job x :=
  State.job_congr (by simp) _
@[simp] theorem redirectArm_docket (s : State) (x : DocketNo) : (redirectArm s).docket x = s.docket x :=
  State.docket_congr (by simp) _
@[simp] theorem redirectArm_sensor (s : State) (x : Sensor) : (redirectArm s).sensor x = s.sensor x :=
  State.sensor_congr (by simp) _
@[simp] theorem redirectArm_bay (s : State) (x : BayNo) : (redirectArm s).bay x = s.bay x :=
  State.bay_congr (by simp) _
@[simp] theorem reroute_job (d : DocketNo) (c : Cause) (s : State) (x : SlotNo) : (reroute d c s).job x = s.job x :=
  State.job_congr (by simp) _
@[simp] theorem reroute_sensor (d : DocketNo) (c : Cause) (s : State) (x : Sensor) : (reroute d c s).sensor x = s.sensor x :=
  State.sensor_congr (by simp) _
@[simp] theorem stopDocket_sensor (c : Cause) (d : DocketNo) (s : State) (x : Sensor) : (stopDocket c d s).sensor x = s.sensor x :=
  State.sensor_congr (by simp) _
@[simp] theorem stopJob_sensor (j : SlotNo) (outcome : JobOutcome) (fail : Cause) (given : Cause) (s : State) (x : Sensor) : (stopJob j outcome fail given s).sensor x = s.sensor x :=
  State.sensor_congr (by simp) _
@[simp] theorem failJob_sensor (d : DocketNo) (c : Cause) (s : State) (x : Sensor) : (failJob d c s).sensor x = s.sensor x :=
  State.sensor_congr (by simp) _
@[simp] theorem decideLanding_sensor (j : SlotNo) (s : State) (x : Sensor) : (decideLanding j s).sensor x = s.sensor x :=
  State.sensor_congr (by simp) _
@[simp] theorem toRejectWait_job (d : DocketNo) (s : State) (x : SlotNo) : (toRejectWait d s).job x = s.job x :=
  State.job_congr (by simp) _
@[simp] theorem toRejectWait_sensor (d : DocketNo) (s : State) (x : Sensor) : (toRejectWait d s).sensor x = s.sensor x :=
  State.sensor_congr (by simp) _
@[simp] theorem toRejectWait_bay (d : DocketNo) (s : State) (x : BayNo) : (toRejectWait d s).bay x = s.bay x :=
  State.bay_congr (by simp) _
@[simp] theorem handOff_sensor (b : BayNo) (d : DocketNo) (s : State) (x : Sensor) : (handOff b d s).sensor x = s.sensor x :=
  State.sensor_congr (by simp) _
@[simp] theorem resetErrand_job (b : BayNo) (s : State) (x : SlotNo) : (resetErrand b s).job x = s.job x :=
  State.job_congr (by simp) _
@[simp] theorem resetErrand_docket (b : BayNo) (s : State) (x : DocketNo) : (resetErrand b s).docket x = s.docket x :=
  State.docket_congr (by simp) _
@[simp] theorem resetErrand_sensor (b : BayNo) (s : State) (x : Sensor) : (resetErrand b s).sensor x = s.sensor x :=
  State.sensor_congr (by simp) _
@[simp] theorem resetDocket_sensor (b : BayNo) (s : State) (x : Sensor) : (resetDocket b s).sensor x = s.sensor x :=
  State.sensor_congr (by simp) _
@[simp] theorem startReset_sensor (b : BayNo) (s : State) (x : Sensor) : (startReset b s).sensor x = s.sensor x :=
  State.sensor_congr (by simp) _
@[simp] theorem discover_job (p : Purpose) (b : BayNo) (s : State) (x : SlotNo) : (discover p b s).job x = s.job x :=
  State.job_congr (by simp) _
@[simp] theorem discover_docket (p : Purpose) (b : BayNo) (s : State) (x : DocketNo) : (discover p b s).docket x = s.docket x :=
  State.docket_congr (by simp) _
@[simp] theorem discover_sensor (p : Purpose) (b : BayNo) (s : State) (x : Sensor) : (discover p b s).sensor x = s.sensor x :=
  State.sensor_congr (by simp) _
@[simp] theorem leaveDiscovering_job (v : Bool) (b : BayNo) (s : State) (x : SlotNo) : (leaveDiscovering v b s).job x = s.job x :=
  State.job_congr (by simp) _
@[simp] theorem leaveDiscovering_docket (v : Bool) (b : BayNo) (s : State) (x : DocketNo) : (leaveDiscovering v b s).docket x = s.docket x :=
  State.docket_congr (by simp) _
@[simp] theorem leaveDiscovering_sensor (v : Bool) (b : BayNo) (s : State) (x : Sensor) : (leaveDiscovering v b s).sensor x = s.sensor x :=
  State.sensor_congr (by simp) _
@[simp] theorem onIdentity_job (b : BayNo) (drive : Drive) (s : State) (x : SlotNo) : (onIdentity b drive s).job x = s.job x :=
  State.job_congr (by simp) _
@[simp] theorem onIdentity_docket (b : BayNo) (drive : Drive) (s : State) (x : DocketNo) : (onIdentity b drive s).docket x = s.docket x :=
  State.docket_congr (by simp) _
@[simp] theorem onIdentity_sensor (b : BayNo) (drive : Drive) (s : State) (x : Sensor) : (onIdentity b drive s).sensor x = s.sensor x :=
  State.sensor_congr (by simp) _
@[simp] theorem onTrayOpen_job (b : BayNo) (s : State) (x : SlotNo) : (onTrayOpen b s).job x = s.job x :=
  State.job_congr (by simp) _
@[simp] theorem onTrayOpen_sensor (b : BayNo) (s : State) (x : Sensor) : (onTrayOpen b s).sensor x = s.sensor x :=
  State.sensor_congr (by simp) _
@[simp] theorem bayEmptied_job (b : BayNo) (s : State) (x : SlotNo) : (bayEmptied b s).job x = s.job x :=
  State.job_congr (by simp) _
@[simp] theorem bayEmptied_docket (b : BayNo) (s : State) (x : DocketNo) : (bayEmptied b s).docket x = s.docket x :=
  State.docket_congr (by simp) _
@[simp] theorem bayEmptied_sensor (b : BayNo) (s : State) (x : Sensor) : (bayEmptied b s).sensor x = s.sensor x :=
  State.sensor_congr (by simp) _
@[simp] theorem onTrayClosed_job (b : BayNo) (s : State) (x : SlotNo) : (onTrayClosed b s).job x = s.job x :=
  State.job_congr (by simp) _
@[simp] theorem onTrayClosed_docket (b : BayNo) (s : State) (x : DocketNo) : (onTrayClosed b s).docket x = s.docket x :=
  State.docket_congr (by simp) _
@[simp] theorem onTrayClosed_sensor (b : BayNo) (s : State) (x : Sensor) : (onTrayClosed b s).sensor x = s.sensor x :=
  State.sensor_congr (by simp) _
@[simp] theorem openBurn_job (b : BayNo) (d : DocketNo) (j : Job) (s : State) (x : SlotNo) : (openBurn b d j s).job x = s.job x :=
  State.job_congr (by simp) _
@[simp] theorem openBurn_sensor (b : BayNo) (d : DocketNo) (j : Job) (s : State) (x : Sensor) : (openBurn b d j s).sensor x = s.sensor x :=
  State.sensor_congr (by simp) _
@[simp] theorem mediaSeated_sensor (b : BayNo) (d : DocketNo) (r : Docket) (kind : MediaKind) (cls : MediaClass) (capacity : Nat) (s : State) (x : Sensor) : (mediaSeated b d r kind cls capacity s).sensor x = s.sensor x :=
  State.sensor_congr (by simp) _
@[simp] theorem listForSweep_job (b : BayNo) (s : State) (x : SlotNo) : (listForSweep b s).job x = s.job x :=
  State.job_congr (by simp) _
@[simp] theorem listForSweep_docket (b : BayNo) (s : State) (x : DocketNo) : (listForSweep b s).docket x = s.docket x :=
  State.docket_congr (by simp) _
@[simp] theorem listForSweep_sensor (b : BayNo) (s : State) (x : Sensor) : (listForSweep b s).sensor x = s.sensor x :=
  State.sensor_congr (by simp) _
@[simp] theorem listForSweep_bay (b : BayNo) (s : State) (x : BayNo) : (listForSweep b s).bay x = s.bay x :=
  State.bay_congr (by simp) _
@[simp] theorem endSweepProbe_job (b : BayNo) (s : State) (x : SlotNo) : (endSweepProbe b s).job x = s.job x :=
  State.job_congr (by simp) _
@[simp] theorem endSweepProbe_docket (b : BayNo) (s : State) (x : DocketNo) : (endSweepProbe b s).docket x = s.docket x :=
  State.docket_congr (by simp) _
@[simp] theorem endSweepProbe_sensor (b : BayNo) (s : State) (x : Sensor) : (endSweepProbe b s).sensor x = s.sensor x :=
  State.sensor_congr (by simp) _
@[simp] theorem onMedia_sensor (b : BayNo) (kind : MediaKind) (cls : MediaClass) (capacity : Nat) (s : State) (x : Sensor) : (onMedia b kind cls capacity s).sensor x = s.sensor x :=
  State.sensor_congr (by simp) _
@[simp] theorem onCredit_job (b : BayNo) (n : Nat) (s : State) (x : SlotNo) : (onCredit b n s).job x = s.job x :=
  State.job_congr (by simp) _
@[simp] theorem onCredit_docket (b : BayNo) (n : Nat) (s : State) (x : DocketNo) : (onCredit b n s).docket x = s.docket x :=
  State.docket_congr (by simp) _
@[simp] theorem onCredit_sensor (b : BayNo) (n : Nat) (s : State) (x : Sensor) : (onCredit b n s).sensor x = s.sensor x :=
  State.sensor_congr (by simp) _
@[simp] theorem groupWritten_job (d : DocketNo) (s : State) (x : SlotNo) : (groupWritten d s).job x = s.job x :=
  State.job_congr (by simp) _
@[simp] theorem groupWritten_sensor (d : DocketNo) (s : State) (x : Sensor) : (groupWritten d s).sensor x = s.sensor x :=
  State.sensor_congr (by simp) _
@[simp] theorem groupWritten_bay (d : DocketNo) (s : State) (x : BayNo) : (groupWritten d s).bay x = s.bay x :=
  State.bay_congr (by simp) _
@[simp] theorem closeBurn_job (b : BayNo) (d : DocketNo) (c : Burn) (s : State) (x : SlotNo) : (closeBurn b d c s).job x = s.job x :=
  State.job_congr (by simp) _
@[simp] theorem closeBurn_sensor (b : BayNo) (d : DocketNo) (c : Burn) (s : State) (x : Sensor) : (closeBurn b d c s).sensor x = s.sensor x :=
  State.sensor_congr (by simp) _
@[simp] theorem onWritten_job (b : BayNo) (g : Nat) (s : State) (x : SlotNo) : (onWritten b g s).job x = s.job x :=
  State.job_congr (by simp) _
@[simp] theorem onWritten_sensor (b : BayNo) (g : Nat) (s : State) (x : Sensor) : (onWritten b g s).sensor x = s.sensor x :=
  State.sensor_congr (by simp) _
@[simp] theorem onStarvedLinked_job (b : BayNo) (s : State) (x : SlotNo) : (onStarvedLinked b s).job x = s.job x :=
  State.job_congr (by simp) _
@[simp] theorem onStarvedLinked_sensor (b : BayNo) (s : State) (x : Sensor) : (onStarvedLinked b s).sensor x = s.sensor x :=
  State.sensor_congr (by simp) _
@[simp] theorem onStarvedFailed_job (b : BayNo) (s : State) (x : SlotNo) : (onStarvedFailed b s).job x = s.job x :=
  State.job_congr (by simp) _
@[simp] theorem onStarvedFailed_sensor (b : BayNo) (s : State) (x : Sensor) : (onStarvedFailed b s).sensor x = s.sensor x :=
  State.sensor_congr (by simp) _
@[simp] theorem goodInBay_job (b : BayNo) (d : DocketNo) (s : State) (x : SlotNo) : (goodInBay b d s).job x = s.job x :=
  State.job_congr (by simp) _
@[simp] theorem goodInBay_sensor (b : BayNo) (d : DocketNo) (s : State) (x : Sensor) : (goodInBay b d s).sensor x = s.sensor x :=
  State.sensor_congr (by simp) _
@[simp] theorem onClosed_job (b : BayNo) (s : State) (x : SlotNo) : (onClosed b s).job x = s.job x :=
  State.job_congr (by simp) _
@[simp] theorem onClosed_sensor (b : BayNo) (s : State) (x : Sensor) : (onClosed b s).sensor x = s.sensor x :=
  State.sensor_congr (by simp) _
@[simp] theorem onHalted_job (b : BayNo) (s : State) (x : SlotNo) : (onHalted b s).job x = s.job x :=
  State.job_congr (by simp) _
@[simp] theorem onHalted_docket (b : BayNo) (s : State) (x : DocketNo) : (onHalted b s).docket x = s.docket x :=
  State.docket_congr (by simp) _
@[simp] theorem onHalted_sensor (b : BayNo) (s : State) (x : Sensor) : (onHalted b s).sensor x = s.sensor x :=
  State.sensor_congr (by simp) _
@[simp] theorem onReadData_job (b : BayNo) (g : Nat) (data : List Byte) (s : State) (x : SlotNo) : (onReadData b g data s).job x = s.job x :=
  State.job_congr (by simp) _
@[simp] theorem onReadData_docket (b : BayNo) (g : Nat) (data : List Byte) (s : State) (x : DocketNo) : (onReadData b g data s).docket x = s.docket x :=
  State.docket_congr (by simp) _
@[simp] theorem onReadData_sensor (b : BayNo) (g : Nat) (data : List Byte) (s : State) (x : Sensor) : (onReadData b g data s).sensor x = s.sensor x :=
  State.sensor_congr (by simp) _
@[simp] theorem onReadFail_job (b : BayNo) (g : Nat) (s : State) (x : SlotNo) : (onReadFail b g s).job x = s.job x :=
  State.job_congr (by simp) _
@[simp] theorem onReadFail_sensor (b : BayNo) (g : Nat) (s : State) (x : Sensor) : (onReadFail b g s).sensor x = s.sensor x :=
  State.sensor_congr (by simp) _
@[simp] theorem onFault_sensor (b : BayNo) (s : State) (x : Sensor) : (onFault b s).sensor x = s.sensor x :=
  State.sensor_congr (by simp) _
@[simp] theorem openAfterReset_job (b : BayNo) (p : Purpose) (d : DocketNo) (s : State) (x : SlotNo) : (openAfterReset b p d s).job x = s.job x :=
  State.job_congr (by simp) _
@[simp] theorem openAfterReset_sensor (b : BayNo) (p : Purpose) (d : DocketNo) (s : State) (x : Sensor) : (openAfterReset b p d s).sensor x = s.sensor x :=
  State.sensor_congr (by simp) _
@[simp] theorem onResetDone_job (b : BayNo) (s : State) (x : SlotNo) : (onResetDone b s).job x = s.job x :=
  State.job_congr (by simp) _
@[simp] theorem onResetDone_sensor (b : BayNo) (s : State) (x : Sensor) : (onResetDone b s).sensor x = s.sensor x :=
  State.sensor_congr (by simp) _
@[simp] theorem seatDocket_job (b : BayNo) (d : DocketNo) (s : State) (x : SlotNo) : (seatDocket b d s).job x = s.job x :=
  State.job_congr (by simp) _
@[simp] theorem seatDocket_sensor (b : BayNo) (d : DocketNo) (s : State) (x : Sensor) : (seatDocket b d s).sensor x = s.sensor x :=
  State.sensor_congr (by simp) _
@[simp] theorem goAbsent_job (b : BayNo) (s : State) (x : SlotNo) : (goAbsent b s).job x = s.job x :=
  State.job_congr (by simp) _
@[simp] theorem goAbsent_docket (b : BayNo) (s : State) (x : DocketNo) : (goAbsent b s).docket x = s.docket x :=
  State.docket_congr (by simp) _
@[simp] theorem goAbsent_sensor (b : BayNo) (s : State) (x : Sensor) : (goAbsent b s).sensor x = s.sensor x :=
  State.sensor_congr (by simp) _
@[simp] theorem strand_job (b : BayNo) (s : State) (x : SlotNo) : (strand b s).job x = s.job x :=
  State.job_congr (by simp) _
@[simp] theorem strand_sensor (b : BayNo) (s : State) (x : Sensor) : (strand b s).sensor x = s.sensor x :=
  State.sensor_congr (by simp) _
@[simp] theorem resetFailed_job (b : BayNo) (s : State) (x : SlotNo) : (resetFailed b s).job x = s.job x :=
  State.job_congr (by simp) _
@[simp] theorem resetFailed_docket (b : BayNo) (s : State) (x : DocketNo) : (resetFailed b s).docket x = s.docket x :=
  State.docket_congr (by simp) _
@[simp] theorem resetFailed_sensor (b : BayNo) (s : State) (x : Sensor) : (resetFailed b s).sensor x = s.sensor x :=
  State.sensor_congr (by simp) _
@[simp] theorem afterTimeout_sensor (b : BayNo) (o : Outstanding) (s : State) (x : Sensor) : (afterTimeout b o s).sensor x = s.sensor x :=
  State.sensor_congr (by simp) _
@[simp] theorem onTimeout_sensor (b : BayNo) (q : Request) (s : State) (x : Sensor) : (onTimeout b q s).sensor x = s.sensor x :=
  State.sensor_congr (by simp) _
@[simp] theorem signatureAction_docket (b : BayNo) (slot : SlotNo) (j : Job) (g : Nat) (crc : BitVec 32) (s : State) (x : DocketNo) : (signatureAction b slot j g crc s).docket x = s.docket x :=
  State.docket_congr (by simp) _
@[simp] theorem signatureAction_sensor (b : BayNo) (slot : SlotNo) (j : Job) (g : Nat) (crc : BitVec 32) (s : State) (x : Sensor) : (signatureAction b slot j g crc s).sensor x = s.sensor x :=
  State.sensor_congr (by simp) _
@[simp] theorem takeExtent_sensor (b : BayNo) (c : Burn) (i : Nat) (record : List Byte) (s : State) (x : Sensor) : (takeExtent b c i record s).sensor x = s.sensor x :=
  State.sensor_congr (by simp) _
@[simp] theorem arriveExtent_sensor (b : BayNo) (i off : Nat) (data : List Byte) (s : State) (x : Sensor) : (arriveExtent b i off data s).sensor x = s.sensor x :=
  State.sensor_congr (by simp) _
@[simp] theorem arriveCompare_sensor (b : BayNo) (g : Nat) (data : List Byte) (s : State) (x : Sensor) : (arriveCompare b g data s).sensor x = s.sensor x :=
  State.sensor_congr (by simp) _
@[simp] theorem takeRead_job (b : BayNo) (c : Verify) (s : State) (x : SlotNo) : (takeRead b c s).job x = s.job x :=
  State.job_congr (by simp) _
@[simp] theorem takeRead_docket (b : BayNo) (c : Verify) (s : State) (x : DocketNo) : (takeRead b c s).docket x = s.docket x :=
  State.docket_congr (by simp) _
@[simp] theorem takeRead_sensor (b : BayNo) (c : Verify) (s : State) (x : Sensor) : (takeRead b c s).sensor x = s.sensor x :=
  State.sensor_congr (by simp) _
@[simp] theorem verdictGood_job (b : BayNo) (d : DocketNo) (s : State) (x : SlotNo) : (verdictGood b d s).job x = s.job x :=
  State.job_congr (by simp) _
@[simp] theorem verdictGood_sensor (b : BayNo) (d : DocketNo) (s : State) (x : Sensor) : (verdictGood b d s).sensor x = s.sensor x :=
  State.sensor_congr (by simp) _
@[simp] theorem compareGroup_job (b : BayNo) (c : Verify) (j : Job) (crc entry : BitVec 32) (s : State) (x : SlotNo) : (compareGroup b c j crc entry s).job x = s.job x :=
  State.job_congr (by simp) _
@[simp] theorem compareGroup_sensor (b : BayNo) (c : Verify) (j : Job) (crc entry : BitVec 32) (s : State) (x : Sensor) : (compareGroup b c j crc entry s).sensor x = s.sensor x :=
  State.sensor_congr (by simp) _
@[simp] theorem arriveBlock_job (b : BayNo) (n off : Nat) (data : List Byte) (s : State) (x : SlotNo) : (arriveBlock b n off data s).job x = s.job x :=
  State.job_congr (by simp) _
@[simp] theorem arriveBlock_docket (b : BayNo) (n off : Nat) (data : List Byte) (s : State) (x : DocketNo) : (arriveBlock b n off data s).docket x = s.docket x :=
  State.docket_congr (by simp) _
@[simp] theorem arriveBlock_sensor (b : BayNo) (n off : Nat) (data : List Byte) (s : State) (x : Sensor) : (arriveBlock b n off data s).sensor x = s.sensor x :=
  State.sensor_congr (by simp) _
@[simp] theorem issueFetch_job (k : FetchNo) (id : LineId) (r : FetchReq) (s : State) (x : SlotNo) : (issueFetch k id r s).job x = s.job x :=
  State.job_congr (by simp) _
@[simp] theorem issueFetch_docket (k : FetchNo) (id : LineId) (r : FetchReq) (s : State) (x : DocketNo) : (issueFetch k id r s).docket x = s.docket x :=
  State.docket_congr (by simp) _
@[simp] theorem issueFetch_sensor (k : FetchNo) (id : LineId) (r : FetchReq) (s : State) (x : Sensor) : (issueFetch k id r s).sensor x = s.sensor x :=
  State.sensor_congr (by simp) _
@[simp] theorem setPrinterRec_job (p : Printer) (s : State) (x : SlotNo) : (setPrinterRec p s).job x = s.job x :=
  State.job_congr (by simp) _
@[simp] theorem setPrinterRec_docket (p : Printer) (s : State) (x : DocketNo) : (setPrinterRec p s).docket x = s.docket x :=
  State.docket_congr (by simp) _
@[simp] theorem setPrinterRec_sensor (p : Printer) (s : State) (x : Sensor) : (setPrinterRec p s).sensor x = s.sensor x :=
  State.sensor_congr (by simp) _
@[simp] theorem setPrinterRec_bay (p : Printer) (s : State) (x : BayNo) : (setPrinterRec p s).bay x = s.bay x :=
  State.bay_congr (by simp) _
@[simp] theorem updPrint_job (d : Option DocketNo) (f : PrintCounters → PrintCounters) (s : State) (x : SlotNo) : (updPrint d f s).job x = s.job x :=
  State.job_congr (by simp) _
@[simp] theorem updPrint_sensor (d : Option DocketNo) (f : PrintCounters → PrintCounters) (s : State) (x : Sensor) : (updPrint d f s).sensor x = s.sensor x :=
  State.sensor_congr (by simp) _
@[simp] theorem updPrint_bay (d : Option DocketNo) (f : PrintCounters → PrintCounters) (s : State) (x : BayNo) : (updPrint d f s).bay x = s.bay x :=
  State.bay_congr (by simp) _
@[simp] theorem endLoad_job (s : State) (x : SlotNo) : (endLoad s).job x = s.job x :=
  State.job_congr (by simp) _
@[simp] theorem endLoad_docket (s : State) (x : DocketNo) : (endLoad s).docket x = s.docket x :=
  State.docket_congr (by simp) _
@[simp] theorem endLoad_sensor (s : State) (x : Sensor) : (endLoad s).sensor x = s.sensor x :=
  State.sensor_congr (by simp) _
@[simp] theorem staleBand_job (s : State) (x : SlotNo) : (staleBand s).job x = s.job x :=
  State.job_congr (by simp) _
@[simp] theorem staleBand_docket (s : State) (x : DocketNo) : (staleBand s).docket x = s.docket x :=
  State.docket_congr (by simp) _
@[simp] theorem staleBand_sensor (s : State) (x : Sensor) : (staleBand s).sensor x = s.sensor x :=
  State.sensor_congr (by simp) _
@[simp] theorem staleBand_bay (s : State) (x : BayNo) : (staleBand s).bay x = s.bay x :=
  State.bay_congr (by simp) _
@[simp] theorem enterSpindown_job (s : State) (x : SlotNo) : (enterSpindown s).job x = s.job x :=
  State.job_congr (by simp) _
@[simp] theorem enterSpindown_docket (s : State) (x : DocketNo) : (enterSpindown s).docket x = s.docket x :=
  State.docket_congr (by simp) _
@[simp] theorem enterSpindown_sensor (s : State) (x : Sensor) : (enterSpindown s).sensor x = s.sensor x :=
  State.sensor_congr (by simp) _
@[simp] theorem enterSpindown_bay (s : State) (x : BayNo) : (enterSpindown s).bay x = s.bay x :=
  State.bay_congr (by simp) _
@[simp] theorem abortPrint_job (cause : Cause) (code : Option FaultCode) (s : State) (x : SlotNo) : (abortPrint cause code s).job x = s.job x :=
  State.job_congr (by simp) _
@[simp] theorem abortPrint_sensor (cause : Cause) (code : Option FaultCode) (s : State) (x : Sensor) : (abortPrint cause code s).sensor x = s.sensor x :=
  State.sensor_congr (by simp) _
@[simp] theorem takeRecord_job (bytes : List Byte) (s : State) (x : SlotNo) : (takeRecord bytes s).job x = s.job x :=
  State.job_congr (by simp) _
@[simp] theorem takeRecord_sensor (bytes : List Byte) (s : State) (x : Sensor) : (takeRecord bytes s).sensor x = s.sensor x :=
  State.sensor_congr (by simp) _
@[simp] theorem arriveBand_job (part : BandPart) (off : Nat) (data : List Byte) (s : State) (x : SlotNo) : (arriveBand part off data s).job x = s.job x :=
  State.job_congr (by simp) _
@[simp] theorem arriveBand_sensor (part : BandPart) (off : Nat) (data : List Byte) (s : State) (x : Sensor) : (arriveBand part off data s).sensor x = s.sensor x :=
  State.sensor_congr (by simp) _
@[simp] theorem laneDue_job (e i : Nat) (t : PrintTime) (lane : LaneNo) (s : State) (x : SlotNo) : (laneDue e i t lane s).job x = s.job x :=
  State.job_congr (by simp) _
@[simp] theorem laneDue_sensor (e i : Nat) (t : PrintTime) (lane : LaneNo) (s : State) (x : Sensor) : (laneDue e i t lane s).sensor x = s.sensor x :=
  State.sensor_congr (by simp) _
@[simp] theorem laneDue_bay (e i : Nat) (t : PrintTime) (lane : LaneNo) (s : State) (x : BayNo) : (laneDue e i t lane s).bay x = s.bay x :=
  State.bay_congr (by simp) _
@[simp] theorem takeAllDue_job (e i : Nat) (t : PrintTime) (s : State) (x : SlotNo) : (takeAllDue e i t s).job x = s.job x :=
  State.job_congr (by simp) _
@[simp] theorem takeAllDue_sensor (e i : Nat) (t : PrintTime) (s : State) (x : Sensor) : (takeAllDue e i t s).sensor x = s.sensor x :=
  State.sensor_congr (by simp) _
@[simp] theorem takeAllDue_bay (e i : Nat) (t : PrintTime) (s : State) (x : BayNo) : (takeAllDue e i t s).bay x = s.bay x :=
  State.bay_congr (by simp) _
@[simp] theorem clipAll_job (e : Nat) (t : PrintTime) (s : State) (x : SlotNo) : (clipAll e t s).job x = s.job x :=
  State.job_congr (by simp) _
@[simp] theorem clipAll_sensor (e : Nat) (t : PrintTime) (s : State) (x : Sensor) : (clipAll e t s).sensor x = s.sensor x :=
  State.sensor_congr (by simp) _
@[simp] theorem clipAll_bay (e : Nat) (t : PrintTime) (s : State) (x : BayNo) : (clipAll e t s).bay x = s.bay x :=
  State.bay_congr (by simp) _
@[simp] theorem fireDot_job (lane : LaneNo) (s : State) (x : SlotNo) : (fireDot lane s).job x = s.job x :=
  State.job_congr (by simp) _
@[simp] theorem fireDot_sensor (lane : LaneNo) (s : State) (x : Sensor) : (fireDot lane s).sensor x = s.sensor x :=
  State.sensor_congr (by simp) _
@[simp] theorem fireDot_bay (lane : LaneNo) (s : State) (x : BayNo) : (fireDot lane s).bay x = s.bay x :=
  State.bay_congr (by simp) _
@[simp] theorem endRecovery_job (lane : LaneNo) (s : State) (x : SlotNo) : (endRecovery lane s).job x = s.job x :=
  State.job_congr (by simp) _
@[simp] theorem endRecovery_docket (lane : LaneNo) (s : State) (x : DocketNo) : (endRecovery lane s).docket x = s.docket x :=
  State.docket_congr (by simp) _
@[simp] theorem endRecovery_sensor (lane : LaneNo) (s : State) (x : Sensor) : (endRecovery lane s).sensor x = s.sensor x :=
  State.sensor_congr (by simp) _
@[simp] theorem endRecovery_bay (lane : LaneNo) (s : State) (x : BayNo) : (endRecovery lane s).bay x = s.bay x :=
  State.bay_congr (by simp) _
@[simp] theorem takeDisc_job (d : DocketNo) (s : State) (x : SlotNo) : (takeDisc d s).job x = s.job x :=
  State.job_congr (by simp) _
@[simp] theorem takeDisc_sensor (d : DocketNo) (s : State) (x : Sensor) : (takeDisc d s).sensor x = s.sensor x :=
  State.sensor_congr (by simp) _
@[simp] theorem takeDisc_bay (d : DocketNo) (s : State) (x : BayNo) : (takeDisc d s).bay x = s.bay x :=
  State.bay_congr (by simp) _
@[simp] theorem enterSpinup_job (s : State) (x : SlotNo) : (enterSpinup s).job x = s.job x :=
  State.job_congr (by simp) _
@[simp] theorem enterSpinup_docket (s : State) (x : DocketNo) : (enterSpinup s).docket x = s.docket x :=
  State.docket_congr (by simp) _
@[simp] theorem enterSpinup_sensor (s : State) (x : Sensor) : (enterSpinup s).sensor x = s.sensor x :=
  State.sensor_congr (by simp) _
@[simp] theorem enterSpinup_bay (s : State) (x : BayNo) : (enterSpinup s).bay x = s.bay x :=
  State.bay_congr (by simp) _
@[simp] theorem enterSettling_job (breached : Bool) (s : State) (x : SlotNo) : (enterSettling breached s).job x = s.job x :=
  State.job_congr (by simp) _
@[simp] theorem enterSettling_docket (breached : Bool) (s : State) (x : DocketNo) : (enterSettling breached s).docket x = s.docket x :=
  State.docket_congr (by simp) _
@[simp] theorem enterSettling_sensor (breached : Bool) (s : State) (x : Sensor) : (enterSettling breached s).sensor x = s.sensor x :=
  State.sensor_congr (by simp) _
@[simp] theorem enterSettling_bay (breached : Bool) (s : State) (x : BayNo) : (enterSettling breached s).bay x = s.bay x :=
  State.bay_congr (by simp) _
@[simp] theorem slip_job (s : State) (x : SlotNo) : (slip s).job x = s.job x :=
  State.job_congr (by simp) _
@[simp] theorem slip_sensor (s : State) (x : Sensor) : (slip s).sensor x = s.sensor x :=
  State.sensor_congr (by simp) _
@[simp] theorem startBand_job (r : BandRecord) (i : Nat) (t : PrintTime) (s : State) (x : SlotNo) : (startBand r i t s).job x = s.job x :=
  State.job_congr (by simp) _
@[simp] theorem startBand_sensor (r : BandRecord) (i : Nat) (t : PrintTime) (s : State) (x : Sensor) : (startBand r i t s).sensor x = s.sensor x :=
  State.sensor_congr (by simp) _
@[simp] theorem startBand_bay (r : BandRecord) (i : Nat) (t : PrintTime) (s : State) (x : BayNo) : (startBand r i t s).bay x = s.bay x :=
  State.bay_congr (by simp) _
@[simp] theorem testBand_job (i : Nat) (t : PrintTime) (s : State) (x : SlotNo) : (testBand i t s).job x = s.job x :=
  State.job_congr (by simp) _
@[simp] theorem testBand_sensor (i : Nat) (t : PrintTime) (s : State) (x : Sensor) : (testBand i t s).sensor x = s.sensor x :=
  State.sensor_congr (by simp) _
@[simp] theorem completeLabel_job (s : State) (x : SlotNo) : (completeLabel s).job x = s.job x :=
  State.job_congr (by simp) _
@[simp] theorem completeLabel_sensor (s : State) (x : Sensor) : (completeLabel s).sensor x = s.sensor x :=
  State.sensor_congr (by simp) _
@[simp] theorem completeLabel_bay (s : State) (x : BayNo) : (completeLabel s).bay x = s.bay x :=
  State.bay_congr (by simp) _
@[simp] theorem endRevolution_job (i : Nat) (t : PrintTime) (s : State) (x : SlotNo) : (endRevolution i t s).job x = s.job x :=
  State.job_congr (by simp) _
@[simp] theorem endRevolution_sensor (i : Nat) (t : PrintTime) (s : State) (x : Sensor) : (endRevolution i t s).sensor x = s.sensor x :=
  State.sensor_congr (by simp) _
@[simp] theorem breach_job (atIndex : Bool) (s : State) (x : SlotNo) : (breach atIndex s).job x = s.job x :=
  State.job_congr (by simp) _
@[simp] theorem breach_sensor (atIndex : Bool) (s : State) (x : Sensor) : (breach atIndex s).sensor x = s.sensor x :=
  State.sensor_congr (by simp) _
@[simp] theorem onEdge_job (t : PrintTime) (s : State) (x : SlotNo) : (onEdge t s).job x = s.job x :=
  State.job_congr (by simp) _
@[simp] theorem onEdge_sensor (t : PrintTime) (s : State) (x : Sensor) : (onEdge t s).sensor x = s.sensor x :=
  State.sensor_congr (by simp) _
@[simp] theorem onIndex_job (t : PrintTime) (s : State) (x : SlotNo) : (onIndex t s).job x = s.job x :=
  State.job_congr (by simp) _
@[simp] theorem onIndex_sensor (t : PrintTime) (s : State) (x : Sensor) : (onIndex t s).sensor x = s.sensor x :=
  State.sensor_congr (by simp) _
@[simp] theorem trayOn_job (s : State) (x : SlotNo) : (trayOn s).job x = s.job x :=
  State.job_congr (by simp) _
@[simp] theorem trayOn_docket (s : State) (x : DocketNo) : (trayOn s).docket x = s.docket x :=
  State.docket_congr (by simp) _
@[simp] theorem trayOn_sensor (s : State) (x : Sensor) : (trayOn s).sensor x = s.sensor x :=
  State.sensor_congr (by simp) _
@[simp] theorem trayOn_bay (s : State) (x : BayNo) : (trayOn s).bay x = s.bay x :=
  State.bay_congr (by simp) _
@[simp] theorem trayOff_job (s : State) (x : SlotNo) : (trayOff s).job x = s.job x :=
  State.job_congr (by simp) _
@[simp] theorem trayOff_docket (s : State) (x : DocketNo) : (trayOff s).docket x = s.docket x :=
  State.docket_congr (by simp) _
@[simp] theorem trayOff_sensor (s : State) (x : Sensor) : (trayOff s).sensor x = s.sensor x :=
  State.sensor_congr (by simp) _
@[simp] theorem trayOff_bay (s : State) (x : BayNo) : (trayOff s).bay x = s.bay x :=
  State.bay_congr (by simp) _
@[simp] theorem resetPrinter_job (s : State) (x : SlotNo) : (resetPrinter s).job x = s.job x :=
  State.job_congr (by simp) _
@[simp] theorem resetPrinter_docket (s : State) (x : DocketNo) : (resetPrinter s).docket x = s.docket x :=
  State.docket_congr (by simp) _
@[simp] theorem resetPrinter_sensor (s : State) (x : Sensor) : (resetPrinter s).sensor x = s.sensor x :=
  State.sensor_congr (by simp) _
@[simp] theorem askAt_job (st : Station) (p : Purpose) (s : State) (x : SlotNo) : (askAt st p s).job x = s.job x :=
  State.job_congr (by simp) _
@[simp] theorem askAt_docket (st : Station) (p : Purpose) (s : State) (x : DocketNo) : (askAt st p s).docket x = s.docket x :=
  State.docket_congr (by simp) _
@[simp] theorem askAt_sensor (st : Station) (p : Purpose) (s : State) (x : Sensor) : (askAt st p s).sensor x = s.sensor x :=
  State.sensor_congr (by simp) _
@[simp] theorem closeAt_job (st : Station) (s : State) (x : SlotNo) : (closeAt st s).job x = s.job x :=
  State.job_congr (by simp) _
@[simp] theorem closeAt_docket (st : Station) (s : State) (x : DocketNo) : (closeAt st s).docket x = s.docket x :=
  State.docket_congr (by simp) _
@[simp] theorem closeAt_sensor (st : Station) (s : State) (x : Sensor) : (closeAt st s).sensor x = s.sensor x :=
  State.sensor_congr (by simp) _
@[simp] theorem grantTask_sensor (t : Task) (s : State) (x : Sensor) : (grantTask t s).sensor x = s.sensor x :=
  State.sensor_congr (by simp) _
@[simp] theorem driveSwing_job (side : Side) (s : State) (x : SlotNo) : (driveSwing side s).job x = s.job x :=
  State.job_congr (by simp) _
@[simp] theorem driveSwing_docket (side : Side) (s : State) (x : DocketNo) : (driveSwing side s).docket x = s.docket x :=
  State.docket_congr (by simp) _
@[simp] theorem driveSwing_sensor (side : Side) (s : State) (x : Sensor) : (driveSwing side s).sensor x = s.sensor x :=
  State.sensor_congr (by simp) _
@[simp] theorem driveSwing_bay (side : Side) (s : State) (x : BayNo) : (driveSwing side s).bay x = s.bay x :=
  State.bay_congr (by simp) _
@[simp] theorem stopSwing_job (s : State) (x : SlotNo) : (stopSwing s).job x = s.job x :=
  State.job_congr (by simp) _
@[simp] theorem stopSwing_docket (s : State) (x : DocketNo) : (stopSwing s).docket x = s.docket x :=
  State.docket_congr (by simp) _
@[simp] theorem stopSwing_sensor (s : State) (x : Sensor) : (stopSwing s).sensor x = s.sensor x :=
  State.sensor_congr (by simp) _
@[simp] theorem stopSwing_bay (s : State) (x : BayNo) : (stopSwing s).bay x = s.bay x :=
  State.bay_congr (by simp) _
@[simp] theorem dropFault_job (place : Option Place) (s : State) (x : SlotNo) : (dropFault place s).job x = s.job x :=
  State.job_congr (by simp) _
@[simp] theorem dropFault_sensor (place : Option Place) (s : State) (x : Sensor) : (dropFault place s).sensor x = s.sensor x :=
  State.sensor_congr (by simp) _
@[simp] theorem pickEmpty_sensor (i : InputBin) (s : State) (x : Sensor) : (pickEmpty i s).sensor x = s.sensor x :=
  State.sensor_congr (by simp) _
@[simp] theorem startDescent_job (i : InputBin) (s : State) (x : SlotNo) : (startDescent i s).job x = s.job x :=
  State.job_congr (by simp) _
@[simp] theorem startDescent_docket (i : InputBin) (s : State) (x : DocketNo) : (startDescent i s).docket x = s.docket x :=
  State.docket_congr (by simp) _
@[simp] theorem startDescent_sensor (i : InputBin) (s : State) (x : Sensor) : (startDescent i s).sensor x = s.sensor x :=
  State.sensor_congr (by simp) _
@[simp] theorem startDescent_bay (i : InputBin) (s : State) (x : BayNo) : (startDescent i s).bay x = s.bay x :=
  State.bay_congr (by simp) _
@[simp] theorem readStack_sensor (i : InputBin) (s : State) (x : Sensor) : (readStack i s).sensor x = s.sensor x :=
  State.sensor_congr (by simp) _
@[simp] theorem resumeErrand_job (p : Purpose) (e : Errand) (s : State) (x : SlotNo) : (resumeErrand p e s).job x = s.job x :=
  State.job_congr (by simp) _
@[simp] theorem resumeErrand_docket (p : Purpose) (e : Errand) (s : State) (x : DocketNo) : (resumeErrand p e s).docket x = s.docket x :=
  State.docket_congr (by simp) _
@[simp] theorem resumeErrand_sensor (p : Purpose) (e : Errand) (s : State) (x : Sensor) : (resumeErrand p e s).sensor x = s.sensor x :=
  State.sensor_congr (by simp) _
@[simp] theorem resumeTask_job (t : Task) (e : Errand) (s : State) (x : SlotNo) : (resumeTask t e s).job x = s.job x :=
  State.job_congr (by simp) _
@[simp] theorem resumeTask_sensor (t : Task) (e : Errand) (s : State) (x : Sensor) : (resumeTask t e s).sensor x = s.sensor x :=
  State.sensor_congr (by simp) _
@[simp] theorem resumeSweep_job (s : State) (x : SlotNo) : (resumeSweep s).job x = s.job x :=
  State.job_congr (by simp) _
@[simp] theorem resumeSweep_docket (s : State) (x : DocketNo) : (resumeSweep s).docket x = s.docket x :=
  State.docket_congr (by simp) _
@[simp] theorem resumeSweep_sensor (s : State) (x : Sensor) : (resumeSweep s).sensor x = s.sensor x :=
  State.sensor_congr (by simp) _
@[simp] theorem enterDiscovering_job (s : State) (x : SlotNo) : (enterDiscovering s).job x = s.job x :=
  State.job_congr (by simp) _
@[simp] theorem enterDiscovering_docket (s : State) (x : DocketNo) : (enterDiscovering s).docket x = s.docket x :=
  State.docket_congr (by simp) _
@[simp] theorem enterDiscovering_sensor (s : State) (x : Sensor) : (enterDiscovering s).sensor x = s.sensor x :=
  State.sensor_congr (by simp) _
@[simp] theorem trustCount_job (s : State) (x : SlotNo) : (trustCount s).job x = s.job x :=
  State.job_congr (by simp) _
@[simp] theorem trustCount_docket (s : State) (x : DocketNo) : (trustCount s).docket x = s.docket x :=
  State.docket_congr (by simp) _
@[simp] theorem trustCount_sensor (s : State) (x : Sensor) : (trustCount s).sensor x = s.sensor x :=
  State.sensor_congr (by simp) _
@[simp] theorem trustCount_bay (s : State) (x : BayNo) : (trustCount s).bay x = s.bay x :=
  State.bay_congr (by simp) _
@[simp] theorem finishHoming_job (s : State) (x : SlotNo) : (finishHoming s).job x = s.job x :=
  State.job_congr (by simp) _
@[simp] theorem finishHoming_sensor (s : State) (x : Sensor) : (finishHoming s).sensor x = s.sensor x :=
  State.sensor_congr (by simp) _
@[simp] theorem homeReached_job (s : State) (x : SlotNo) : (homeReached s).job x = s.job x :=
  State.job_congr (by simp) _
@[simp] theorem homeReached_docket (s : State) (x : DocketNo) : (homeReached s).docket x = s.docket x :=
  State.docket_congr (by simp) _
@[simp] theorem homeReached_sensor (s : State) (x : Sensor) : (homeReached s).sensor x = s.sensor x :=
  State.sensor_congr (by simp) _
@[simp] theorem homeReached_bay (s : State) (x : BayNo) : (homeReached s).bay x = s.bay x :=
  State.bay_congr (by simp) _
@[simp] theorem homeDownFrom_job (s : State) (x : SlotNo) : (homeDownFrom s).job x = s.job x :=
  State.job_congr (by simp) _
@[simp] theorem homeDownFrom_docket (s : State) (x : DocketNo) : (homeDownFrom s).docket x = s.docket x :=
  State.docket_congr (by simp) _
@[simp] theorem homeDownFrom_sensor (s : State) (x : Sensor) : (homeDownFrom s).sensor x = s.sensor x :=
  State.sensor_congr (by simp) _
@[simp] theorem homeDownFrom_bay (s : State) (x : BayNo) : (homeDownFrom s).bay x = s.bay x :=
  State.bay_congr (by simp) _
@[simp] theorem placedAtPrinter_job (s : State) (x : SlotNo) : (placedAtPrinter s).job x = s.job x :=
  State.job_congr (by simp) _
@[simp] theorem placedAtPrinter_sensor (s : State) (x : Sensor) : (placedAtPrinter s).sensor x = s.sensor x :=
  State.sensor_congr (by simp) _
@[simp] theorem placedAtPrinter_bay (s : State) (x : BayNo) : (placedAtPrinter s).bay x = s.bay x :=
  State.bay_congr (by simp) _
@[simp] theorem settleLift_job (s : State) (x : SlotNo) : (settleLift s).job x = s.job x :=
  State.job_congr (by simp) _
@[simp] theorem settleLift_docket (s : State) (x : DocketNo) : (settleLift s).docket x = s.docket x :=
  State.docket_congr (by simp) _
@[simp] theorem settleLift_sensor (s : State) (x : Sensor) : (settleLift s).sensor x = s.sensor x :=
  State.sensor_congr (by simp) _
@[simp] theorem settleLift_bay (s : State) (x : BayNo) : (settleLift s).bay x = s.bay x :=
  State.bay_congr (by simp) _
@[simp] theorem pickSuccess_sensor (t : Task) (s : State) (x : Sensor) : (pickSuccess t s).sensor x = s.sensor x :=
  State.sensor_congr (by simp) _
@[simp] theorem pickSuccess_bay (t : Task) (s : State) (x : BayNo) : (pickSuccess t s).bay x = s.bay x :=
  State.bay_congr (by simp) _
@[simp] theorem gripOut_job (t : Task) (s : State) (x : SlotNo) : (gripOut t s).job x = s.job x :=
  State.job_congr (by simp) _
@[simp] theorem gripOut_sensor (t : Task) (s : State) (x : Sensor) : (gripOut t s).sensor x = s.sensor x :=
  State.sensor_congr (by simp) _
@[simp] theorem markHeld_job (s : State) (x : SlotNo) : (markHeld s).job x = s.job x :=
  State.job_congr (by simp) _
@[simp] theorem markHeld_docket (s : State) (x : DocketNo) : (markHeld s).docket x = s.docket x :=
  State.docket_congr (by simp) _
@[simp] theorem markHeld_sensor (s : State) (x : Sensor) : (markHeld s).sensor x = s.sensor x :=
  State.sensor_congr (by simp) _
@[simp] theorem markHeld_bay (s : State) (x : BayNo) : (markHeld s).bay x = s.bay x :=
  State.bay_congr (by simp) _
@[simp] theorem gripHold_sensor (s : State) (x : Sensor) : (gripHold s).sensor x = s.sensor x :=
  State.sensor_congr (by simp) _
@[simp] theorem missDrop_job (t : Task) (s : State) (x : SlotNo) : (missDrop t s).job x = s.job x :=
  State.job_congr (by simp) _
@[simp] theorem missDrop_sensor (t : Task) (s : State) (x : Sensor) : (missDrop t s).sensor x = s.sensor x :=
  State.sensor_congr (by simp) _
@[simp] theorem gripMiss_sensor (s : State) (x : Sensor) : (gripMiss s).sensor x = s.sensor x :=
  State.sensor_congr (by simp) _
@[simp] theorem endGrip_sensor (s : State) (x : Sensor) : (endGrip s).sensor x = s.sensor x :=
  State.sensor_congr (by simp) _
@[simp] theorem placeDone_job (s : State) (x : SlotNo) : (placeDone s).job x = s.job x :=
  State.job_congr (by simp) _
@[simp] theorem placeDone_sensor (s : State) (x : Sensor) : (placeDone s).sensor x = s.sensor x :=
  State.sensor_congr (by simp) _
@[simp] theorem releaseFault_job (s : State) (x : SlotNo) : (releaseFault s).job x = s.job x :=
  State.job_congr (by simp) _
@[simp] theorem releaseFault_sensor (s : State) (x : Sensor) : (releaseFault s).sensor x = s.sensor x :=
  State.sensor_congr (by simp) _
@[simp] theorem endRelease_job (s : State) (x : SlotNo) : (endRelease s).job x = s.job x :=
  State.job_congr (by simp) _
@[simp] theorem endRelease_sensor (s : State) (x : Sensor) : (endRelease s).sensor x = s.sensor x :=
  State.sensor_congr (by simp) _
@[simp] theorem discFalls_job (s : State) (x : SlotNo) : (discFalls s).job x = s.job x :=
  State.job_congr (by simp) _
@[simp] theorem discFalls_sensor (s : State) (x : Sensor) : (discFalls s).sensor x = s.sensor x :=
  State.sensor_congr (by simp) _
@[simp] theorem inputDoor_job (i : InputBin) (on : Bool) (s : State) (x : SlotNo) : (inputDoor i on s).job x = s.job x :=
  State.job_congr (by simp) _
@[simp] theorem inputDoor_docket (i : InputBin) (on : Bool) (s : State) (x : DocketNo) : (inputDoor i on s).docket x = s.docket x :=
  State.docket_congr (by simp) _
@[simp] theorem inputDoor_sensor (i : InputBin) (on : Bool) (s : State) (x : Sensor) : (inputDoor i on s).sensor x = s.sensor x :=
  State.sensor_congr (by simp) _
@[simp] theorem inputDoor_bay (i : InputBin) (on : Bool) (s : State) (x : BayNo) : (inputDoor i on s).bay x = s.bay x :=
  State.bay_congr (by simp) _
@[simp] theorem outputDoor_job (o : OutputBin) (on : Bool) (s : State) (x : SlotNo) : (outputDoor o on s).job x = s.job x :=
  State.job_congr (by simp) _
@[simp] theorem outputDoor_docket (o : OutputBin) (on : Bool) (s : State) (x : DocketNo) : (outputDoor o on s).docket x = s.docket x :=
  State.docket_congr (by simp) _
@[simp] theorem outputDoor_sensor (o : OutputBin) (on : Bool) (s : State) (x : Sensor) : (outputDoor o on s).sensor x = s.sensor x :=
  State.sensor_congr (by simp) _
@[simp] theorem outputDoor_bay (o : OutputBin) (on : Bool) (s : State) (x : BayNo) : (outputDoor o on s).bay x = s.bay x :=
  State.bay_congr (by simp) _
@[simp] theorem sensorActs_job (x : Sensor) (on : Bool) (s : State) (x' : SlotNo) : (sensorActs x on s).job x' = s.job x' :=
  State.job_congr (by simp) _
@[simp] theorem sensorActs_sensor (x : Sensor) (on : Bool) (s : State) (x' : Sensor) : (sensorActs x on s).sensor x' = s.sensor x' :=
  State.sensor_congr (by simp) _
@[simp] theorem changeSensor_job (x : Sensor) (on : Bool) (s : State) (x' : SlotNo) : (changeSensor x on s).job x' = s.job x' :=
  State.job_congr (by simp) _
@[simp] theorem beginProbe_job (b : BayNo) (s : State) (x : SlotNo) : (beginProbe b s).job x = s.job x :=
  State.job_congr (by simp) _
@[simp] theorem beginProbe_docket (b : BayNo) (s : State) (x : DocketNo) : (beginProbe b s).docket x = s.docket x :=
  State.docket_congr (by simp) _
@[simp] theorem beginProbe_sensor (b : BayNo) (s : State) (x : Sensor) : (beginProbe b s).sensor x = s.sensor x :=
  State.sensor_congr (by simp) _
@[simp] theorem setStage_job (st : SweepStage) (s : State) (x : SlotNo) : (setStage st s).job x = s.job x :=
  State.job_congr (by simp) _
@[simp] theorem setStage_docket (st : SweepStage) (s : State) (x : DocketNo) : (setStage st s).docket x = s.docket x :=
  State.docket_congr (by simp) _
@[simp] theorem setStage_sensor (st : SweepStage) (s : State) (x : Sensor) : (setStage st s).sensor x = s.sensor x :=
  State.sensor_congr (by simp) _
@[simp] theorem setStage_bay (st : SweepStage) (s : State) (x : BayNo) : (setStage st s).bay x = s.bay x :=
  State.bay_congr (by simp) _
@[simp] theorem sweepBay_job (b : BayNo) (rest : List BayNo) (s : State) (x : SlotNo) : (sweepBay b rest s).job x = s.job x :=
  State.job_congr (by simp) _
@[simp] theorem sweepBay_docket (b : BayNo) (rest : List BayNo) (s : State) (x : DocketNo) : (sweepBay b rest s).docket x = s.docket x :=
  State.docket_congr (by simp) _
@[simp] theorem sweepBay_sensor (b : BayNo) (rest : List BayNo) (s : State) (x : Sensor) : (sweepBay b rest s).sensor x = s.sensor x :=
  State.sensor_congr (by simp) _
@[simp] theorem beginScan_job (s : State) (x : SlotNo) : (beginScan s).job x = s.job x :=
  State.job_congr (by simp) _
@[simp] theorem beginScan_docket (s : State) (x : DocketNo) : (beginScan s).docket x = s.docket x :=
  State.docket_congr (by simp) _
@[simp] theorem beginScan_sensor (s : State) (x : Sensor) : (beginScan s).sensor x = s.sensor x :=
  State.sensor_congr (by simp) _
@[simp] theorem beginScan_bay (s : State) (x : BayNo) : (beginScan s).bay x = s.bay x :=
  State.bay_congr (by simp) _
@[simp] theorem requestScan_job (s : State) (x : SlotNo) : (requestScan s).job x = s.job x :=
  State.job_congr (by simp) _
@[simp] theorem requestScan_docket (s : State) (x : DocketNo) : (requestScan s).docket x = s.docket x :=
  State.docket_congr (by simp) _
@[simp] theorem requestScan_sensor (s : State) (x : Sensor) : (requestScan s).sensor x = s.sensor x :=
  State.sensor_congr (by simp) _
@[simp] theorem requestScan_bay (s : State) (x : BayNo) : (requestScan s).bay x = s.bay x :=
  State.bay_congr (by simp) _
@[simp] theorem setScan_job (c : Option Scan) (s : State) (x : SlotNo) : (setScan c s).job x = s.job x :=
  State.job_congr (by simp) _
@[simp] theorem setScan_docket (c : Option Scan) (s : State) (x : DocketNo) : (setScan c s).docket x = s.docket x :=
  State.docket_congr (by simp) _
@[simp] theorem setScan_sensor (c : Option Scan) (s : State) (x : Sensor) : (setScan c s).sensor x = s.sensor x :=
  State.sensor_congr (by simp) _
@[simp] theorem setScan_bay (c : Option Scan) (s : State) (x : BayNo) : (setScan c s).bay x = s.bay x :=
  State.bay_congr (by simp) _
@[simp] theorem scanTimerEnds_job (s : State) (x : SlotNo) : (scanTimerEnds s).job x = s.job x :=
  State.job_congr (by simp) _
@[simp] theorem scanTimerEnds_docket (s : State) (x : DocketNo) : (scanTimerEnds s).docket x = s.docket x :=
  State.docket_congr (by simp) _
@[simp] theorem scanTimerEnds_sensor (s : State) (x : Sensor) : (scanTimerEnds s).sensor x = s.sensor x :=
  State.sensor_congr (by simp) _
@[simp] theorem scanTimerEnds_bay (s : State) (x : BayNo) : (scanTimerEnds s).bay x = s.bay x :=
  State.bay_congr (by simp) _
@[simp] theorem abandonScan_job (s : State) (x : SlotNo) : (abandonScan s).job x = s.job x :=
  State.job_congr (by simp) _
@[simp] theorem abandonScan_docket (s : State) (x : DocketNo) : (abandonScan s).docket x = s.docket x :=
  State.docket_congr (by simp) _
@[simp] theorem abandonScan_sensor (s : State) (x : Sensor) : (abandonScan s).sensor x = s.sensor x :=
  State.sensor_congr (by simp) _
@[simp] theorem takeAnchor_job (c : Scan) (bytes : List Byte) (s : State) (x : SlotNo) : (takeAnchor c bytes s).job x = s.job x :=
  State.job_congr (by simp) _
@[simp] theorem takeAnchor_docket (c : Scan) (bytes : List Byte) (s : State) (x : DocketNo) : (takeAnchor c bytes s).docket x = s.docket x :=
  State.docket_congr (by simp) _
@[simp] theorem takeAnchor_sensor (c : Scan) (bytes : List Byte) (s : State) (x : Sensor) : (takeAnchor c bytes s).sensor x = s.sensor x :=
  State.sensor_congr (by simp) _
@[simp] theorem arriveBoard_job (off : Nat) (data : List Byte) (s : State) (x : SlotNo) : (arriveBoard off data s).job x = s.job x :=
  State.job_congr (by simp) _
@[simp] theorem arriveBoard_docket (off : Nat) (data : List Byte) (s : State) (x : DocketNo) : (arriveBoard off data s).docket x = s.docket x :=
  State.docket_congr (by simp) _
@[simp] theorem arriveBoard_sensor (off : Nat) (data : List Byte) (s : State) (x : Sensor) : (arriveBoard off data s).sensor x = s.sensor x :=
  State.sensor_congr (by simp) _
@[simp] theorem adoptStatus_job (c : Scan) (s : State) (x : SlotNo) : (adoptStatus c s).job x = s.job x :=
  State.job_congr (by simp) _
@[simp] theorem adoptStatus_docket (c : Scan) (s : State) (x : DocketNo) : (adoptStatus c s).docket x = s.docket x :=
  State.docket_congr (by simp) _
@[simp] theorem adoptStatus_sensor (c : Scan) (s : State) (x : Sensor) : (adoptStatus c s).sensor x = s.sensor x :=
  State.sensor_congr (by simp) _
@[simp] theorem adoptStatus_bay (c : Scan) (s : State) (x : BayNo) : (adoptStatus c s).bay x = s.bay x :=
  State.bay_congr (by simp) _
@[simp] theorem nextScan_job (s : State) (x : SlotNo) : (nextScan s).job x = s.job x :=
  State.job_congr (by simp) _
@[simp] theorem nextScan_docket (s : State) (x : DocketNo) : (nextScan s).docket x = s.docket x :=
  State.docket_congr (by simp) _
@[simp] theorem nextScan_sensor (s : State) (x : Sensor) : (nextScan s).sensor x = s.sensor x :=
  State.sensor_congr (by simp) _
@[simp] theorem nextScan_bay (s : State) (x : BayNo) : (nextScan s).bay x = s.bay x :=
  State.bay_congr (by simp) _
@[simp] theorem configFault_job (code : FaultCode) (s : State) (x : SlotNo) : (configFault code s).job x = s.job x :=
  State.job_congr (by simp) _
@[simp] theorem configFault_docket (code : FaultCode) (s : State) (x : DocketNo) : (configFault code s).docket x = s.docket x :=
  State.docket_congr (by simp) _
@[simp] theorem configFault_sensor (code : FaultCode) (s : State) (x : Sensor) : (configFault code s).sensor x = s.sensor x :=
  State.sensor_congr (by simp) _
@[simp] theorem configFault_bay (code : FaultCode) (s : State) (x : BayNo) : (configFault code s).bay x = s.bay x :=
  State.bay_congr (by simp) _
@[simp] theorem setCalibration_job (c : Option Calibration) (s : State) (x : SlotNo) : (setCalibration c s).job x = s.job x :=
  State.job_congr (by simp) _
@[simp] theorem setCalibration_docket (c : Option Calibration) (s : State) (x : DocketNo) : (setCalibration c s).docket x = s.docket x :=
  State.docket_congr (by simp) _
@[simp] theorem setCalibration_sensor (c : Option Calibration) (s : State) (x : Sensor) : (setCalibration c s).sensor x = s.sensor x :=
  State.sensor_congr (by simp) _
@[simp] theorem setCalibration_bay (c : Option Calibration) (s : State) (x : BayNo) : (setCalibration c s).bay x = s.bay x :=
  State.bay_congr (by simp) _
@[simp] theorem loadGeometry_job (n : Nat) (m : List Byte) (s : State) (x : SlotNo) : (loadGeometry n m s).job x = s.job x :=
  State.job_congr (by simp) _
@[simp] theorem loadGeometry_docket (n : Nat) (m : List Byte) (s : State) (x : DocketNo) : (loadGeometry n m s).docket x = s.docket x :=
  State.docket_congr (by simp) _
@[simp] theorem loadGeometry_sensor (n : Nat) (m : List Byte) (s : State) (x : Sensor) : (loadGeometry n m s).sensor x = s.sensor x :=
  State.sensor_congr (by simp) _
@[simp] theorem loadGeometry_bay (n : Nat) (m : List Byte) (s : State) (x : BayNo) : (loadGeometry n m s).bay x = s.bay x :=
  State.bay_congr (by simp) _
@[simp] theorem loadPlant_job (n : Nat) (m : List Byte) (s : State) (x : SlotNo) : (loadPlant n m s).job x = s.job x :=
  State.job_congr (by simp) _
@[simp] theorem loadPlant_docket (n : Nat) (m : List Byte) (s : State) (x : DocketNo) : (loadPlant n m s).docket x = s.docket x :=
  State.docket_congr (by simp) _
@[simp] theorem loadPlant_sensor (n : Nat) (m : List Byte) (s : State) (x : Sensor) : (loadPlant n m s).sensor x = s.sensor x :=
  State.sensor_congr (by simp) _
@[simp] theorem loadBins_job (n : Nat) (m : List Byte) (s : State) (x : SlotNo) : (loadBins n m s).job x = s.job x :=
  State.job_congr (by simp) _
@[simp] theorem loadBins_docket (n : Nat) (m : List Byte) (s : State) (x : DocketNo) : (loadBins n m s).docket x = s.docket x :=
  State.docket_congr (by simp) _
@[simp] theorem loadBins_sensor (n : Nat) (m : List Byte) (s : State) (x : Sensor) : (loadBins n m s).sensor x = s.sensor x :=
  State.sensor_congr (by simp) _
@[simp] theorem loadBins_bay (n : Nat) (m : List Byte) (s : State) (x : BayNo) : (loadBins n m s).bay x = s.bay x :=
  State.bay_congr (by simp) _
@[simp] theorem loadHealth_job (n : Nat) (m : List Byte) (s : State) (x : SlotNo) : (loadHealth n m s).job x = s.job x :=
  State.job_congr (by simp) _
@[simp] theorem loadHealth_docket (n : Nat) (m : List Byte) (s : State) (x : DocketNo) : (loadHealth n m s).docket x = s.docket x :=
  State.docket_congr (by simp) _
@[simp] theorem loadHealth_sensor (n : Nat) (m : List Byte) (s : State) (x : Sensor) : (loadHealth n m s).sensor x = s.sensor x :=
  State.sensor_congr (by simp) _
@[simp] theorem buildMap_job (s : State) (x : SlotNo) : (buildMap s).job x = s.job x :=
  State.job_congr (by simp) _
@[simp] theorem buildMap_docket (s : State) (x : DocketNo) : (buildMap s).docket x = s.docket x :=
  State.docket_congr (by simp) _
@[simp] theorem buildMap_sensor (s : State) (x : Sensor) : (buildMap s).sensor x = s.sensor x :=
  State.sensor_congr (by simp) _
@[simp] theorem startDrain_job (s : State) (x : SlotNo) : (startDrain s).job x = s.job x :=
  State.job_congr (by simp) _
@[simp] theorem startDrain_docket (s : State) (x : DocketNo) : (startDrain s).docket x = s.docket x :=
  State.docket_congr (by simp) _
@[simp] theorem startDrain_sensor (s : State) (x : Sensor) : (startDrain s).sensor x = s.sensor x :=
  State.sensor_congr (by simp) _
@[simp] theorem startDrain_bay (s : State) (x : BayNo) : (startDrain s).bay x = s.bay x :=
  State.bay_congr (by simp) _
@[simp] theorem towerHomes_job (s : State) (x : SlotNo) : (towerHomes s).job x = s.job x :=
  State.job_congr (by simp) _
@[simp] theorem towerHomes_docket (s : State) (x : DocketNo) : (towerHomes s).docket x = s.docket x :=
  State.docket_congr (by simp) _
@[simp] theorem towerHomes_sensor (s : State) (x : Sensor) : (towerHomes s).sensor x = s.sensor x :=
  State.sensor_congr (by simp) _
@[simp] theorem towerHomes_bay (s : State) (x : BayNo) : (towerHomes s).bay x = s.bay x :=
  State.bay_congr (by simp) _
@[simp] theorem loaderIdle_job (s : State) (x : SlotNo) : (loaderIdle s).job x = s.job x :=
  State.job_congr (by simp) _
@[simp] theorem loaderIdle_docket (s : State) (x : DocketNo) : (loaderIdle s).docket x = s.docket x :=
  State.docket_congr (by simp) _
@[simp] theorem loaderIdle_sensor (s : State) (x : Sensor) : (loaderIdle s).sensor x = s.sensor x :=
  State.sensor_congr (by simp) _
@[simp] theorem loaderIdle_bay (s : State) (x : BayNo) : (loaderIdle s).bay x = s.bay x :=
  State.bay_congr (by simp) _
@[simp] theorem loadWhole_job (mem : ConfigRead) (s : State) (x : SlotNo) : (loadWhole mem s).job x = s.job x :=
  State.job_congr (by simp) _
@[simp] theorem loadWhole_docket (mem : ConfigRead) (s : State) (x : DocketNo) : (loadWhole mem s).docket x = s.docket x :=
  State.docket_congr (by simp) _
@[simp] theorem loadWhole_sensor (mem : ConfigRead) (s : State) (x : Sensor) : (loadWhole mem s).sensor x = s.sensor x :=
  State.sensor_congr (by simp) _
@[simp] theorem loadAgain_job (mem : ConfigRead) (s : State) (x : SlotNo) : (loadAgain mem s).job x = s.job x :=
  State.job_congr (by simp) _
@[simp] theorem loadAgain_docket (mem : ConfigRead) (s : State) (x : DocketNo) : (loadAgain mem s).docket x = s.docket x :=
  State.docket_congr (by simp) _
@[simp] theorem loadAgain_sensor (mem : ConfigRead) (s : State) (x : Sensor) : (loadAgain mem s).sensor x = s.sensor x :=
  State.sensor_congr (by simp) _
@[simp] theorem loadAgain_bay (mem : ConfigRead) (s : State) (x : BayNo) : (loadAgain mem s).bay x = s.bay x :=
  State.bay_congr (by simp) _
@[simp] theorem configEnds_job (mem : ConfigRead) (s : State) (x : SlotNo) : (configEnds mem s).job x = s.job x :=
  State.job_congr (by simp) _
@[simp] theorem configEnds_docket (mem : ConfigRead) (s : State) (x : DocketNo) : (configEnds mem s).docket x = s.docket x :=
  State.docket_congr (by simp) _
@[simp] theorem configEnds_sensor (mem : ConfigRead) (s : State) (x : Sensor) : (configEnds mem s).sensor x = s.sensor x :=
  State.sensor_congr (by simp) _
@[simp] theorem stopTransport_job (s : State) (x : SlotNo) : (stopTransport s).job x = s.job x :=
  State.job_congr (by simp) _
@[simp] theorem stopTransport_docket (s : State) (x : DocketNo) : (stopTransport s).docket x = s.docket x :=
  State.docket_congr (by simp) _
@[simp] theorem stopTransport_sensor (s : State) (x : Sensor) : (stopTransport s).sensor x = s.sensor x :=
  State.sensor_congr (by simp) _
@[simp] theorem stopTransport_bay (s : State) (x : BayNo) : (stopTransport s).bay x = s.bay x :=
  State.bay_congr (by simp) _
@[simp] theorem closeSweepTray_job (s : State) (x : SlotNo) : (closeSweepTray s).job x = s.job x :=
  State.job_congr (by simp) _
@[simp] theorem closeSweepTray_docket (s : State) (x : DocketNo) : (closeSweepTray s).docket x = s.docket x :=
  State.docket_congr (by simp) _
@[simp] theorem closeSweepTray_sensor (s : State) (x : Sensor) : (closeSweepTray s).sensor x = s.sensor x :=
  State.sensor_congr (by simp) _
@[simp] theorem calibrate_job (s : State) (x : SlotNo) : (calibrate s).job x = s.job x :=
  State.job_congr (by simp) _
@[simp] theorem calibrate_docket (s : State) (x : DocketNo) : (calibrate s).docket x = s.docket x :=
  State.docket_congr (by simp) _
@[simp] theorem calibrate_sensor (s : State) (x : Sensor) : (calibrate s).sensor x = s.sensor x :=
  State.sensor_congr (by simp) _
@[simp] theorem resumeTransport_job (s : State) (x : SlotNo) : (resumeTransport s).job x = s.job x :=
  State.job_congr (by simp) _
@[simp] theorem resumeTransport_docket (s : State) (x : DocketNo) : (resumeTransport s).docket x = s.docket x :=
  State.docket_congr (by simp) _
@[simp] theorem resumeTransport_sensor (s : State) (x : Sensor) : (resumeTransport s).sensor x = s.sensor x :=
  State.sensor_congr (by simp) _
@[simp] theorem resumeTransport_bay (s : State) (x : BayNo) : (resumeTransport s).bay x = s.bay x :=
  State.bay_congr (by simp) _
@[simp] theorem withdrawLines_job (s : State) (x : SlotNo) : (withdrawLines s).job x = s.job x :=
  State.job_congr (by simp) _
@[simp] theorem withdrawLines_docket (s : State) (x : DocketNo) : (withdrawLines s).docket x = s.docket x :=
  State.docket_congr (by simp) _
@[simp] theorem withdrawLines_sensor (s : State) (x : Sensor) : (withdrawLines s).sensor x = s.sensor x :=
  State.sensor_congr (by simp) _
@[simp] theorem engineTowerReset_job (s : State) (x : SlotNo) : (engineTowerReset s).job x = s.job x :=
  State.job_congr (by simp) _
@[simp] theorem engineTowerReset_docket (s : State) (x : DocketNo) : (engineTowerReset s).docket x = s.docket x :=
  State.docket_congr (by simp) _
@[simp] theorem engineTowerReset_sensor (s : State) (x : Sensor) : (engineTowerReset s).sensor x = s.sensor x :=
  State.sensor_congr (by simp) _
@[simp] theorem engineLinkReset_job (s : State) (x : SlotNo) : (engineLinkReset s).job x = s.job x :=
  State.job_congr (by simp) _
@[simp] theorem engineLinkReset_docket (s : State) (x : DocketNo) : (engineLinkReset s).docket x = s.docket x :=
  State.docket_congr (by simp) _
@[simp] theorem engineLinkReset_sensor (s : State) (x : Sensor) : (engineLinkReset s).sensor x = s.sensor x :=
  State.sensor_congr (by simp) _
@[simp] theorem clearWork_sensor (s : State) (x : Sensor) : (clearWork s).sensor x = s.sensor x :=
  State.sensor_congr (by simp) _
@[simp] theorem resetBays_sensor (s : State) (x : Sensor) : (resetBays s).sensor x = s.sensor x :=
  State.sensor_congr (by simp) _
@[simp] theorem restartTower_job (s : State) (x : SlotNo) : (restartTower s).job x = s.job x :=
  State.job_congr (by simp) _
@[simp] theorem restartTower_docket (s : State) (x : DocketNo) : (restartTower s).docket x = s.docket x :=
  State.docket_congr (by simp) _
@[simp] theorem restartTower_sensor (s : State) (x : Sensor) : (restartTower s).sensor x = s.sensor x :=
  State.sensor_congr (by simp) _
@[simp] theorem restartTower_bay (s : State) (x : BayNo) : (restartTower s).bay x = s.bay x :=
  State.bay_congr (by simp) _
@[simp] theorem endBurst_job (s : State) (x : SlotNo) : (endBurst s).job x = s.job x :=
  State.job_congr (by simp) _
@[simp] theorem endBurst_docket (s : State) (x : DocketNo) : (endBurst s).docket x = s.docket x :=
  State.docket_congr (by simp) _
@[simp] theorem endBurst_sensor (s : State) (x : Sensor) : (endBurst s).sensor x = s.sensor x :=
  State.sensor_congr (by simp) _
@[simp] theorem endBurst_bay (s : State) (x : BayNo) : (endBurst s).bay x = s.bay x :=
  State.bay_congr (by simp) _
@[simp] theorem towerReset_sensor (s : State) (x : Sensor) : (towerReset s).sensor x = s.sensor x :=
  State.sensor_congr (by simp) _
@[simp] theorem clearWindow_job (s : State) (x : SlotNo) : (clearWindow s).job x = s.job x :=
  State.job_congr (by simp) _
@[simp] theorem clearWindow_docket (s : State) (x : DocketNo) : (clearWindow s).docket x = s.docket x :=
  State.docket_congr (by simp) _
@[simp] theorem clearWindow_sensor (s : State) (x : Sensor) : (clearWindow s).sensor x = s.sensor x :=
  State.sensor_congr (by simp) _
@[simp] theorem clearWindow_bay (s : State) (x : BayNo) : (clearWindow s).bay x = s.bay x :=
  State.bay_congr (by simp) _
@[simp] theorem linkReset_sensor (s : State) (x : Sensor) : (linkReset s).sensor x = s.sensor x :=
  State.sensor_congr (by simp) _
@[simp] theorem setScanInterval_job (n : Option Nat) (s : State) (x : SlotNo) : (setScanInterval n s).job x = s.job x :=
  State.job_congr (by simp) _
@[simp] theorem setScanInterval_docket (n : Option Nat) (s : State) (x : DocketNo) : (setScanInterval n s).docket x = s.docket x :=
  State.docket_congr (by simp) _
@[simp] theorem setScanInterval_sensor (n : Option Nat) (s : State) (x : Sensor) : (setScanInterval n s).sensor x = s.sensor x :=
  State.sensor_congr (by simp) _
@[simp] theorem setScanInterval_bay (n : Option Nat) (s : State) (x : BayNo) : (setScanInterval n s).bay x = s.bay x :=
  State.bay_congr (by simp) _
@[simp] theorem setDrain_job (n : Option Nat) (s : State) (x : SlotNo) : (setDrain n s).job x = s.job x :=
  State.job_congr (by simp) _
@[simp] theorem setDrain_docket (n : Option Nat) (s : State) (x : DocketNo) : (setDrain n s).docket x = s.docket x :=
  State.docket_congr (by simp) _
@[simp] theorem setDrain_sensor (n : Option Nat) (s : State) (x : Sensor) : (setDrain n s).sensor x = s.sensor x :=
  State.sensor_congr (by simp) _
@[simp] theorem setDrain_bay (n : Option Nat) (s : State) (x : BayNo) : (setDrain n s).bay x = s.bay x :=
  State.bay_congr (by simp) _
@[simp] theorem svcSetTimers_job (scan drain : Option Nat) (s : State) (x : SlotNo) : (svcSetTimers scan drain s).2.job x = s.job x :=
  State.job_congr (by simp) _
@[simp] theorem svcSetTimers_docket (scan drain : Option Nat) (s : State) (x : DocketNo) : (svcSetTimers scan drain s).2.docket x = s.docket x :=
  State.docket_congr (by simp) _
@[simp] theorem svcSetTimers_sensor (scan drain : Option Nat) (s : State) (x : Sensor) : (svcSetTimers scan drain s).2.sensor x = s.sensor x :=
  State.sensor_congr (by simp) _
@[simp] theorem svcSetLimits_job (soft hard : Nat) (s : State) (x : SlotNo) : (svcSetLimits soft hard s).2.job x = s.job x :=
  State.job_congr (by simp) _
@[simp] theorem svcSetLimits_docket (soft hard : Nat) (s : State) (x : DocketNo) : (svcSetLimits soft hard s).2.docket x = s.docket x :=
  State.docket_congr (by simp) _
@[simp] theorem svcSetLimits_sensor (soft hard : Nat) (s : State) (x : Sensor) : (svcSetLimits soft hard s).2.sensor x = s.sensor x :=
  State.sensor_congr (by simp) _
@[simp] theorem svcDesignate_job (b : BayNo) (s : State) (x : SlotNo) : (svcDesignate b s).2.job x = s.job x :=
  State.job_congr (by simp) _
@[simp] theorem svcDesignate_docket (b : BayNo) (s : State) (x : DocketNo) : (svcDesignate b s).2.docket x = s.docket x :=
  State.docket_congr (by simp) _
@[simp] theorem svcDesignate_sensor (b : BayNo) (s : State) (x : Sensor) : (svcDesignate b s).2.sensor x = s.sensor x :=
  State.sensor_congr (by simp) _
@[simp] theorem svcDesignateNone_job (s : State) (x : SlotNo) : (svcDesignateNone s).2.job x = s.job x :=
  State.job_congr (by simp) _
@[simp] theorem svcDesignateNone_docket (s : State) (x : DocketNo) : (svcDesignateNone s).2.docket x = s.docket x :=
  State.docket_congr (by simp) _
@[simp] theorem svcDesignateNone_sensor (s : State) (x : Sensor) : (svcDesignateNone s).2.sensor x = s.sensor x :=
  State.sensor_congr (by simp) _
@[simp] theorem reinstateRole_job (b : BayNo) (s : State) (x : SlotNo) : (reinstateRole b s).job x = s.job x :=
  State.job_congr (by simp) _
@[simp] theorem reinstateRole_docket (b : BayNo) (s : State) (x : DocketNo) : (reinstateRole b s).docket x = s.docket x :=
  State.docket_congr (by simp) _
@[simp] theorem reinstateRole_sensor (b : BayNo) (s : State) (x : Sensor) : (reinstateRole b s).sensor x = s.sensor x :=
  State.sensor_congr (by simp) _
@[simp] theorem svcReinstate_job (b : BayNo) (s : State) (x : SlotNo) : (svcReinstate b s).2.job x = s.job x :=
  State.job_congr (by simp) _
@[simp] theorem svcReinstate_docket (b : BayNo) (s : State) (x : DocketNo) : (svcReinstate b s).2.docket x = s.docket x :=
  State.docket_congr (by simp) _
@[simp] theorem svcReinstate_sensor (b : BayNo) (s : State) (x : Sensor) : (svcReinstate b s).2.sensor x = s.sensor x :=
  State.sensor_congr (by simp) _
@[simp] theorem svcResetBay_sensor (b : BayNo) (s : State) (x : Sensor) : (svcResetBay b s).2.sensor x = s.sensor x :=
  State.sensor_congr (by simp) _
@[simp] theorem svcResume_job (s : State) (x : SlotNo) : (svcResume s).2.job x = s.job x :=
  State.job_congr (by simp) _
@[simp] theorem svcResume_docket (s : State) (x : DocketNo) : (svcResume s).2.docket x = s.docket x :=
  State.docket_congr (by simp) _
@[simp] theorem svcResume_sensor (s : State) (x : Sensor) : (svcResume s).2.sensor x = s.sensor x :=
  State.sensor_congr (by simp) _
@[simp] theorem svcResume_bay (s : State) (x : BayNo) : (svcResume s).2.bay x = s.bay x :=
  State.bay_congr (by simp) _
@[simp] theorem svcClearFaults_job (s : State) (x : SlotNo) : (svcClearFaults s).2.job x = s.job x :=
  State.job_congr (by simp) _
@[simp] theorem svcClearFaults_docket (s : State) (x : DocketNo) : (svcClearFaults s).2.docket x = s.docket x :=
  State.docket_congr (by simp) _
@[simp] theorem svcClearFaults_sensor (s : State) (x : Sensor) : (svcClearFaults s).2.sensor x = s.sensor x :=
  State.sensor_congr (by simp) _
@[simp] theorem svcClearFaults_bay (s : State) (x : BayNo) : (svcClearFaults s).2.bay x = s.bay x :=
  State.bay_congr (by simp) _
@[simp] theorem svcCalibrate_job (s : State) (x : SlotNo) : (svcCalibrate s).2.job x = s.job x :=
  State.job_congr (by simp) _
@[simp] theorem svcCalibrate_docket (s : State) (x : DocketNo) : (svcCalibrate s).2.docket x = s.docket x :=
  State.docket_congr (by simp) _
@[simp] theorem svcCalibrate_sensor (s : State) (x : Sensor) : (svcCalibrate s).2.sensor x = s.sensor x :=
  State.sensor_congr (by simp) _
@[simp] theorem runService_sensor (c : ServiceCard) (s : State) (x : Sensor) : (runService c s).2.sensor x = s.sensor x :=
  State.sensor_congr (by simp) _
@[simp] theorem acceptCard_docket (base : Nat) (i : Fin 64) (c : CopyCard) (s : State) (x : DocketNo) : (acceptCard base i c s).2.docket x = s.docket x :=
  State.docket_congr (by simp) _
@[simp] theorem acceptCard_sensor (base : Nat) (i : Fin 64) (c : CopyCard) (s : State) (x : Sensor) : (acceptCard base i c s).2.sensor x = s.sensor x :=
  State.sensor_congr (by simp) _
@[simp] theorem acceptCard_bay (base : Nat) (i : Fin 64) (c : CopyCard) (s : State) (x : BayNo) : (acceptCard base i c s).2.bay x = s.bay x :=
  State.bay_congr (by simp) _
@[simp] theorem copyOne_docket (base : Nat) (i : Fin 64) (c : CopyCard) (s : State) (x : DocketNo) : (copyOne base i c s).2.docket x = s.docket x :=
  State.docket_congr (by simp) _
@[simp] theorem copyOne_sensor (base : Nat) (i : Fin 64) (c : CopyCard) (s : State) (x : Sensor) : (copyOne base i c s).2.sensor x = s.sensor x :=
  State.sensor_congr (by simp) _
@[simp] theorem copyOne_bay (base : Nat) (i : Fin 64) (c : CopyCard) (s : State) (x : BayNo) : (copyOne base i c s).2.bay x = s.bay x :=
  State.bay_congr (by simp) _
@[simp] theorem copyCommand_docket (i : Fin 64) (c : CopyCard) (s : State) (x : DocketNo) : (copyCommand i c s).docket x = s.docket x :=
  State.docket_congr (by simp) _
@[simp] theorem copyCommand_sensor (i : Fin 64) (c : CopyCard) (s : State) (x : Sensor) : (copyCommand i c s).sensor x = s.sensor x :=
  State.sensor_congr (by simp) _
@[simp] theorem copyCommand_bay (i : Fin 64) (c : CopyCard) (s : State) (x : BayNo) : (copyCommand i c s).bay x = s.bay x :=
  State.bay_congr (by simp) _
@[simp] theorem snapshotEnds_sensor (s : State) (x : Sensor) : (snapshotEnds s).sensor x = s.sensor x :=
  State.sensor_congr (by simp) _
@[simp] theorem runAct_sensor (base : Nat) (a : ScanAct) (s : State) (x : Sensor) : (runAct base a s).2.2.sensor x = s.sensor x :=
  State.sensor_congr (by simp) _
@[simp] theorem nextAct_sensor (s : State) (x : Sensor) : (nextAct s).2.sensor x = s.sensor x :=
  State.sensor_congr (by simp) _
@[simp] theorem writeTally_job (base : Nat) (s : State) (x : SlotNo) : (writeTally base s).job x = s.job x :=
  State.job_congr (by simp) _
@[simp] theorem writeTally_docket (base : Nat) (s : State) (x : DocketNo) : (writeTally base s).docket x = s.docket x :=
  State.docket_congr (by simp) _
@[simp] theorem writeTally_sensor (base : Nat) (s : State) (x : Sensor) : (writeTally base s).sensor x = s.sensor x :=
  State.sensor_congr (by simp) _
@[simp] theorem writeTally_bay (base : Nat) (s : State) (x : BayNo) : (writeTally base s).bay x = s.bay x :=
  State.bay_congr (by simp) _
@[simp] theorem writeProgress_job (j : SlotNo) (s : State) (x : SlotNo) : (writeProgress j s).job x = s.job x :=
  State.job_congr (by simp) _
@[simp] theorem writeProgress_docket (j : SlotNo) (s : State) (x : DocketNo) : (writeProgress j s).docket x = s.docket x :=
  State.docket_congr (by simp) _
@[simp] theorem writeProgress_sensor (j : SlotNo) (s : State) (x : Sensor) : (writeProgress j s).sensor x = s.sensor x :=
  State.sensor_congr (by simp) _
@[simp] theorem writeProgress_bay (j : SlotNo) (s : State) (x : BayNo) : (writeProgress j s).bay x = s.bay x :=
  State.bay_congr (by simp) _
@[simp] theorem countDocket_docket (d : DocketNo) (s : State) (x : DocketNo) : (countDocket d s).docket x = s.docket x :=
  State.docket_congr (by simp) _
@[simp] theorem countDocket_sensor (d : DocketNo) (s : State) (x : Sensor) : (countDocket d s).sensor x = s.sensor x :=
  State.sensor_congr (by simp) _
@[simp] theorem countDocket_bay (d : DocketNo) (s : State) (x : BayNo) : (countDocket d s).bay x = s.bay x :=
  State.bay_congr (by simp) _
@[simp] theorem writeHeld_job (b : BayNo) (g : Nat) (s : State) (x : SlotNo) : (writeHeld b g s).job x = s.job x :=
  State.job_congr (by simp) _
@[simp] theorem writeHeld_docket (b : BayNo) (g : Nat) (s : State) (x : DocketNo) : (writeHeld b g s).docket x = s.docket x :=
  State.docket_congr (by simp) _
@[simp] theorem writeHeld_sensor (b : BayNo) (g : Nat) (s : State) (x : Sensor) : (writeHeld b g s).sensor x = s.sensor x :=
  State.sensor_congr (by simp) _
@[simp] theorem freeSlot_docket (j : SlotNo) (s : State) (x : DocketNo) : (freeSlot j s).docket x = s.docket x :=
  State.docket_congr (by simp) _
@[simp] theorem freeSlot_sensor (j : SlotNo) (s : State) (x : Sensor) : (freeSlot j s).sensor x = s.sensor x :=
  State.sensor_congr (by simp) _
@[simp] theorem freeSlot_bay (j : SlotNo) (s : State) (x : BayNo) : (freeSlot j s).bay x = s.bay x :=
  State.bay_congr (by simp) _
@[simp] theorem runTodo_sensor (x : Todo) (s : State) (x' : Sensor) : (runTodo x s).2.sensor x' = s.sensor x' :=
  State.sensor_congr (by simp) _
@[simp] theorem setAgenda_job (l : List Thread) (s : State) (x : SlotNo) : (setAgenda l s).job x = s.job x :=
  State.job_congr (by simp) _
@[simp] theorem setAgenda_docket (l : List Thread) (s : State) (x : DocketNo) : (setAgenda l s).docket x = s.docket x :=
  State.docket_congr (by simp) _
@[simp] theorem setAgenda_sensor (l : List Thread) (s : State) (x : Sensor) : (setAgenda l s).sensor x = s.sensor x :=
  State.sensor_congr (by simp) _
@[simp] theorem setAgenda_bay (l : List Thread) (s : State) (x : BayNo) : (setAgenda l s).bay x = s.bay x :=
  State.bay_congr (by simp) _
@[simp] theorem freeFetch_job (k : FetchNo) (s : State) (x : SlotNo) : (freeFetch k s).job x = s.job x :=
  State.job_congr (by simp) _
@[simp] theorem freeFetch_docket (k : FetchNo) (s : State) (x : DocketNo) : (freeFetch k s).docket x = s.docket x :=
  State.docket_congr (by simp) _
@[simp] theorem freeFetch_sensor (k : FetchNo) (s : State) (x : Sensor) : (freeFetch k s).sensor x = s.sensor x :=
  State.sensor_congr (by simp) _
@[simp] theorem freeFetch_bay (k : FetchNo) (s : State) (x : BayNo) : (freeFetch k s).bay x = s.bay x :=
  State.bay_congr (by simp) _
@[simp] theorem arriveImage_job (b : BayNo) (g off : Nat) (data : List Byte) (s : State) (x : SlotNo) : (arriveImage b g off data s).job x = s.job x :=
  State.job_congr (by simp) _
@[simp] theorem arriveImage_docket (b : BayNo) (g off : Nat) (data : List Byte) (s : State) (x : DocketNo) : (arriveImage b g off data s).docket x = s.docket x :=
  State.docket_congr (by simp) _
@[simp] theorem arriveImage_sensor (b : BayNo) (g off : Nat) (data : List Byte) (s : State) (x : Sensor) : (arriveImage b g off data s).sensor x = s.sensor x :=
  State.sensor_congr (by simp) _
@[simp] theorem deliver_sensor (f : Fetch) (data : List Byte) (s : State) (x : Sensor) : (deliver f data s).sensor x = s.sensor x :=
  State.sensor_congr (by simp) _
@[simp] theorem fetchEnds_sensor (k : FetchNo) (data : List Byte) (s : State) (x : Sensor) : (fetchEnds k data s).sensor x = s.sensor x :=
  State.sensor_congr (by simp) _
@[simp] theorem endCompare_job (b : BayNo) (target : Target) (s : State) (x : SlotNo) : (endCompare b target s).job x = s.job x :=
  State.job_congr (by simp) _
@[simp] theorem endCompare_docket (b : BayNo) (target : Target) (s : State) (x : DocketNo) : (endCompare b target s).docket x = s.docket x :=
  State.docket_congr (by simp) _
@[simp] theorem endCompare_sensor (b : BayNo) (target : Target) (s : State) (x : Sensor) : (endCompare b target s).sensor x = s.sensor x :=
  State.sensor_congr (by simp) _
@[simp] theorem requesterFails_sensor (f : Fetch) (s : State) (x : Sensor) : (requesterFails f s).sensor x = s.sensor x :=
  State.sensor_congr (by simp) _
@[simp] theorem fetchFails_sensor (code : FaultCode) (k : FetchNo) (s : State) (x : Sensor) : (fetchFails code k s).sensor x = s.sensor x :=
  State.sensor_congr (by simp) _
@[simp] theorem ageLine_job (id : LineId) (s : State) (x : SlotNo) : (ageLine id s).job x = s.job x :=
  State.job_congr (by simp) _
@[simp] theorem ageLine_docket (id : LineId) (s : State) (x : DocketNo) : (ageLine id s).docket x = s.docket x :=
  State.docket_congr (by simp) _
@[simp] theorem ageLine_sensor (id : LineId) (s : State) (x : Sensor) : (ageLine id s).sensor x = s.sensor x :=
  State.sensor_congr (by simp) _
@[simp] theorem issueBytes_job (addr : Nat) (bytes : List Byte) (s : State) (x : SlotNo) : (issueBytes addr bytes s).job x = s.job x :=
  State.job_congr (by simp) _
@[simp] theorem issueBytes_docket (addr : Nat) (bytes : List Byte) (s : State) (x : DocketNo) : (issueBytes addr bytes s).docket x = s.docket x :=
  State.docket_congr (by simp) _
@[simp] theorem issueBytes_sensor (addr : Nat) (bytes : List Byte) (s : State) (x : Sensor) : (issueBytes addr bytes s).sensor x = s.sensor x :=
  State.sensor_congr (by simp) _
@[simp] theorem issueBytes_bay (addr : Nat) (bytes : List Byte) (s : State) (x : BayNo) : (issueBytes addr bytes s).bay x = s.bay x :=
  State.bay_congr (by simp) _
@[simp] theorem issueGeneration_job (addr : Nat) (s : State) (x : SlotNo) : (issueGeneration addr s).job x = s.job x :=
  State.job_congr (by simp) _
@[simp] theorem issueGeneration_docket (addr : Nat) (s : State) (x : DocketNo) : (issueGeneration addr s).docket x = s.docket x :=
  State.docket_congr (by simp) _
@[simp] theorem issueGeneration_sensor (addr : Nat) (s : State) (x : Sensor) : (issueGeneration addr s).sensor x = s.sensor x :=
  State.sensor_congr (by simp) _
@[simp] theorem issueGeneration_bay (addr : Nat) (s : State) (x : BayNo) : (issueGeneration addr s).bay x = s.bay x :=
  State.bay_congr (by simp) _
@[simp] theorem issueStatus_job (addr : Nat) (s : State) (x : SlotNo) : (issueStatus addr s).job x = s.job x :=
  State.job_congr (by simp) _
@[simp] theorem issueStatus_docket (addr : Nat) (s : State) (x : DocketNo) : (issueStatus addr s).docket x = s.docket x :=
  State.docket_congr (by simp) _
@[simp] theorem issueStatus_sensor (addr : Nat) (s : State) (x : Sensor) : (issueStatus addr s).sensor x = s.sensor x :=
  State.sensor_congr (by simp) _
@[simp] theorem issueStatus_bay (addr : Nat) (s : State) (x : BayNo) : (issueStatus addr s).bay x = s.bay x :=
  State.bay_congr (by simp) _
@[simp] theorem issueOldest_job (s : State) (x : SlotNo) : (issueOldest s).job x = s.job x :=
  State.job_congr (by simp) _
@[simp] theorem issueOldest_docket (s : State) (x : DocketNo) : (issueOldest s).docket x = s.docket x :=
  State.docket_congr (by simp) _
@[simp] theorem issueOldest_sensor (s : State) (x : Sensor) : (issueOldest s).sensor x = s.sensor x :=
  State.sensor_congr (by simp) _
@[simp] theorem issueOldest_bay (s : State) (x : BayNo) : (issueOldest s).bay x = s.bay x :=
  State.bay_congr (by simp) _
@[simp] theorem writeFails_job (n : Nat) (s : State) (x : SlotNo) : (writeFails n s).job x = s.job x :=
  State.job_congr (by simp) _
@[simp] theorem writeFails_docket (n : Nat) (s : State) (x : DocketNo) : (writeFails n s).docket x = s.docket x :=
  State.docket_congr (by simp) _
@[simp] theorem writeFails_sensor (n : Nat) (s : State) (x : Sensor) : (writeFails n s).sensor x = s.sensor x :=
  State.sensor_congr (by simp) _
@[simp] theorem writeFails_bay (n : Nat) (s : State) (x : BayNo) : (writeFails n s).bay x = s.bay x :=
  State.bay_congr (by simp) _
@[simp] theorem drain_job (s : State) (x : SlotNo) : (drain s).job x = s.job x :=
  State.job_congr (by simp) _
@[simp] theorem drain_docket (s : State) (x : DocketNo) : (drain s).docket x = s.docket x :=
  State.docket_congr (by simp) _
@[simp] theorem drain_sensor (s : State) (x : Sensor) : (drain s).sensor x = s.sensor x :=
  State.sensor_congr (by simp) _
@[simp] theorem createDocket_sensor (d : DocketNo) (k : SlotNo) (j : Job) (i : InputBin) (b n : BayNo) (s : State) (x : Sensor) : (createDocket d k j i b n s).sensor x = s.sensor x :=
  State.sensor_congr (by simp) _
@[simp] theorem considerBay_sensor (n : BayNo) (s : State) (x : Sensor) : (considerBay n s).sensor x = s.sensor x :=
  State.sensor_congr (by simp) _
@[simp] theorem dispatchRound_sensor (s : State) (x : Sensor) : (dispatchRound s).sensor x = s.sensor x :=
  State.sensor_congr (by simp) _

/-! ### The oldest eligible task -/

/-- What the fold that looks for the oldest task finds: a task of the list, or the one it begins with, none of them older. -/
theorem foldl_older (l : List Task) : ∀ best : Option Task,
    match l.foldl Task.older best with
    | none => best = none ∧ l = []
    | some u => (u ∈ l ∨ best = some u) ∧ (∀ v ∈ l, u.age ≤ v.age) ∧ ∀ v, best = some v → u.age ≤ v.age := by
  induction l with
  | nil => intro best; cases best <;> simp
  | cons x l ih =>
    intro best
    simp only [List.foldl_cons]
    have h := ih (Task.older best x)
    split at h <;> rename_i e
    · cases best <;> simp [Task.older] at h
      split at h <;> simp at h
    · obtain ⟨h1, h2, h3⟩ := h
      cases best with
      | none => simp [Task.older] at h1 h3; grind
      | some y => simp only [Task.older] at h1 h3; split at h1 <;> grind

/-- What `oldestEligible` finds: an eligible task of the kind than which none is older, or that none of the kind is eligible. -/
theorem oldestEligible_spec (s : State) (k : TaskKind) :
    match s.oldestEligible k with
    | none => ∀ v ∈ s.transport.queue, v.kind = k → s.eligible v = false
    | some u => u ∈ s.transport.queue ∧ u.kind = k ∧ s.eligible u = true
        ∧ ∀ v ∈ s.transport.queue, v.kind = k → s.eligible v = true → u.age ≤ v.age := by
  have h := foldl_older (s.transport.queue.filter fun t => t.kind == k && s.eligible t) none
  unfold State.oldestEligible
  split at h <;> rename_i e
  · intro v hv hk
    simpa [hk] using List.filter_eq_nil_iff.mp h.2 v hv
  · obtain ⟨h1, h2, -⟩ := h
    simp at h1 h2
    exact ⟨h1.1, h1.2.1, h1.2.2, fun v hv hk he => h2 v hv hk he⟩

end Sys2Proof.Machine
end

