-- ==== Sys2Proof/Laws/Bays.lean ====
section
/-! SUPPORT. What the operations on a bay and on a docket make of the record they change. -/

namespace Sys2Proof.Machine

theorem setBayState_bay (b x : BayNo) (st : BayState) (s : State) :
    (setBayState b st s).bay x = if x = b then { s.bay b with state := st } else s.bay x := by
  unfold setBayState; split
  · rename_i h; split
    · rename_i e; subst e; cases hb : s.bay x; simp_all
    · rfl
  · simp [State.bay_setBay]

theorem setLogical_bay (b x : BayNo) (n : Option BayNo) (s : State) :
    (setLogical b n s).bay x = if x = b then { s.bay b with logical := n } else s.bay x := by
  unfold setLogical; split
  · rename_i h; split
    · rename_i e; subst e; cases hb : s.bay x; simp_all
    · rfl
  · simp [State.bay_setBay]

theorem enterReq_bay (b x : BayNo) (q : Request) (p : Purpose) (m : DriveMsg) (s : State) :
    (enterReq b q p m s).bay x =
      if x = b then { s.bay b with reqs := (s.bay b).reqs ++ [{ req := q, purpose := p, left := timeoutOf q }] }
      else s.bay x := by
  unfold enterReq; simp [State.bay_setBay]

theorem sendReq_bay (b x : BayNo) (q : Request) (p : Purpose) (m : DriveMsg) (s : State) :
    (sendReq b q p m s).bay x =
      if x = b then { s.bay b with reqs := if s.hasReq b q then (s.bay b).reqs else
        (s.bay b).reqs ++ [{ req := q, purpose := p, left := timeoutOf q }] }
      else s.bay x := by
  unfold sendReq; split
  · split
    · rename_i e; subst e; rfl
    · rfl
  · exact enterReq_bay b x q p m s

theorem dropReq_bay (b x : BayNo) (q : Request) (s : State) :
    (dropReq b q s).bay x =
      if x = b then { s.bay b with reqs := (s.bay b).reqs.eraseP fun o => o.req == q } else s.bay x := by
  unfold dropReq; simp [State.bay_setBay]

/-- A request sent is outstanding. -/
theorem sendReq_hasReq (b : BayNo) (q : Request) (p : Purpose) (m : DriveMsg) (s : State) :
    (sendReq b q p m s).hasReq b q = true := by
  unfold sendReq; split
  · assumption
  · simp [State.hasReq, enterReq_bay]

theorem withdrawBurn_bay (b x : BayNo) (s : State) (h : x ≠ b) : (withdrawBurn b s).bay x = s.bay x := by
  unfold withdrawBurn; simp [State.bay_setBay, h]

theorem linkError_bay (b x : BayNo) (s : State) :
    (linkError b s).bay x = if x = b then { s.bay b with linkErrors := countUp 65535 (s.bay b).linkErrors } else s.bay x := by
  unfold linkError; simp [State.bay_setBay]

theorem updDocket_docket (d x : DocketNo) (f : Docket → Docket) (s : State) :
    (s.updDocket d f).docket x = if x = d then (s.docket d).map f else s.docket x := by
  unfold State.updDocket; split
  · rename_i r h; rw [State.docket_setDocket]; split <;> simp_all
  · rename_i h; split
    · rename_i e; subst e; simp [h]
    · rfl

theorem updJob_job (j x : SlotNo) (f : Job → Job) (s : State) :
    (s.updJob j f).job x = if x = j then (s.job j).map f else s.job x := by
  unfold State.updJob; split
  · rename_i r h; rw [State.job_setJob]; split <;> simp_all
  · rename_i h; split
    · rename_i e; subst e; simp [h]
    · rfl

theorem discover_bay (p : Purpose) (b x : BayNo) (s : State) :
    (discover p b s).bay x = if x = b then { s.bay b with
        state := .discovering, identified := true
        reqs := if s.hasReq b .identify then (s.bay b).reqs else
          (s.bay b).reqs ++ [{ req := .identify, purpose := p, left := timeoutOf .identify }] }
      else s.bay x := by
  unfold discover; simp [setBayState_bay, State.bay_setBay, sendReq_bay]
  split <;> rfl

end Sys2Proof.Machine
end

