-- ==== Sys2Proof/Laws/PerInstr.lean ====
section
/-! SUPPORT. One lemma for each command, about the command as syntax. -/

namespace Sys2Proof.Laws.Shape

/-- The table gives the commands no bits, so no word spells the command: it comes through the queue alone. -/
def Statement (i : Instr) : Prop := ∀ nbits w : Nat, decodeTableWord nbits w ≠ some i

theorem powerUp : Statement (.powerUp) := fun _ _ h => nomatch h
theorem configLoadEnd (mem : ConfigRead) : Statement (.configLoadEnd mem) := fun _ _ h => nomatch h
theorem towerReset : Statement (.towerReset) := fun _ _ h => nomatch h
theorem linkReset : Statement (.linkReset) := fun _ _ h => nomatch h
theorem run (on : Bool) : Statement (.run on) := fun _ _ h => nomatch h
theorem irqEn (on : Bool) : Statement (.irqEn on) := fun _ _ h => nomatch h
theorem boardLow (value : BitVec 32) : Statement (.boardLow value) := fun _ _ h => nomatch h
theorem boardHigh (value : BitVec 32) : Statement (.boardHigh value) := fun _ _ h => nomatch h
theorem scan (value : BitVec 32) : Statement (.scan value) := fun _ _ h => nomatch h
theorem attentionClear (value : BitVec 32) : Statement (.attentionClear value) := fun _ _ h => nomatch h
theorem registerWriteOther (offset : Nat) (value : BitVec 32) : Statement (.registerWriteOther offset value) := fun _ _ h => nomatch h
theorem scanTimerExpiry : Statement (.scanTimerExpiry) := fun _ _ h => nomatch h
theorem snapshotComplete : Statement (.snapshotComplete) := fun _ _ h => nomatch h
theorem copyCard (index : Fin 64) (card : CopyCard) : Statement (.copyCard index card) := fun _ _ h => nomatch h
theorem setTimers (index : Fin 64) (scan drain : Option Nat) : Statement (.setTimers index scan drain) := fun _ _ h => nomatch h
theorem setLimits (index : Fin 64) (soft hard : Nat) : Statement (.setLimits index soft hard) := fun _ _ h => nomatch h
theorem designateSpare (index : Fin 64) (bay : Nat) : Statement (.designateSpare index bay) := fun _ _ h => nomatch h
theorem designateSpareNone (index : Fin 64) : Statement (.designateSpareNone index) := fun _ _ h => nomatch h
theorem reinstateBay (index : Fin 64) (bay : Nat) : Statement (.reinstateBay index bay) := fun _ _ h => nomatch h
theorem resetBay (index : Fin 64) (bay : Nat) : Statement (.resetBay index bay) := fun _ _ h => nomatch h
theorem resumeTransport (index : Fin 64) : Statement (.resumeTransport index) := fun _ _ h => nomatch h
theorem clearFaults (index : Fin 64) : Statement (.clearFaults index) := fun _ _ h => nomatch h
theorem calibrate (index : Fin 64) : Statement (.calibrate index) := fun _ _ h => nomatch h
theorem dispatchRound : Statement (.dispatchRound) := fun _ _ h => nomatch h
theorem sensorChange (sensor : Sensor) (on : Bool) : Statement (.sensorChange sensor on) := fun _ _ h => nomatch h
theorem liftEncoderEdge (up : Bool) : Statement (.liftEncoderEdge up) := fun _ _ h => nomatch h
theorem dutyUpdate : Statement (.dutyUpdate) := fun _ _ h => nomatch h
theorem settleExpiry : Statement (.settleExpiry) := fun _ _ h => nomatch h
theorem stallTimeout : Statement (.stallTimeout) := fun _ _ h => nomatch h
theorem moveTimeout : Statement (.moveTimeout) := fun _ _ h => nomatch h
theorem homeTravelLimit : Statement (.homeTravelLimit) := fun _ _ h => nomatch h
theorem homeTimeout : Statement (.homeTimeout) := fun _ _ h => nomatch h
theorem swingTimeout : Statement (.swingTimeout) := fun _ _ h => nomatch h
theorem gripComplete : Statement (.gripComplete) := fun _ _ h => nomatch h
theorem releaseComplete : Statement (.releaseComplete) := fun _ _ h => nomatch h
theorem printerPlaceTimeout : Statement (.printerPlaceTimeout) := fun _ _ h => nomatch h
theorem badFrame (bay : BayNo) : Statement (.badFrame bay) := fun _ _ h => nomatch h
theorem identity (bay : BayNo) (classes : DriveClasses) (maxSpeed maxCredits : Nat) (linkCapable : Bool) : Statement (.identity bay classes maxSpeed maxCredits linkCapable) := fun _ _ h => nomatch h
theorem trayDoneOpen (bay : BayNo) : Statement (.trayDoneOpen bay) := fun _ _ h => nomatch h
theorem trayDoneClosed (bay : BayNo) : Statement (.trayDoneClosed bay) := fun _ _ h => nomatch h
theorem media (bay : BayNo) (kind : MediaKind) (cls : MediaClass) (capacity : Nat) : Statement (.media bay kind cls capacity) := fun _ _ h => nomatch h
theorem credit (bay : BayNo) (n : Nat) : Statement (.credit bay n) := fun _ _ h => nomatch h
theorem written (bay : BayNo) (group : Nat) : Statement (.written bay group) := fun _ _ h => nomatch h
theorem starvedLinked (bay : BayNo) : Statement (.starvedLinked bay) := fun _ _ h => nomatch h
theorem starvedFailed (bay : BayNo) : Statement (.starvedFailed bay) := fun _ _ h => nomatch h
theorem closed (bay : BayNo) : Statement (.closed bay) := fun _ _ h => nomatch h
theorem readData (bay : BayNo) (group : Nat) (data : List Byte) : Statement (.readData bay group data) := fun _ _ h => nomatch h
theorem readFail (bay : BayNo) (group : Nat) : Statement (.readFail bay group) := fun _ _ h => nomatch h
theorem fault (bay : BayNo) (code : Nat) : Statement (.fault bay code) := fun _ _ h => nomatch h
theorem halted (bay : BayNo) : Statement (.halted bay) := fun _ _ h => nomatch h
theorem resetDone (bay : BayNo) : Statement (.resetDone bay) := fun _ _ h => nomatch h
theorem requestTimeout (bay : BayNo) (req : Request) : Statement (.requestTimeout bay req) := fun _ _ h => nomatch h
theorem fetchComplete (slot : FetchNo) (data : List Byte) : Statement (.fetchComplete slot data) := fun _ _ h => nomatch h
theorem fetchError (slot : FetchNo) : Statement (.fetchError slot) := fun _ _ h => nomatch h
theorem fetchTimeout (slot : FetchNo) : Statement (.fetchTimeout slot) := fun _ _ h => nomatch h
theorem fetchLateData (slot : FetchNo) : Statement (.fetchLateData slot) := fun _ _ h => nomatch h
theorem requestAged (line : LineId) : Statement (.requestAged line) := fun _ _ h => nomatch h
theorem postedWriteIssue : Statement (.postedWriteIssue) := fun _ _ h => nomatch h
theorem postedWriteFailed (n : Nat) : Statement (.postedWriteFailed n) := fun _ _ h => nomatch h
theorem drainTimerExpiry : Statement (.drainTimerExpiry) := fun _ _ h => nomatch h
theorem clampTimerExpiry : Statement (.clampTimerExpiry) := fun _ _ h => nomatch h
theorem spindleEdge (time : PrintTime) : Statement (.spindleEdge time) := fun _ _ h => nomatch h
theorem spindleIndex (time : PrintTime) : Statement (.spindleIndex time) := fun _ _ h => nomatch h
theorem missingEdge : Statement (.missingEdge) := fun _ _ h => nomatch h
theorem spinupTimeout : Statement (.spinupTimeout) := fun _ _ h => nomatch h
theorem settleTimeout : Statement (.settleTimeout) := fun _ _ h => nomatch h
theorem carriageStep : Statement (.carriageStep) := fun _ _ h => nomatch h
theorem dotFire (lane : LaneNo) : Statement (.dotFire lane) := fun _ _ h => nomatch h
theorem laneRecoveryEnd (lane : LaneNo) : Statement (.laneRecoveryEnd lane) := fun _ _ h => nomatch h
theorem spindleStopped : Statement (.spindleStopped) := fun _ _ h => nomatch h
theorem spindownTimeout : Statement (.spindownTimeout) := fun _ _ h => nomatch h
theorem sensorSample (sensor : Sensor) (level : Bool) : Statement (.sensorSample sensor level) := fun _ _ h => nomatch h

end Sys2Proof.Laws.Shape
end

