-- ==== Sys2Proof/Laws/Steady.lean ====
section
/-! SUPPORT. What every operation keeps: one lemma per operation, each saying that a state which stands in the relation `Steady` to an
earlier one still does after the operation. -/

set_option linter.unusedTactic false
set_option linter.unnecessarySeqFocus false
set_option linter.unreachableTactic false
set_option linter.unusedSimpArgs false
set_option linter.unusedVariables false

namespace Sys2Proof.Machine

/-- Which of the parts that only their own commands change are followed. -/
structure Follow where
  window : Bool
  plant : Bool
  drive : Bool
  carriage : Bool
  generation : Bool
  numbers : Bool

/-- What a bay keeps. -/
structure BaySteady (fw : Follow) (a b : Bay) : Prop where
  installed : fw.plant = true → b.installed = a.installed
  drive : fw.drive = true → b.drive = a.drive
  soft : a.soft ≤ 15 → b.soft ≤ 15
  hard : a.hard ≤ 15 → b.hard ≤ 15
  linkErrors : a.linkErrors ≤ 65535 → b.linkErrors ≤ 65535
  reqs : a.requestsBounded → b.requestsBounded

/-- `s` has come from `s0` by operations of the part: what they all keep, and what only grows. -/
structure Steady (fw : Follow) (s0 s : State) : Prop where
  pending : s.pending = s0.pending
  time : s.tower.time = s0.tower.time
  calibration : fw.plant = true → s.tower.calibration = s0.tower.calibration
  boardLow : fw.window = true → s.regs.boardLow = s0.regs.boardLow
  boardHigh : fw.window = true → s.regs.boardHigh = s0.regs.boardHigh
  run : fw.window = true → s.regs.run = s0.regs.run
  irqEn : fw.window = true → s.regs.irqEn = s0.regs.irqEn
  generation : fw.generation = true → s.board.generation = s0.board.generation
  clsA : fw.plant = true → s.bins.a.cls = s0.bins.a.cls
  clsB : fw.plant = true → s.bins.b.cls = s0.bins.b.cls
  good : fw.plant = true → s.bins.good.capacity = s0.bins.good.capacity
  reject : fw.plant = true → s.bins.reject.capacity = s0.bins.reject.capacity
  position : fw.carriage = true → s.printer.position = s0.printer.position
  out : ∃ more, s.out = s0.out ++ more
  posted : s0.engine.posted.length ≤ 32 → s.engine.posted.length ≤ 32
  faults : s0.faults.bounded → s.faults.bounded
  bays : ∀ b : BayNo, BaySteady fw (s0.bay b) (s.bay b)
  numbers : fw.numbers = true → s0.numbersDistinct → s.numbersDistinct

variable {fw : Follow} {s0 s t : State}

theorem BaySteady.refl (a : Bay) : BaySteady fw a a := ⟨fun _ => rfl, fun _ => rfl, id, id, id, id⟩

theorem BaySteady.trans {a b c : Bay} (h : BaySteady fw a b) (k : BaySteady fw b c) : BaySteady fw a c :=
  ⟨fun e => (k.installed e).trans (h.installed e), fun e => (k.drive e).trans (h.drive e), fun e => k.soft (h.soft e),
   fun e => k.hard (h.hard e), fun e => k.linkErrors (h.linkErrors e), fun e => k.reqs (h.reqs e)⟩

theorem Steady.refl (s : State) : Steady fw s s :=
  ⟨rfl, rfl, fun _ => rfl, fun _ => rfl, fun _ => rfl, fun _ => rfl, fun _ => rfl, fun _ => rfl, fun _ => rfl, fun _ => rfl,
   fun _ => rfl, fun _ => rfl, fun _ => rfl, ⟨[], by simp⟩, id, id, fun _ => BaySteady.refl _, fun _ => id⟩

/-- The state after an update that touches nothing `Steady` follows. -/
theorem Steady.same {tower : Tower} {regs : Regs} {board : Board} {faults : FaultRecord} {jobs : Vector (Option Job) 8}
    {dockets : Vector (Option Docket) 16} {roundDue : Bool} {transport : Transport} {sensors : Vector Filter 12} {bins : Bins}
    {bays : Vector Bay 12} {health : Health} {pageWaiters : List BayNo} {engine : Engine} {printer : Printer} {event : Nat}
    {out : List Output} (h : Steady fw s0 s) (time : tower.time = s.tower.time)
    (calibration : tower.calibration = s.tower.calibration) (boardLow : regs.boardLow = s.regs.boardLow)
    (boardHigh : regs.boardHigh = s.regs.boardHigh) (run : regs.run = s.regs.run) (irqEn : regs.irqEn = s.regs.irqEn)
    (generation : board.generation = s.board.generation) (clsA : bins.a.cls = s.bins.a.cls)
    (clsB : bins.b.cls = s.bins.b.cls) (good : bins.good.capacity = s.bins.good.capacity)
    (reject : bins.reject.capacity = s.bins.reject.capacity) (position : printer.position = s.printer.position)
    (sent : out = s.out) (posted : engine.posted = s.engine.posted) (record : faults = s.faults) (bay : bays = s.bays) :
    Steady fw s0 ⟨s.pending, tower, regs, board, faults, jobs, dockets, roundDue, transport, sensors, bins, bays, health,
      pageWaiters, engine, printer, event, out⟩ := by
  subst sent record bay
  exact ⟨h.pending, time.trans h.time, fun e => calibration.trans (h.calibration e),
    fun e => boardLow.trans (h.boardLow e), fun e => boardHigh.trans (h.boardHigh e), fun e => run.trans (h.run e),
    fun e => irqEn.trans (h.irqEn e), fun e => generation.trans (h.generation e), fun e => clsA.trans (h.clsA e),
    fun e => clsB.trans (h.clsB e), fun e => good.trans (h.good e), fun e => reject.trans (h.reject e),
    fun e => position.trans (h.position e), h.out, fun e => by rw [posted]; exact h.posted e, h.faults, h.bays, h.numbers⟩

/-- A bay's record is replaced by one that keeps what a bay keeps. -/
theorem Steady.setBay (h : Steady fw s0 s) (b : BayNo) (r : Bay) (k : BaySteady fw (s.bay b) r)
    (n : r.logical = (s.bay b).logical) : Steady fw s0 (s.setBay b r) := by
  refine { h with bays := fun x => ?_, numbers := fun f e => ?_ }
  · rw [State.bay_setBay]
    split
    · subst_vars; exact (h.bays _).trans k
    · exact h.bays x
  · have same : ∀ x, ((s.setBay b r).bay x).logical = (s.bay x).logical := fun x => by
      rw [State.bay_setBay]; split
      · subst_vars; exact n
      · rfl
    exact fun x y m hx hy => h.numbers f e x y m (same x ▸ hx) (same y ▸ hy)

/-- A bay's number changes to none, or to one that no other bay holds. -/
theorem Steady.setNumber (h : Steady fw s0 s) (b : BayNo) (n : Option BayNo)
    (k : fw.numbers = true → s0.numbersDistinct → ∀ m x, n = some m → x ≠ b → (s.bay x).logical ≠ some m) :
    Steady fw s0 (s.setBay b { s.bay b with logical := n }) := by
  refine { h with bays := fun x => ?_, numbers := fun f e => ?_ }
  · rw [State.bay_setBay]
    split
    · subst_vars; exact (h.bays _).trans ⟨fun _ => rfl, fun _ => rfl, id, id, id, id⟩
    · exact h.bays x
  · intro x y m hx hy
    have d := h.numbers f e
    rw [State.bay_setBay] at hx hy
    by_cases ex : x = b <;> by_cases ey : y = b <;> simp only [ex, ey, if_true, if_false] at hx hy ⊢
    · exact absurd hy (k f e m y hx ey)
    · exact absurd hx (k f e m x hy ex)
    · exact d x y m hx hy

/-- A bay's record is replaced by one with the same followed fields. -/
theorem Steady.setBaySame (h : Steady fw s0 s) {b : BayNo} {r : Bay} (installed : r.installed = (s.bay b).installed)
    (drive : r.drive = (s.bay b).drive) (soft : r.soft = (s.bay b).soft) (hard : r.hard = (s.bay b).hard)
    (link : r.linkErrors = (s.bay b).linkErrors) (reqs : r.reqs = (s.bay b).reqs) (number : r.logical = (s.bay b).logical) :
    Steady fw s0 (s.setBay b r) :=
  h.setBay b r ⟨fun _ => installed, fun _ => drive, fun e => soft ▸ e, fun e => hard ▸ e, fun e => link ▸ e, fun e => by
    simpa only [Bay.requestsBounded, Bay.groupsOut, reqs] using e⟩ number

/-- Every bay's record is changed by a function that keeps what a bay keeps. -/
theorem Steady.mapBays (h : Steady fw s0 s) (f : Bay → Bay) (k : ∀ r, BaySteady fw r (f r)) (n : ∀ r, (f r).logical = r.logical) :
    Steady fw s0 { s with bays := s.bays.map f } := by
  have at_ : ∀ x, ({ s with bays := s.bays.map f } : State).bay x = f (s.bay x) := fun x => by
    show (s.bays.map f)[x.val] = f s.bays[x.val]
    exact Vector.getElem_map ..
  refine { h with bays := fun x => ?_, numbers := fun f e => ?_ }
  · rw [at_]; exact (h.bays x).trans (k _)
  · intro x y m hx hy
    rw [at_, n] at hx hy
    exact h.numbers f e x y m hx hy

/-- A fold keeps what each of its steps keeps. -/
theorem Steady.foldl {β : Type} (f : State → β → State) (k : ∀ u x, Steady fw s0 u → Steady fw s0 (f u x)) (l : List β)
    (h : Steady fw s0 s) : Steady fw s0 (l.foldl f s) := by
  induction l generalizing s with
  | nil => exact h
  | cons x t ih => exact ih (k _ _ h)

/-- The same, with the logical numbers not followed. -/
theorem Steady.unnumbered (h : Steady fw s0 s) : Steady { fw with numbers := false } s0 s :=
  { h with numbers := fun e => by simp at e, bays := fun b => { h.bays b with } }

/-- The logical numbers followed again, once they are known to be distinct. -/
theorem Steady.numbered (h : Steady { fw with numbers := false } s0 s) (n : s.numbersDistinct) : Steady fw s0 s :=
  { h with numbers := fun _ _ => n, bays := fun b => { h.bays b with } }

/-- One request more, of a kind that is outstanding once at most. -/
theorem Bay.requestsBounded_enter {r : Bay} {o : Outstanding} (h : r.requestsBounded)
    (once : (∀ n, o.req ≠ .group n) → (∀ n, o.req ≠ .read n) → (r.reqs.any fun x => x.req == o.req) = false)
    (groups : (∃ n, o.req = .group n) → r.groupsOut < 8) (r' : Bay) (e : r'.reqs = r.reqs ++ [o]) : r'.requestsBounded := by
  refine ⟨fun q g k => ?_, ?_⟩
  · have hq := h.1 q g k
    rw [e, List.filter_append, List.length_append]
    by_cases c : o.req = q
    · subst c
      have f : (r.reqs.filter fun x => x.req == o.req) = [] := by
        rw [List.filter_eq_nil_iff]
        have := once g k
        simpa using this
      rw [f]; simp
    · have : ([o].filter fun x => x.req == q) = [] := by simp [c]
      rw [this]; simpa using hq
  · have hg := h.2
    obtain ⟨q, p, l⟩ := o
    unfold Bay.groupsOut at hg groups ⊢
    rw [e, List.filter_append, List.length_append]
    cases q <;> simp only [List.filter_cons, List.filter_nil, if_true, if_false, List.length_cons, List.length_nil,
      Bool.false_eq_true] <;> first
      | exact hg
      | (have := groups ⟨_, rfl⟩; omega)

/-- Fewer requests. -/
theorem Bay.requestsBounded_sublist {r r' : Bay} (h : r.requestsBounded) (e : r'.reqs.Sublist r.reqs) : r'.requestsBounded :=
  ⟨fun q g k => ((e.filter _).length_le).trans (h.1 q g k), ((e.filter _).length_le).trans h.2⟩

theorem countUp_le {limit n : Nat} : countUp limit n ≤ limit := by unfold countUp; split <;> omega

theorem emit_steady (o : Output) (h : Steady fw s0 s) : Steady fw s0 (emit o s) := by
  refine { h with out := ?_ }
  obtain ⟨more, e⟩ := h.out
  exact ⟨more ++ [o], by simp [emit, e]⟩

theorem post_steady (w : PostedWrite) (room : s.room = true) (h : Steady fw s0 s) : Steady fw s0 (post w s) := by
  refine { h with posted := fun _ => ?_ }
  have r : s.engine.posted.length < 32 := by simpa [State.room] using room
  simp [post]; omega

theorem FaultRecord.raise_bounded (c : FaultClass) (f : FaultRecord) (h : f.bounded) : (f.raise c).bounded := by
  obtain ⟨a, b, d, e, g⟩ := h
  cases c <;> refine ⟨?_, ?_, ?_, ?_, ?_⟩ <;> simp only [FaultRecord.raise] <;> first | assumption | exact countUp_le

/-- The fault record is replaced by one within its bounds. -/
theorem Steady.setFaults (h : Steady fw s0 s) (f : FaultRecord) (k : s.faults.bounded → f.bounded) :
    Steady fw s0 { s with faults := f } :=
  { h with faults := fun e => k (h.faults e) }

theorem State.setDocket_steady {s : State} (d : DocketNo) (r : Option Docket)  (h : Steady fw s0 s) :
    Steady fw s0 ((State.setDocket s d r)) := by
  unfold State.setDocket; (try dsimp only); (repeat' split) <;> (iterate 16 (try with_reducible first | assumption | (refine Steady.setBaySame ?_ rfl rfl rfl rfl rfl rfl rfl) | (refine Steady.same ?_ rfl rfl rfl rfl rfl rfl rfl rfl rfl rfl rfl rfl rfl rfl rfl rfl)))

theorem State.updDocket_steady {s : State} (d : DocketNo) (f : Docket → Docket)  (h : Steady fw s0 s) :
    Steady fw s0 ((State.updDocket s d f)) := by
  unfold State.updDocket; (try dsimp only); (repeat' split) <;> (iterate 16 (try with_reducible first | assumption | apply State.setDocket_steady | (refine Steady.setBaySame ?_ rfl rfl rfl rfl rfl rfl rfl) | (refine Steady.same ?_ rfl rfl rfl rfl rfl rfl rfl rfl rfl rfl rfl rfl rfl rfl rfl rfl)))

theorem State.setJob_steady {s : State} (j : SlotNo) (r : Option Job)  (h : Steady fw s0 s) :
    Steady fw s0 ((State.setJob s j r)) := by
  unfold State.setJob; (try dsimp only); (repeat' split) <;> (iterate 16 (try with_reducible first | assumption | (refine Steady.setBaySame ?_ rfl rfl rfl rfl rfl rfl rfl) | (refine Steady.same ?_ rfl rfl rfl rfl rfl rfl rfl rfl rfl rfl rfl rfl rfl rfl rfl rfl)))

theorem State.updJob_steady {s : State} (j : SlotNo) (f : Job → Job)  (h : Steady fw s0 s) :
    Steady fw s0 ((State.updJob s j f)) := by
  unfold State.updJob; (try dsimp only); (repeat' split) <;> (iterate 16 (try with_reducible first | assumption | apply State.setJob_steady | (refine Steady.setBaySame ?_ rfl rfl rfl rfl rfl rfl rfl) | (refine Steady.same ?_ rfl rfl rfl rfl rfl rfl rfl rfl rfl rfl rfl rfl rfl rfl rfl rfl)))

theorem State.setFilter_steady {s : State} (x : Sensor) (f : Filter)  (h : Steady fw s0 s) :
    Steady fw s0 ((State.setFilter s x f)) := by
  unfold State.setFilter; (try dsimp only); (repeat' split) <;> (iterate 16 (try with_reducible first | assumption | (refine Steady.setBaySame ?_ rfl rfl rfl rfl rfl rfl rfl) | (refine Steady.same ?_ rfl rfl rfl rfl rfl rfl rfl rfl rfl rfl rfl rfl rfl rfl rfl rfl)))

theorem raiseAttention_steady (a : Attention) {s : State}  (h : Steady fw s0 s) :
    Steady fw s0 ((raiseAttention a s)) := by
  unfold raiseAttention; split
  · exact h
  · have k : Steady fw s0 { s with regs := s.regs.setAttention true a } := by
      cases a <;> exact Steady.same (h) rfl rfl rfl rfl rfl rfl rfl rfl rfl rfl rfl rfl rfl rfl rfl rfl
    dsimp only; split
    · exact emit_steady _ k
    · exact k

theorem waitForRoom_steady (t : Thread) {s : State}  (h : Steady fw s0 s) :
    Steady fw s0 ((waitForRoom t s)) := by
  unfold waitForRoom; (try dsimp only); (repeat' split) <;> (iterate 16 (try with_reducible first | assumption | (refine Steady.setBaySame ?_ rfl rfl rfl rfl rfl rfl rfl) | (refine Steady.same ?_ rfl rfl rfl rfl rfl rfl rfl rfl rfl rfl rfl rfl rfl rfl rfl rfl)))

theorem startThread_steady (t : Thread) {s : State}  (h : Steady fw s0 s) :
    Steady fw s0 ((startThread t s)) := by
  unfold startThread; (try dsimp only); (repeat' split) <;> (iterate 16 (try with_reducible first | assumption | (refine Steady.setBaySame ?_ rfl rfl rfl rfl rfl rfl rfl) | (refine Steady.same ?_ rfl rfl rfl rfl rfl rfl rfl rfl rfl rfl rfl rfl rfl rfl rfl rfl)))

theorem queueStatus_steady {s : State}  (h : Steady fw s0 s) :
    Steady fw s0 ((queueStatus s)) := by
  unfold queueStatus; split
  · exact h
  · split
    · exact h
    · split
      · exact post_steady _ (by assumption) h
      · exact waitForRoom_steady _ h

theorem reportStatus_steady {s : State}  (h : Steady fw s0 s) :
    Steady fw s0 ((reportStatus s)) := by
  unfold reportStatus; (try dsimp only); (repeat' split) <;> (iterate 16 (try with_reducible first | assumption | apply queueStatus_steady | (refine Steady.setBaySame ?_ rfl rfl rfl rfl rfl rfl rfl) | (refine Steady.same ?_ rfl rfl rfl rfl rfl rfl rfl rfl rfl rfl rfl rfl rfl rfl rfl rfl)))

theorem reportFault_steady (code : FaultCode) (bay : Option BayNo) (docket : Option DocketNo) {s : State}  (h : Steady fw s0 s) :
    Steady fw s0 ((reportFault code bay docket s)) := by
  unfold reportFault; split
  · exact reportStatus_steady (h.setFaults _ id)
  · split
    · exact h
    · exact reportStatus_steady (h.setFaults _ (FaultRecord.raise_bounded _ _))

theorem triggerRound_steady {s : State}  (h : Steady fw s0 s) :
    Steady fw s0 ((triggerRound s)) := by
  unfold triggerRound; (try dsimp only); (repeat' split) <;> (iterate 16 (try with_reducible first | assumption | (refine Steady.setBaySame ?_ rfl rfl rfl rfl rfl rfl rfl) | (refine Steady.same ?_ rfl rfl rfl rfl rfl rfl rfl rfl rfl rfl rfl rfl rfl rfl rfl rfl)))

theorem setTower_steady (st : TowerState) {s : State}  (h : Steady fw s0 s) :
    Steady fw s0 ((setTower st s)) := by
  unfold setTower; (try dsimp only); (repeat' split) <;> (iterate 16 (try with_reducible first | assumption | apply reportStatus_steady | apply triggerRound_steady | (refine Steady.setBaySame ?_ rfl rfl rfl rfl rfl rfl rfl) | (refine Steady.same ?_ rfl rfl rfl rfl rfl rfl rfl rfl rfl rfl rfl rfl rfl rfl rfl rfl)))

theorem setTransport_steady (st : TransportState) {s : State}  (h : Steady fw s0 s) :
    Steady fw s0 ((setTransport st s)) := by
  unfold setTransport; (try dsimp only); (repeat' split) <;> (iterate 16 (try with_reducible first | assumption | apply reportStatus_steady | (refine Steady.setBaySame ?_ rfl rfl rfl rfl rfl rfl rfl) | (refine Steady.same ?_ rfl rfl rfl rfl rfl rfl rfl rfl rfl rfl rfl rfl rfl rfl rfl rfl)))

theorem setPrinter_steady (st : PrinterState) {s : State}  (h : Steady fw s0 s) :
    Steady fw s0 ((setPrinter st s)) := by
  unfold setPrinter; (try dsimp only); (repeat' split) <;> (iterate 16 (try with_reducible first | assumption | apply reportStatus_steady | (refine Steady.setBaySame ?_ rfl rfl rfl rfl rfl rfl rfl) | (refine Steady.same ?_ rfl rfl rfl rfl rfl rfl rfl rfl rfl rfl rfl rfl rfl rfl rfl rfl)))

theorem setBayState_steady (b : BayNo) (st : BayState) {s : State}  (h : Steady fw s0 s) :
    Steady fw s0 ((setBayState b st s)) := by
  unfold setBayState; (try dsimp only); (repeat' split) <;> (iterate 16 (try with_reducible first | assumption | apply reportStatus_steady | (refine Steady.setBaySame ?_ rfl rfl rfl rfl rfl rfl rfl) | (refine Steady.same ?_ rfl rfl rfl rfl rfl rfl rfl rfl rfl rfl rfl rfl rfl rfl rfl rfl)))

theorem setLogical_steady (b : BayNo) (n : Option BayNo) {s : State} (h : Steady fw s0 s)
    (k : fw.numbers = true → s0.numbersDistinct → ∀ m x, n = some m → x ≠ b → (s.bay x).logical ≠ some m) :
    Steady fw s0 ((setLogical b n s)) := by
  unfold setLogical; split
  · exact h
  · exact reportStatus_steady (h.setNumber b n k)

theorem mem_allBays (b : BayNo) : b ∈ Config.allBays := by revert b; decide

theorem setInput_steady (i : InputBin) (st : InputBinState) {s : State}  (h : Steady fw s0 s) :
    Steady fw s0 ((setInput i st s)) := by
  unfold setInput; (try dsimp only); (repeat' split) <;> (iterate 16 (try with_reducible first | assumption | apply reportStatus_steady | (refine Steady.setBaySame ?_ rfl rfl rfl rfl rfl rfl rfl) | (refine Steady.same ?_ rfl rfl rfl rfl rfl rfl rfl rfl rfl rfl rfl rfl rfl rfl rfl rfl)))

theorem binUp_steady (o : OutputBin) {s : State}  (h : Steady fw s0 s) :
    Steady fw s0 ((binUp o s)) := by
  unfold binUp; apply reportStatus_steady; cases o <;> exact Steady.same (h) rfl rfl rfl rfl rfl rfl rfl rfl rfl rfl rfl rfl rfl rfl rfl rfl

theorem enterReq_steady (b : BayNo) (q : Request) (p : Purpose) (m : DriveMsg) {s : State}
    (once : (∀ n, q ≠ .group n) → (∀ n, q ≠ .read n) → s.hasReq b q = false)
    (groups : (∃ n, q = .group n) → (s.bay b).groupsOut < 8) (h : Steady fw s0 s) :
    Steady fw s0 ((enterReq b q p m s)) := by
  exact emit_steady _ (h.setBay _ _
    ⟨fun _ => rfl, fun _ => rfl, id, id, id, fun e => Bay.requestsBounded_enter e once groups _ rfl⟩ rfl)

theorem sendReq_steady (b : BayNo) (q : Request) (p : Purpose) (m : DriveMsg) {s : State} (h : Steady fw s0 s)
    (k : (match q with | .group _ => true | _ => false) = false) :
    Steady fw s0 ((sendReq b q p m s)) := by
  unfold sendReq; split
  · exact h
  · rename_i e
    exact enterReq_steady b q p m (fun _ _ => by simpa using e) (fun ⟨n, f⟩ => by subst f; cases k) h

theorem dropReq_steady (b : BayNo) (q : Request) {s : State}  (h : Steady fw s0 s) :
    Steady fw s0 ((dropReq b q s)) := by
  exact h.setBay _ _ ⟨fun _ => rfl, fun _ => rfl, id, id, id,
    fun e => Bay.requestsBounded_sublist e (List.eraseP_sublist ..)⟩ rfl

theorem withdrawBurn_steady (b : BayNo) {s : State}  (h : Steady fw s0 s) :
    Steady fw s0 ((withdrawBurn b s)) := by
  exact h.setBay _ _ ⟨fun _ => rfl, fun _ => rfl, id, id, id,
    fun e => Bay.requestsBounded_sublist e (List.filter_sublist ..)⟩ rfl

theorem linkError_steady (b : BayNo) {s : State}  (h : Steady fw s0 s) :
    Steady fw s0 ((linkError b s)) := by
  exact h.setBay _ _ ⟨fun _ => rfl, fun _ => rfl, id, id, fun _ => countUp_le, id⟩ rfl

theorem discardMsg_steady (b : BayNo) {s : State}  (h : Steady fw s0 s) :
    Steady fw s0 ((discardMsg b s)) := by
  unfold discardMsg; (try dsimp only); (repeat' split) <;> (iterate 16 (try with_reducible first | assumption | apply linkError_steady | (refine Steady.setBaySame ?_ rfl rfl rfl rfl rfl rfl rfl) | (refine Steady.same ?_ rfl rfl rfl rfl rfl rfl rfl rfl rfl rfl rfl rfl rfl rfl rfl rfl)))

theorem setSpare_steady (d : Option BayNo) {s : State}  (h : Steady fw s0 s) :
    Steady fw s0 ((setSpare d s)) := by
  unfold setSpare; (try dsimp only); (repeat' split) <;> (iterate 16 (try with_reducible first | assumption | (refine Steady.setBaySame ?_ rfl rfl rfl rfl rfl rfl rfl) | (refine Steady.same ?_ rfl rfl rfl rfl rfl rfl rfl rfl rfl rfl rfl rfl rfl rfl rfl rfl)))

theorem takeover_steady (number : Option BayNo) {s : State}  (h : Steady fw s0 s)
    (k : fw.numbers = true → s0.numbersDistinct → ∀ m x, number = some m → (s.bay x).logical ≠ some m) :
    Steady fw s0 ((takeover number s)) := by
  unfold takeover; split
  · split
    · exact setBayState_steady _ _ (sendReq_steady _ _ _ _ (setSpare_steady _ (setLogical_steady _ _ h
        fun f e m x c _ => by cases c; exact k f e _ x rfl)) rfl)
    · exact h
  · exact h

theorem retire_steady (b : BayNo) {s : State}  (h : Steady fw s0 s) :
    Steady fw s0 ((retire b s)) := by
  unfold retire
  refine reportFault_steady _ _ _ (takeover_steady _ (setLogical_steady _ _ (setBayState_steady _ _ h)
    fun _ _ _ _ c => by cases c) fun f e m x c => ?_)
  by_cases y : x = b
  · subst y; simp [setLogical_bay]
  · rw [setLogical_bay, if_neg y, setBayState_bay, if_neg y]
    exact fun g => y (h.numbers f e x b m g c)

theorem enterIdle_steady (b : BayNo) {s : State}  (h : Steady fw s0 s) :
    Steady fw s0 ((enterIdle b s)) := by
  unfold enterIdle; (try dsimp only); (repeat' split) <;> (iterate 16 (try with_reducible first | assumption | apply retire_steady | apply triggerRound_steady | apply setBayState_steady | (refine Steady.setBaySame ?_ rfl rfl rfl rfl rfl rfl rfl) | (refine Steady.same ?_ rfl rfl rfl rfl rfl rfl rfl rfl rfl rfl rfl rfl rfl rfl rfl rfl)))

theorem endDesignation_steady (b : BayNo) {s : State} (h : Steady fw s0 s) :
    Steady fw s0 (endDesignation b s) := by
  unfold endDesignation; split
  · exact setSpare_steady _ h
  · exact h

theorem retireSpare_steady (b : BayNo) {s : State} (h : Steady fw s0 s) :
    Steady fw s0 (retireSpare b s) := by
  unfold retireSpare; (try dsimp only); (repeat' split) <;> (iterate 16 (try with_reducible first | assumption | apply retire_steady | apply endDesignation_steady | (refine Steady.setBaySame ?_ rfl rfl rfl rfl rfl rfl rfl) | (refine Steady.same ?_ rfl rfl rfl rfl rfl rfl rfl rfl rfl rfl rfl rfl rfl rfl rfl rfl)))

theorem enterSpare_steady (b : BayNo) {s : State}  (h : Steady fw s0 s) :
    Steady fw s0 ((enterSpare b s)) := by
  unfold enterSpare; (try dsimp only); (repeat' split) <;> (iterate 16 (try with_reducible first | assumption | apply setBayState_steady | apply retireSpare_steady | (refine Steady.setBaySame ?_ rfl rfl rfl rfl rfl rfl rfl) | (refine Steady.same ?_ rfl rfl rfl rfl rfl rfl rfl rfl rfl rfl rfl rfl rfl rfl rfl rfl)))

theorem markFailing_steady (b : BayNo) {s : State}  (h : Steady fw s0 s) :
    Steady fw s0 ((markFailing b s)) := by
  unfold markFailing; (try dsimp only); (repeat' split) <;> (iterate 16 (try with_reducible first | assumption | apply reportStatus_steady | apply retire_steady | apply retireSpare_steady | (refine Steady.setBaySame ?_ rfl rfl rfl rfl rfl rfl rfl) | (refine Steady.same ?_ rfl rfl rfl rfl rfl rfl rfl rfl rfl rfl rfl rfl rfl rfl rfl rfl)))

theorem testLimits_steady (b : BayNo) {s : State}  (h : Steady fw s0 s) :
    Steady fw s0 ((testLimits b s)) := by
  unfold testLimits; (try dsimp only); (repeat' split) <;> (iterate 16 (try with_reducible first | assumption | apply markFailing_steady | (refine Steady.setBaySame ?_ rfl rfl rfl rfl rfl rfl rfl) | (refine Steady.same ?_ rfl rfl rfl rfl rfl rfl rfl rfl rfl rfl rfl rfl rfl rfl rfl rfl)))

theorem hardUp_steady (b : BayNo) {s : State}  (h : Steady fw s0 s) :
    Steady fw s0 ((hardUp b s)) := by
  unfold hardUp; split
  · exact h
  · rename_i c
    refine testLimits_steady _ (reportStatus_steady (h.setBay _ _ ⟨fun _ => rfl, fun _ => rfl, id, fun _ => ?_, id, id⟩ rfl))
    have := (not_or.mp c).2
    show (s.bay b).hard + 1 ≤ 15
    omega

theorem softUp_steady (b : BayNo) {s : State}  (h : Steady fw s0 s) :
    Steady fw s0 ((softUp b s)) := by
  unfold softUp; split
  · exact h
  · rename_i c
    refine testLimits_steady _ (reportStatus_steady (h.setBay _ _ ⟨fun _ => rfl, fun _ => rfl, fun _ => ?_, id, id, id⟩ rfl))
    have := (not_or.mp c).2
    show (s.bay b).soft + 1 ≤ 15
    omega

theorem setLine_steady (id : LineId) (r : Option FetchReq) {s : State}  (h : Steady fw s0 s) :
    Steady fw s0 ((setLine id r s)) := by
  unfold setLine; (try dsimp only); (repeat' split) <;> (iterate 16 (try with_reducible first | assumption | (refine Steady.setBaySame ?_ rfl rfl rfl rfl rfl rfl rfl) | (refine Steady.same ?_ rfl rfl rfl rfl rfl rfl rfl rfl rfl rfl rfl rfl rfl rfl rfl rfl)))

theorem present_steady (id : LineId) (addr len : Nat) (target : Target) {s : State}  (h : Steady fw s0 s) :
    Steady fw s0 ((present id addr len target s)) := by
  unfold present; (try dsimp only); (repeat' split) <;> (iterate 16 (try with_reducible first | assumption | apply setLine_steady | (refine Steady.setBaySame ?_ rfl rfl rfl rfl rfl rfl rfl) | (refine Steady.same ?_ rfl rfl rfl rfl rfl rfl rfl rfl rfl rfl rfl rfl rfl rfl rfl rfl)))

theorem orphanLine_steady (id : LineId) {s : State}  (h : Steady fw s0 s) :
    Steady fw s0 ((orphanLine id s)) := by
  unfold orphanLine; (try dsimp only); (repeat' split) <;> (iterate 16 (try with_reducible first | assumption | (refine Steady.setBaySame ?_ rfl rfl rfl rfl rfl rfl rfl) | (refine Steady.same ?_ rfl rfl rfl rfl rfl rfl rfl rfl rfl rfl rfl rfl rfl rfl rfl rfl)))

theorem setChannel_steady (b : BayNo) (c : Channel) {s : State}  (h : Steady fw s0 s) :
    Steady fw s0 ((setChannel b c s)) := by
  unfold setChannel; (try dsimp only); (repeat' split) <;> (iterate 16 (try with_reducible first | assumption | (refine Steady.setBaySame ?_ rfl rfl rfl rfl rfl rfl rfl) | (refine Steady.same ?_ rfl rfl rfl rfl rfl rfl rfl rfl rfl rfl rfl rfl rfl rfl rfl rfl)))

theorem recordSignature_steady (b : BayNo) (j : Job) (g : Nat) (crc : BitVec 32) {s : State}  (h : Steady fw s0 s) :
    Steady fw s0 ((recordSignature b j g crc s)) := by
  unfold recordSignature; split
  · exact post_steady _ (by assumption) h
  · split
    · exact waitForRoom_steady _ (setChannel_steady _ _ h)
    · exact h

theorem openEntry_steady (j : SlotNo) (g : Nat) {s : State}  (h : Steady fw s0 s) :
    Steady fw s0 ((openEntry j g s)) := by
  unfold openEntry; (try dsimp only); (repeat' split) <;> (iterate 16 (try with_reducible first | assumption | apply State.setJob_steady | apply recordSignature_steady | apply setLine_steady | apply setChannel_steady | (refine Steady.setBaySame ?_ rfl rfl rfl rfl rfl rfl rfl) | (refine Steady.same ?_ rfl rfl rfl rfl rfl rfl rfl rfl rfl rfl rfl rfl rfl rfl rfl rfl)))

theorem endBurstOf_steady (b : BayNo) {s : State}  (h : Steady fw s0 s) :
    Steady fw s0 ((endBurstOf b s)) := by
  unfold endBurstOf; (try dsimp only); (repeat' split) <;> (iterate 16 (try with_reducible first | assumption | (refine Steady.setBaySame ?_ rfl rfl rfl rfl rfl rfl rfl) | (refine Steady.same ?_ rfl rfl rfl rfl rfl rfl rfl rfl rfl rfl rfl rfl rfl rfl rfl rfl)))

theorem dropChannel_steady (b : BayNo) {s : State}  (h : Steady fw s0 s) :
    Steady fw s0 ((dropChannel b s)) := by
  unfold dropChannel; (try dsimp only); (repeat' split) <;> (iterate 16 (try with_reducible first | assumption | apply orphanLine_steady | apply endBurstOf_steady | (refine Steady.setBaySame ?_ rfl rfl rfl rfl rfl rfl rfl) | (refine Steady.same ?_ rfl rfl rfl rfl rfl rfl rfl rfl rfl rfl rfl rfl rfl rfl rfl rfl)))

theorem discardChannel_steady (b : BayNo) {s : State}  (h : Steady fw s0 s) :
    Steady fw s0 ((discardChannel b s)) := by
  unfold discardChannel; split
  · exact h
  · exact dropChannel_steady _ h
  · dsimp only; split
    · exact Steady.foldl _ (fun u x k => openEntry_steady _ _ k) _ (dropChannel_steady _ h)
    · exact dropChannel_steady _ h

theorem abortBurn_steady (b : BayNo) {s : State}  (h : Steady fw s0 s) :
    Steady fw s0 ((abortBurn b s)) := by
  unfold abortBurn; (try dsimp only); (repeat' split) <;> (iterate 16 (try with_reducible first | assumption | (refine Steady.setBaySame ?_ rfl rfl rfl rfl rfl rfl rfl) | (refine Steady.same ?_ rfl rfl rfl rfl rfl rfl rfl rfl rfl rfl rfl rfl rfl rfl rfl rfl)))

theorem stopVerify_steady (b : BayNo) {s : State}  (h : Steady fw s0 s) :
    Steady fw s0 ((stopVerify b s)) := by
  unfold stopVerify; (try dsimp only); (repeat' split) <;> (iterate 16 (try with_reducible first | assumption | (refine Steady.setBaySame ?_ rfl rfl rfl rfl rfl rfl rfl) | (refine Steady.same ?_ rfl rfl rfl rfl rfl rfl rfl rfl rfl rfl rfl rfl rfl rfl rfl rfl)))

theorem setLift_steady (l : Lift) {s : State}  (h : Steady fw s0 s) :
    Steady fw s0 ((setLift l s)) := by
  unfold setLift; (try dsimp only); (repeat' split) <;> (iterate 16 (try with_reducible first | assumption | (refine Steady.setBaySame ?_ rfl rfl rfl rfl rfl rfl rfl) | (refine Steady.same ?_ rfl rfl rfl rfl rfl rfl rfl rfl rfl rfl rfl rfl rfl rfl rfl rfl)))

theorem setPhase_steady (p : Phase) {s : State}  (h : Steady fw s0 s) :
    Steady fw s0 ((setPhase p s)) := by
  unfold setPhase; (try dsimp only); (repeat' split) <;> (iterate 16 (try with_reducible first | assumption | (refine Steady.setBaySame ?_ rfl rfl rfl rfl rfl rfl rfl) | (refine Steady.same ?_ rfl rfl rfl rfl rfl rfl rfl rfl rfl rfl rfl rfl rfl rfl rfl rfl)))

theorem setErrand_steady (e : Option Errand) {s : State}  (h : Steady fw s0 s) :
    Steady fw s0 ((setErrand e s)) := by
  unfold setErrand; (try dsimp only); (repeat' split) <;> (iterate 16 (try with_reducible first | assumption | (refine Steady.setBaySame ?_ rfl rfl rfl rfl rfl rfl rfl) | (refine Steady.same ?_ rfl rfl rfl rfl rfl rfl rfl rfl rfl rfl rfl rfl rfl rfl rfl rfl)))

theorem startMove_steady (target : Nat) {s : State}  (h : Steady fw s0 s) :
    Steady fw s0 ((startMove target s)) := by
  unfold startMove; (try dsimp only); (repeat' split) <;> (iterate 16 (try with_reducible first | assumption | apply setLift_steady | (refine Steady.setBaySame ?_ rfl rfl rfl rfl rfl rfl rfl) | (refine Steady.same ?_ rfl rfl rfl rfl rfl rfl rfl rfl rfl rfl rfl rfl rfl rfl rfl rfl)))

theorem stopLift_steady {s : State}  (h : Steady fw s0 s) :
    Steady fw s0 ((stopLift s)) := by
  unfold stopLift; (try dsimp only); (repeat' split) <;> (iterate 16 (try with_reducible first | assumption | apply setLift_steady | (refine Steady.setBaySame ?_ rfl rfl rfl rfl rfl rfl rfl) | (refine Steady.same ?_ rfl rfl rfl rfl rfl rfl rfl rfl rfl rfl rfl rfl rfl rfl rfl rfl)))

theorem stopMotors_steady {s : State}  (h : Steady fw s0 s) :
    Steady fw s0 ((stopMotors s)) := by
  unfold stopMotors; (try dsimp only); (repeat' split) <;> (iterate 16 (try with_reducible first | assumption | apply stopLift_steady | (refine Steady.setBaySame ?_ rfl rfl rfl rfl rfl rfl rfl) | (refine Steady.same ?_ rfl rfl rfl rfl rfl rfl rfl rfl rfl rfl rfl rfl rfl rfl rfl rfl)))

theorem startHoming_steady {s : State}  (h : Steady fw s0 s) :
    Steady fw s0 ((startHoming s)) := by
  unfold startHoming; (try dsimp only); (repeat' split) <;> (iterate 16 (try with_reducible first | assumption | apply setPhase_steady | apply setLift_steady | (refine Steady.setBaySame ?_ rfl rfl rfl rfl rfl rfl rfl) | (refine Steady.same ?_ rfl rfl rfl rfl rfl rfl rfl rfl rfl rfl rfl rfl rfl rfl rfl rfl)))

theorem startGripper_steady (c : GripCommand) {s : State}  (h : Steady fw s0 s) :
    Steady fw s0 ((startGripper c s)) := by
  unfold startGripper; (try dsimp only); (repeat' split) <;> (iterate 16 (try with_reducible first | assumption | (refine Steady.setBaySame ?_ rfl rfl rfl rfl rfl rfl rfl) | (refine Steady.same ?_ rfl rfl rfl rfl rfl rfl rfl rfl rfl rfl rfl rfl rfl rfl rfl rfl)))

theorem askTrayOpen_steady (b : BayNo) (p : Purpose) {s : State}  (h : Steady fw s0 s) :
    Steady fw s0 ((askTrayOpen b p s)) := by
  unfold askTrayOpen; (try dsimp only); (repeat' split) <;> (iterate 16 (try with_reducible first | assumption | apply setBayState_steady | refine sendReq_steady _ _ _ _ ?_ rfl | (refine Steady.setBaySame ?_ rfl rfl rfl rfl rfl rfl rfl) | (refine Steady.same ?_ rfl rfl rfl rfl rfl rfl rfl rfl rfl rfl rfl rfl rfl rfl rfl rfl)))

theorem askTrayClose_steady (b : BayNo) {s : State}  (h : Steady fw s0 s) :
    Steady fw s0 ((askTrayClose b s)) := by
  unfold askTrayClose; (try dsimp only); (repeat' split) <;> (iterate 16 (try with_reducible first | assumption | apply setBayState_steady | refine sendReq_steady _ _ _ _ ?_ rfl | (refine Steady.setBaySame ?_ rfl rfl rfl rfl rfl rfl rfl) | (refine Steady.same ?_ rfl rfl rfl rfl rfl rfl rfl rfl rfl rfl rfl rfl rfl rfl rfl rfl)))

theorem releaseBay_steady (b : BayNo) {s : State}  (h : Steady fw s0 s) :
    Steady fw s0 ((releaseBay b s)) := by
  unfold releaseBay; (try dsimp only); (repeat' split) <;> (iterate 16 (try with_reducible first | assumption | apply enterIdle_steady | apply askTrayClose_steady | (refine Steady.setBaySame ?_ rfl rfl rfl rfl rfl rfl rfl) | (refine Steady.same ?_ rfl rfl rfl rfl rfl rfl rfl rfl rfl rfl rfl rfl rfl rfl rfl rfl)))

theorem beginLeg_steady (leg : Leg) {s : State}  (h : Steady fw s0 s) :
    Steady fw s0 ((beginLeg leg s)) := by
  unfold beginLeg; (try dsimp only); (repeat' split) <;> (iterate 16 (try with_reducible first | assumption | apply startMove_steady | apply setPhase_steady | (refine Steady.setBaySame ?_ rfl rfl rfl rfl rfl rfl rfl) | (refine Steady.same ?_ rfl rfl rfl rfl rfl rfl rfl rfl rfl rfl rfl rfl rfl rfl rfl rfl)))

theorem endErrand_steady {s : State}  (h : Steady fw s0 s) :
    Steady fw s0 ((endErrand s)) := by
  unfold endErrand; (try dsimp only); (repeat' split) <;> (iterate 16 (try with_reducible first | assumption | apply setPhase_steady | apply setErrand_steady | apply stopMotors_steady | apply setTransport_steady | (refine Steady.setBaySame ?_ rfl rfl rfl rfl rfl rfl rfl) | (refine Steady.same ?_ rfl rfl rfl rfl rfl rfl rfl rfl rfl rfl rfl rfl rfl rfl rfl rfl)))

theorem haltTransport_steady (code : FaultCode) (bay : Option BayNo) (docket : Option DocketNo) {s : State}  (h : Steady fw s0 s) :
    Steady fw s0 ((haltTransport code bay docket s)) := by
  unfold haltTransport; (try dsimp only); (repeat' split) <;> (iterate 16 (try with_reducible first | assumption | apply setPhase_steady | apply stopMotors_steady | apply setErrand_steady | apply reportFault_steady | apply raiseAttention_steady | apply setTransport_steady | apply setTower_steady | (refine Steady.setBaySame ?_ rfl rfl rfl rfl rfl rfl rfl) | (refine Steady.same ?_ rfl rfl rfl rfl rfl rfl rfl rfl rfl rfl rfl rfl rfl rfl rfl rfl)))

theorem transportFault_steady (code : FaultCode) {s : State}  (h : Steady fw s0 s) :
    Steady fw s0 ((transportFault code s)) := by
  unfold transportFault; (try dsimp only); (repeat' split) <;> (iterate 16 (try with_reducible first | assumption | apply haltTransport_steady | (refine Steady.setBaySame ?_ rfl rfl rfl rfl rfl rfl rfl) | (refine Steady.same ?_ rfl rfl rfl rfl rfl rfl rfl rfl rfl rfl rfl rfl rfl rfl rfl rfl)))

theorem setQueue_steady (q : List Task) {s : State}  (h : Steady fw s0 s) :
    Steady fw s0 ((setQueue q s)) := by
  unfold setQueue; (try dsimp only); (repeat' split) <;> (iterate 16 (try with_reducible first | assumption | (refine Steady.setBaySame ?_ rfl rfl rfl rfl rfl rfl rfl) | (refine Steady.same ?_ rfl rfl rfl rfl rfl rfl rfl rfl rfl rfl rfl rfl rfl rfl rfl rfl)))

theorem queueTask_steady (d : DocketNo) (kind : TaskKind) (source dest : Station) {s : State}  (h : Steady fw s0 s) :
    Steady fw s0 ((queueTask d kind source dest s)) := by
  unfold queueTask; (try dsimp only); (repeat' split) <;> (iterate 16 (try with_reducible first | assumption | apply setQueue_steady | apply setErrand_steady | (refine Steady.setBaySame ?_ rfl rfl rfl rfl rfl rfl rfl) | (refine Steady.same ?_ rfl rfl rfl rfl rfl rfl rfl rfl rfl rfl rfl rfl rfl rfl rfl rfl)))

theorem unqueueTask_steady (d : DocketNo) {s : State}  (h : Steady fw s0 s) :
    Steady fw s0 ((unqueueTask d s)) := by
  unfold unqueueTask; (try dsimp only); (repeat' split) <;> (iterate 16 (try with_reducible first | assumption | apply setQueue_steady | (refine Steady.setBaySame ?_ rfl rfl rfl rfl rfl rfl rfl) | (refine Steady.same ?_ rfl rfl rfl rfl rfl rfl rfl rfl rfl rfl rfl rfl rfl rfl rfl rfl)))

theorem rejectQueued_steady (d : DocketNo) {s : State}  (h : Steady fw s0 s) :
    Steady fw s0 ((rejectQueued d s)) := by
  unfold rejectQueued; (try dsimp only); (repeat' split) <;> (iterate 16 (try with_reducible first | assumption | apply setQueue_steady | (refine Steady.setBaySame ?_ rfl rfl rfl rfl rfl rfl rfl) | (refine Steady.same ?_ rfl rfl rfl rfl rfl rfl rfl rfl rfl rfl rfl rfl rfl rfl rfl rfl)))

theorem returnTask_steady {s : State}  (h : Steady fw s0 s) :
    Steady fw s0 ((returnTask s)) := by
  unfold returnTask; (try dsimp only); (repeat' split) <;> (iterate 16 (try with_reducible first | assumption | apply endErrand_steady | apply setQueue_steady | (refine Steady.setBaySame ?_ rfl rfl rfl rfl rfl rfl rfl) | (refine Steady.same ?_ rfl rfl rfl rfl rfl rfl rfl rfl rfl rfl rfl rfl rfl rfl rfl rfl)))

theorem returnToEnd_steady {s : State}  (h : Steady fw s0 s) :
    Steady fw s0 ((returnToEnd s)) := by
  unfold returnToEnd; (try dsimp only); (repeat' split) <;> (iterate 16 (try with_reducible first | assumption | apply startMove_steady | apply setPhase_steady | apply setErrand_steady | apply stopLift_steady | apply endErrand_steady | (refine Steady.setBaySame ?_ rfl rfl rfl rfl rfl rfl rfl) | (refine Steady.same ?_ rfl rfl rfl rfl rfl rfl rfl rfl rfl rfl rfl rfl rfl rfl rfl rfl)))

theorem sendHalt_steady (b : BayNo) {s : State}  (h : Steady fw s0 s) :
    Steady fw s0 ((sendHalt b s)) := by
  unfold sendHalt; (try dsimp only); (repeat' split) <;> (iterate 16 (try with_reducible first | assumption | apply withdrawBurn_steady | refine sendReq_steady _ _ _ _ ?_ rfl | (refine Steady.setBaySame ?_ rfl rfl rfl rfl rfl rfl rfl) | (refine Steady.same ?_ rfl rfl rfl rfl rfl rfl rfl rfl rfl rfl rfl rfl rfl rfl rfl rfl)))

theorem stopWork_steady (halt : Bool) (r : Docket) {s : State}  (h : Steady fw s0 s) :
    Steady fw s0 ((stopWork halt r s)) := by
  unfold stopWork; (try dsimp only); (repeat' split) <;> (iterate 16 (try with_reducible first | assumption | apply sendHalt_steady | apply abortBurn_steady | apply stopVerify_steady | (refine Steady.setBaySame ?_ rfl rfl rfl rfl rfl rfl rfl) | (refine Steady.same ?_ rfl rfl rfl rfl rfl rfl rfl rfl rfl rfl rfl rfl rfl rfl rfl rfl)))

theorem giveCause_steady (halt : Bool) (d : DocketNo) (c : Cause) {s : State}  (h : Steady fw s0 s) :
    Steady fw s0 ((giveCause halt d c s)) := by
  unfold giveCause; (try dsimp only); (repeat' split) <;> (iterate 16 (try with_reducible first | assumption | apply State.setDocket_steady | apply stopWork_steady | apply rejectQueued_steady | (refine Steady.setBaySame ?_ rfl rfl rfl rfl rfl rfl rfl) | (refine Steady.same ?_ rfl rfl rfl rfl rfl rfl rfl rfl rfl rfl rfl rfl rfl rfl rfl rfl)))

theorem giveGood_steady (d : DocketNo) {s : State}  (h : Steady fw s0 s) :
    Steady fw s0 ((giveGood d s)) := by
  unfold giveGood; (try dsimp only); (repeat' split) <;> (iterate 16 (try with_reducible first | assumption | apply State.updDocket_steady | (refine Steady.setBaySame ?_ rfl rfl rfl rfl rfl rfl rfl) | (refine Steady.same ?_ rfl rfl rfl rfl rfl rfl rfl rfl rfl rfl rfl rfl rfl rfl rfl rfl)))

theorem setDocketState_steady (d : DocketNo) (st : DocketState) {s : State}  (h : Steady fw s0 s) :
    Steady fw s0 ((setDocketState d st s)) := by
  unfold setDocketState; (try dsimp only); (repeat' split) <;> (iterate 16 (try with_reducible first | assumption | apply State.updDocket_steady | (refine Steady.setBaySame ?_ rfl rfl rfl rfl rfl rfl rfl) | (refine Steady.same ?_ rfl rfl rfl rfl rfl rfl rfl rfl rfl rfl rfl rfl rfl rfl rfl rfl)))

theorem endJob_steady (j : SlotNo) {s : State}  (h : Steady fw s0 s) :
    Steady fw s0 ((endJob j s)) := by
  unfold endJob; (try dsimp only); (repeat' split) <;> (iterate 16 (try with_reducible first | assumption | apply State.updJob_steady | apply startThread_steady | (refine Steady.setBaySame ?_ rfl rfl rfl rfl rfl rfl rfl) | (refine Steady.same ?_ rfl rfl rfl rfl rfl rfl rfl rfl rfl rfl rfl rfl rfl rfl rfl rfl)))

theorem endIfStopped_steady (j : SlotNo) {s : State}  (h : Steady fw s0 s) :
    Steady fw s0 ((endIfStopped j s)) := by
  unfold endIfStopped; (try dsimp only); (repeat' split) <;> (iterate 16 (try with_reducible first | assumption | apply endJob_steady | (refine Steady.setBaySame ?_ rfl rfl rfl rfl rfl rfl rfl) | (refine Steady.same ?_ rfl rfl rfl rfl rfl rfl rfl rfl rfl rfl rfl rfl rfl rfl rfl rfl)))

theorem land_steady (d : DocketNo) (place : Option Place) (bin : Option OutputBin) {s : State}  (h : Steady fw s0 s) :
    Steady fw s0 ((land d place bin s)) := by
  unfold land; (try dsimp only); (repeat' split) <;> (iterate 16 (try with_reducible first | assumption | apply startThread_steady | apply State.setDocket_steady | (refine Steady.setBaySame ?_ rfl rfl rfl rfl rfl rfl rfl) | (refine Steady.same ?_ rfl rfl rfl rfl rfl rfl rfl rfl rfl rfl rfl rfl rfl rfl rfl rfl)))

theorem loseDisc_steady (dropped : Bool) (d : DocketNo) (place : Place) {s : State}  (h : Steady fw s0 s) :
    Steady fw s0 ((loseDisc dropped d place s)) := by
  unfold loseDisc; (try dsimp only); (repeat' split) <;> (iterate 16 (try with_reducible first | assumption | apply giveCause_steady | apply unqueueTask_steady | apply endErrand_steady | apply releaseBay_steady | apply land_steady | (refine Steady.setBaySame ?_ rfl rfl rfl rfl rfl rfl rfl) | (refine Steady.same ?_ rfl rfl rfl rfl rfl rfl rfl rfl rfl rfl rfl rfl rfl rfl rfl rfl)))

theorem stopPick_steady {s : State}  (h : Steady fw s0 s) :
    Steady fw s0 ((stopPick s)) := by
  unfold stopPick; (try dsimp only); (repeat' split) <;> (iterate 16 (try with_reducible first | assumption | apply returnToEnd_steady | apply setPhase_steady | apply setErrand_steady | apply endErrand_steady | (refine Steady.setBaySame ?_ rfl rfl rfl rfl rfl rfl rfl) | (refine Steady.same ?_ rfl rfl rfl rfl rfl rfl rfl rfl rfl rfl rfl rfl rfl rfl rfl rfl)))

theorem forgetDissolved_steady (d : DocketNo) (j : SlotNo) {s : State}  (h : Steady fw s0 s) :
    Steady fw s0 ((forgetDissolved d j s)) := by
  unfold forgetDissolved; (try dsimp only); (repeat' split) <;> (iterate 16 (try with_reducible first | assumption | apply endIfStopped_steady | apply triggerRound_steady | apply State.setDocket_steady | apply State.updJob_steady | (refine Steady.setBaySame ?_ rfl rfl rfl rfl rfl rfl rfl) | (refine Steady.same ?_ rfl rfl rfl rfl rfl rfl rfl rfl rfl rfl rfl rfl rfl rfl rfl rfl)))

theorem dissolve_steady (d : DocketNo) {s : State}  (h : Steady fw s0 s) :
    Steady fw s0 ((dissolve d s)) := by
  unfold dissolve; (try dsimp only); (repeat' split) <;> (iterate 16 (try with_reducible first | assumption | apply unqueueTask_steady | apply stopPick_steady | apply releaseBay_steady | apply forgetDissolved_steady | (refine Steady.setBaySame ?_ rfl rfl rfl rfl rfl rfl rfl) | (refine Steady.same ?_ rfl rfl rfl rfl rfl rfl rfl rfl rfl rfl rfl rfl rfl rfl rfl rfl)))

theorem redirectArm_steady {s : State}  (h : Steady fw s0 s) :
    Steady fw s0 ((redirectArm s)) := by
  unfold redirectArm; (try dsimp only); (repeat' split) <;> (iterate 16 (try with_reducible first | assumption | apply setErrand_steady | apply beginLeg_steady | apply stopMotors_steady | (refine Steady.setBaySame ?_ rfl rfl rfl rfl rfl rfl rfl) | (refine Steady.same ?_ rfl rfl rfl rfl rfl rfl rfl rfl rfl rfl rfl rfl rfl rfl rfl rfl)))

theorem reroute_steady (d : DocketNo) (c : Cause) {s : State}  (h : Steady fw s0 s) :
    Steady fw s0 ((reroute d c s)) := by
  unfold reroute; (try dsimp only); (repeat' split) <;> (iterate 16 (try with_reducible first | assumption | apply giveCause_steady | apply setDocketState_steady | apply redirectArm_steady | apply releaseBay_steady | (refine Steady.setBaySame ?_ rfl rfl rfl rfl rfl rfl rfl) | (refine Steady.same ?_ rfl rfl rfl rfl rfl rfl rfl rfl rfl rfl rfl rfl rfl rfl rfl rfl)))

theorem stopDocket_steady (c : Cause) (d : DocketNo) {s : State}  (h : Steady fw s0 s) :
    Steady fw s0 ((stopDocket c d s)) := by
  unfold stopDocket; (try dsimp only); (repeat' split) <;> (iterate 16 (try with_reducible first | assumption | apply dissolve_steady | apply reroute_steady | apply giveCause_steady | (refine Steady.setBaySame ?_ rfl rfl rfl rfl rfl rfl rfl) | (refine Steady.same ?_ rfl rfl rfl rfl rfl rfl rfl rfl rfl rfl rfl rfl rfl rfl rfl rfl)))

theorem stopJob_steady (j : SlotNo) (outcome : JobOutcome) (fail : Cause) (given : Cause) {s : State}  (h : Steady fw s0 s) :
    Steady fw s0 ((stopJob j outcome fail given s)) := by
  unfold stopJob; split
  · exact h
  · split
    · have k := fun (l : List DocketNo) (u : State) (k : Steady fw s0 u) =>
        Steady.foldl (fun u d => stopDocket given d u) (fun _ _ k => stopDocket_steady _ _ k) l k
      dsimp only; (repeat' split) <;> first | exact endJob_steady _ (k _ _ (State.setJob_steady _ _ h)) | exact k _ _ (State.setJob_steady _ _ h)
    · exact h

theorem failJob_steady (d : DocketNo) (c : Cause) {s : State}  (h : Steady fw s0 s) :
    Steady fw s0 ((failJob d c s)) := by
  unfold failJob; (try dsimp only); (repeat' split) <;> (iterate 16 (try with_reducible first | assumption | apply stopJob_steady | apply giveCause_steady | (refine Steady.setBaySame ?_ rfl rfl rfl rfl rfl rfl rfl) | (refine Steady.same ?_ rfl rfl rfl rfl rfl rfl rfl rfl rfl rfl rfl rfl rfl rfl rfl rfl)))

theorem decideLanding_steady (j : SlotNo) {s : State}  (h : Steady fw s0 s) :
    Steady fw s0 ((decideLanding j s)) := by
  unfold decideLanding; (try dsimp only); (repeat' split) <;> (iterate 16 (try with_reducible first | assumption | apply stopJob_steady | apply endJob_steady | apply State.setJob_steady | apply endIfStopped_steady | (refine Steady.setBaySame ?_ rfl rfl rfl rfl rfl rfl rfl) | (refine Steady.same ?_ rfl rfl rfl rfl rfl rfl rfl rfl rfl rfl rfl rfl rfl rfl rfl rfl)))

theorem toRejectWait_steady (d : DocketNo) {s : State}  (h : Steady fw s0 s) :
    Steady fw s0 ((toRejectWait d s)) := by
  unfold toRejectWait; (try dsimp only); (repeat' split) <;> (iterate 16 (try with_reducible first | assumption | apply queueTask_steady | apply State.setDocket_steady | (refine Steady.setBaySame ?_ rfl rfl rfl rfl rfl rfl rfl) | (refine Steady.same ?_ rfl rfl rfl rfl rfl rfl rfl rfl rfl rfl rfl rfl rfl rfl rfl rfl)))

theorem handOff_steady (b : BayNo) (d : DocketNo) {s : State}  (h : Steady fw s0 s) :
    Steady fw s0 ((handOff b d s)) := by
  unfold handOff; (try dsimp only); (repeat' split) <;> (iterate 16 (try with_reducible first | assumption | apply discardChannel_steady | apply setBayState_steady | apply toRejectWait_steady | (refine Steady.setBaySame ?_ rfl rfl rfl rfl rfl rfl rfl) | (refine Steady.same ?_ rfl rfl rfl rfl rfl rfl rfl rfl rfl rfl rfl rfl rfl rfl rfl rfl)))

theorem resetErrand_steady (b : BayNo) {s : State}  (h : Steady fw s0 s) :
    Steady fw s0 ((resetErrand b s)) := by
  unfold resetErrand; (try dsimp only); (repeat' split) <;> (iterate 16 (try with_reducible first | assumption | apply returnTask_steady | apply endErrand_steady | (refine Steady.setBaySame ?_ rfl rfl rfl rfl rfl rfl rfl) | (refine Steady.same ?_ rfl rfl rfl rfl rfl rfl rfl rfl rfl rfl rfl rfl rfl rfl rfl rfl)))

theorem resetDocket_steady (b : BayNo) {s : State}  (h : Steady fw s0 s) :
    Steady fw s0 ((resetDocket b s)) := by
  unfold resetDocket; (try dsimp only); (repeat' split) <;> (iterate 16 (try with_reducible first | assumption | apply dissolve_steady | apply reroute_steady | apply giveCause_steady | (refine Steady.setBaySame ?_ rfl rfl rfl rfl rfl rfl rfl) | (refine Steady.same ?_ rfl rfl rfl rfl rfl rfl rfl rfl rfl rfl rfl rfl rfl rfl rfl rfl)))

theorem startReset_steady (b : BayNo) {s : State}  (h : Steady fw s0 s) :
    Steady fw s0 ((startReset b s)) := by
  have k : Steady fw s0 (s.setBay b (s.bay b).beginReset) :=
    h.setBay _ _ ⟨fun _ => rfl, fun _ => rfl, id, id, id, fun e => Bay.requestsBounded_sublist e (List.nil_sublist _)⟩ rfl
  unfold startReset; split
  · exact h
  · exact resetDocket_steady _ (resetErrand_steady _ (discardChannel_steady _ (setBayState_steady _ _
      (sendReq_steady _ _ _ _ k rfl))))

theorem discover_steady (p : Purpose) (b : BayNo) {s : State}  (h : Steady fw s0 s) :
    Steady fw s0 ((discover p b s)) := by
  unfold discover; (try dsimp only); (repeat' split) <;> (iterate 16 (try with_reducible first | assumption | refine sendReq_steady _ _ _ _ ?_ rfl | apply setBayState_steady | (refine Steady.setBaySame ?_ rfl rfl rfl rfl rfl rfl rfl) | (refine Steady.same ?_ rfl rfl rfl rfl rfl rfl rfl rfl rfl rfl rfl rfl rfl rfl rfl rfl)))

theorem leaveDiscovering_steady (v : Bool) (b : BayNo) {s : State}  (h : Steady fw s0 s) :
    Steady fw s0 ((leaveDiscovering v b s)) := by
  unfold leaveDiscovering; (try dsimp only); (repeat' split) <;> (iterate 16 (try with_reducible first | assumption | apply setBayState_steady | refine sendReq_steady _ _ _ _ ?_ rfl | apply enterSpare_steady | apply enterIdle_steady | (refine Steady.setBaySame ?_ rfl rfl rfl rfl rfl rfl rfl) | (refine Steady.same ?_ rfl rfl rfl rfl rfl rfl rfl rfl rfl rfl rfl rfl rfl rfl rfl rfl)))

theorem onIdentity_steady (b : BayNo) (drive : Drive) {s : State} (off : fw.drive = false) (h : Steady fw s0 s) :
    Steady fw s0 ((onIdentity b drive s)) := by
  unfold onIdentity; split
  · have k : Steady fw s0 ((dropReq b .identify s).setBay b { (dropReq b .identify s).bay b with drive := some drive }) :=
      (dropReq_steady b _ h).setBay _ _ ⟨fun _ => rfl, fun e => by simp [off] at e, id, id, id, id⟩ rfl
    dsimp only; split
    · exact leaveDiscovering_steady _ _ k
    · exact k
  · exact discardMsg_steady _ h

theorem onTrayOpen_steady (b : BayNo) {s : State}  (h : Steady fw s0 s) :
    Steady fw s0 ((onTrayOpen b s)) := by
  unfold onTrayOpen; (try dsimp only); (repeat' split) <;> (iterate 16 (try with_reducible first | assumption | apply dropReq_steady | apply setBayState_steady | apply askTrayClose_steady | apply toRejectWait_steady | apply discardMsg_steady | (refine Steady.setBaySame ?_ rfl rfl rfl rfl rfl rfl rfl) | (refine Steady.same ?_ rfl rfl rfl rfl rfl rfl rfl rfl rfl rfl rfl rfl rfl rfl rfl rfl)))

theorem bayEmptied_steady (b : BayNo) {s : State}  (h : Steady fw s0 s) :
    Steady fw s0 ((bayEmptied b s)) := by
  unfold bayEmptied; (try dsimp only); (repeat' split) <;> (iterate 16 (try with_reducible first | assumption | apply enterSpare_steady | apply enterIdle_steady | (refine Steady.setBaySame ?_ rfl rfl rfl rfl rfl rfl rfl) | (refine Steady.same ?_ rfl rfl rfl rfl rfl rfl rfl rfl rfl rfl rfl rfl rfl rfl rfl rfl)))

theorem onTrayClosed_steady (b : BayNo) {s : State}  (h : Steady fw s0 s) :
    Steady fw s0 ((onTrayClosed b s)) := by
  unfold onTrayClosed; (try dsimp only); (repeat' split) <;> (iterate 16 (try with_reducible first | assumption | apply dropReq_steady | apply bayEmptied_steady | apply setBayState_steady | refine sendReq_steady _ _ _ _ ?_ rfl | apply discardMsg_steady | (refine Steady.setBaySame ?_ rfl rfl rfl rfl rfl rfl rfl) | (refine Steady.same ?_ rfl rfl rfl rfl rfl rfl rfl rfl rfl rfl rfl rfl rfl rfl rfl rfl)))

theorem openBurn_steady (b : BayNo) (d : DocketNo) (j : Job) {s : State}  (h : Steady fw s0 s) :
    Steady fw s0 ((openBurn b d j s)) := by
  unfold openBurn; (try dsimp only); (repeat' split) <;> (iterate 16 (try with_reducible first | assumption | refine sendReq_steady _ _ _ _ ?_ rfl | apply State.updDocket_steady | apply setBayState_steady | (refine Steady.setBaySame ?_ rfl rfl rfl rfl rfl rfl rfl) | (refine Steady.same ?_ rfl rfl rfl rfl rfl rfl rfl rfl rfl rfl rfl rfl rfl rfl rfl rfl)))

theorem mediaSeated_steady (b : BayNo) (d : DocketNo) (r : Docket) (kind : MediaKind) (cls : MediaClass) (capacity : Nat) {s : State}  (h : Steady fw s0 s) :
    Steady fw s0 ((mediaSeated b d r kind cls capacity s)) := by
  unfold mediaSeated; (try dsimp only); (repeat' split) <;> (iterate 16 (try with_reducible first | assumption | apply openBurn_steady | apply failJob_steady | apply giveCause_steady | apply hardUp_steady | apply reportFault_steady | (refine Steady.setBaySame ?_ rfl rfl rfl rfl rfl rfl rfl) | (refine Steady.same ?_ rfl rfl rfl rfl rfl rfl rfl rfl rfl rfl rfl rfl rfl rfl rfl rfl)))

theorem listForSweep_steady (b : BayNo) {s : State}  (h : Steady fw s0 s) :
    Steady fw s0 ((listForSweep b s)) := by
  unfold listForSweep; (try dsimp only); (repeat' split) <;> (iterate 16 (try with_reducible first | assumption | (refine Steady.setBaySame ?_ rfl rfl rfl rfl rfl rfl rfl) | (refine Steady.same ?_ rfl rfl rfl rfl rfl rfl rfl rfl rfl rfl rfl rfl rfl rfl rfl rfl)))

theorem endSweepProbe_steady (b : BayNo) {s : State}  (h : Steady fw s0 s) :
    Steady fw s0 ((endSweepProbe b s)) := by
  unfold endSweepProbe; (try dsimp only); (repeat' split) <;> (iterate 16 (try with_reducible first | assumption | apply enterSpare_steady | apply enterIdle_steady | (refine Steady.setBaySame ?_ rfl rfl rfl rfl rfl rfl rfl) | (refine Steady.same ?_ rfl rfl rfl rfl rfl rfl rfl rfl rfl rfl rfl rfl rfl rfl rfl rfl)))

theorem onMedia_steady (b : BayNo) (kind : MediaKind) (cls : MediaClass) (capacity : Nat) {s : State}  (h : Steady fw s0 s) :
    Steady fw s0 ((onMedia b kind cls capacity s)) := by
  unfold onMedia; (try dsimp only); (repeat' split) <;> (iterate 16 (try with_reducible first | assumption | apply dropReq_steady | apply mediaSeated_steady | apply endSweepProbe_steady | apply listForSweep_steady | apply enterIdle_steady | apply setBayState_steady | apply discardMsg_steady | (refine Steady.setBaySame ?_ rfl rfl rfl rfl rfl rfl rfl) | (refine Steady.same ?_ rfl rfl rfl rfl rfl rfl rfl rfl rfl rfl rfl rfl rfl rfl rfl rfl)))

theorem onCredit_steady (b : BayNo) (n : Nat) {s : State}  (h : Steady fw s0 s) :
    Steady fw s0 ((onCredit b n s)) := by
  unfold onCredit; (try dsimp only); (repeat' split) <;> (iterate 16 (try with_reducible first | assumption | apply dropReq_steady | apply setChannel_steady | apply linkError_steady | apply discardMsg_steady | (refine Steady.setBaySame ?_ rfl rfl rfl rfl rfl rfl rfl) | (refine Steady.same ?_ rfl rfl rfl rfl rfl rfl rfl rfl rfl rfl rfl rfl rfl rfl rfl rfl)))

theorem groupWritten_steady (d : DocketNo) {s : State}  (h : Steady fw s0 s) :
    Steady fw s0 ((groupWritten d s)) := by
  unfold groupWritten; (try dsimp only); (repeat' split) <;> (iterate 16 (try with_reducible first | assumption | apply State.updDocket_steady | (refine Steady.setBaySame ?_ rfl rfl rfl rfl rfl rfl rfl) | (refine Steady.same ?_ rfl rfl rfl rfl rfl rfl rfl rfl rfl rfl rfl rfl rfl rfl rfl rfl)))

theorem closeBurn_steady (b : BayNo) (d : DocketNo) (c : Burn) {s : State}  (h : Steady fw s0 s) :
    Steady fw s0 ((closeBurn b d c s)) := by
  unfold closeBurn; (try dsimp only); (repeat' split) <;> (iterate 16 (try with_reducible first | assumption | apply setBayState_steady | apply setDocketState_steady | apply setChannel_steady | refine sendReq_steady _ _ _ _ ?_ rfl | (refine Steady.setBaySame ?_ rfl rfl rfl rfl rfl rfl rfl) | (refine Steady.same ?_ rfl rfl rfl rfl rfl rfl rfl rfl rfl rfl rfl rfl rfl rfl rfl rfl)))

theorem onWritten_steady (b : BayNo) (g : Nat) {s : State}  (h : Steady fw s0 s) :
    Steady fw s0 ((onWritten b g s)) := by
  unfold onWritten; (try dsimp only); (repeat' split) <;> (iterate 16 (try with_reducible first | assumption | apply discardMsg_steady | apply groupWritten_steady | apply dropReq_steady | apply closeBurn_steady | (refine Steady.setBaySame ?_ rfl rfl rfl rfl rfl rfl rfl) | (refine Steady.same ?_ rfl rfl rfl rfl rfl rfl rfl rfl rfl rfl rfl rfl rfl rfl rfl rfl)))

theorem onStarvedLinked_steady (b : BayNo) {s : State}  (h : Steady fw s0 s) :
    Steady fw s0 ((onStarvedLinked b s)) := by
  unfold onStarvedLinked; (try dsimp only); (repeat' split) <;> (iterate 16 (try with_reducible first | assumption | apply State.setDocket_steady | apply giveCause_steady | apply discardMsg_steady | (refine Steady.setBaySame ?_ rfl rfl rfl rfl rfl rfl rfl) | (refine Steady.same ?_ rfl rfl rfl rfl rfl rfl rfl rfl rfl rfl rfl rfl rfl rfl rfl rfl)))

theorem onStarvedFailed_steady (b : BayNo) {s : State}  (h : Steady fw s0 s) :
    Steady fw s0 ((onStarvedFailed b s)) := by
  unfold onStarvedFailed; (try dsimp only); (repeat' split) <;> (iterate 16 (try with_reducible first | assumption | apply withdrawBurn_steady | apply giveCause_steady | apply discardMsg_steady | (refine Steady.setBaySame ?_ rfl rfl rfl rfl rfl rfl rfl) | (refine Steady.same ?_ rfl rfl rfl rfl rfl rfl rfl rfl rfl rfl rfl rfl rfl rfl rfl rfl)))

theorem goodInBay_steady (b : BayNo) (d : DocketNo) {s : State}  (h : Steady fw s0 s) :
    Steady fw s0 ((goodInBay b d s)) := by
  unfold goodInBay; (try dsimp only); (repeat' split) <;> (iterate 16 (try with_reducible first | assumption | apply setDocketState_steady | apply giveGood_steady | apply queueTask_steady | apply setBayState_steady | (refine Steady.setBaySame ?_ rfl rfl rfl rfl rfl rfl rfl) | (refine Steady.same ?_ rfl rfl rfl rfl rfl rfl rfl rfl rfl rfl rfl rfl rfl rfl rfl rfl)))

theorem onClosed_steady (b : BayNo) {s : State}  (h : Steady fw s0 s) :
    Steady fw s0 ((onClosed b s)) := by
  unfold onClosed; (try dsimp only); (repeat' split) <;> (iterate 16 (try with_reducible first | assumption | apply dropReq_steady | apply dropChannel_steady | apply State.updDocket_steady | apply setBayState_steady | apply setDocketState_steady | apply setChannel_steady | apply goodInBay_steady | apply discardMsg_steady | (refine Steady.setBaySame ?_ rfl rfl rfl rfl rfl rfl rfl) | (refine Steady.same ?_ rfl rfl rfl rfl rfl rfl rfl rfl rfl rfl rfl rfl rfl rfl rfl rfl)))

theorem onHalted_steady (b : BayNo) {s : State}  (h : Steady fw s0 s) :
    Steady fw s0 ((onHalted b s)) := by
  unfold onHalted; (try dsimp only); (repeat' split) <;> (iterate 16 (try with_reducible first | assumption | apply dropReq_steady | apply discardMsg_steady | (refine Steady.setBaySame ?_ rfl rfl rfl rfl rfl rfl rfl) | (refine Steady.same ?_ rfl rfl rfl rfl rfl rfl rfl rfl rfl rfl rfl rfl rfl rfl rfl rfl)))

theorem onReadData_steady (b : BayNo) (g : Nat) (data : List Byte) {s : State}  (h : Steady fw s0 s) :
    Steady fw s0 ((onReadData b g data s)) := by
  unfold onReadData; (try dsimp only); (repeat' split) <;> (iterate 16 (try with_reducible first | assumption | apply discardMsg_steady | apply linkError_steady | apply dropReq_steady | apply setChannel_steady | (refine Steady.setBaySame ?_ rfl rfl rfl rfl rfl rfl rfl) | (refine Steady.same ?_ rfl rfl rfl rfl rfl rfl rfl rfl rfl rfl rfl rfl rfl rfl rfl rfl)))

theorem onReadFail_steady (b : BayNo) (g : Nat) {s : State}  (h : Steady fw s0 s) :
    Steady fw s0 ((onReadFail b g s)) := by
  unfold onReadFail; (try dsimp only); (repeat' split) <;> (iterate 16 (try with_reducible first | assumption | apply dropReq_steady | apply setChannel_steady | apply hardUp_steady | apply giveCause_steady | apply discardMsg_steady | (refine Steady.setBaySame ?_ rfl rfl rfl rfl rfl rfl rfl) | (refine Steady.same ?_ rfl rfl rfl rfl rfl rfl rfl rfl rfl rfl rfl rfl rfl rfl rfl rfl)))

theorem onFault_steady (b : BayNo) {s : State}  (h : Steady fw s0 s) :
    Steady fw s0 ((onFault b s)) := by
  unfold onFault; (try dsimp only); (repeat' split) <;> (iterate 16 (try with_reducible first | assumption | apply reportFault_steady | apply hardUp_steady | apply giveCause_steady | apply startReset_steady | (refine Steady.setBaySame ?_ rfl rfl rfl rfl rfl rfl rfl) | (refine Steady.same ?_ rfl rfl rfl rfl rfl rfl rfl rfl rfl rfl rfl rfl rfl rfl rfl rfl)))

theorem openAfterReset_steady (b : BayNo) (p : Purpose) (d : DocketNo) {s : State}  (h : Steady fw s0 s) :
    Steady fw s0 ((openAfterReset b p d s)) := by
  unfold openAfterReset; (try dsimp only); (repeat' split) <;> (iterate 16 (try with_reducible first | assumption | apply toRejectWait_steady | refine sendReq_steady _ _ _ _ ?_ rfl | (refine Steady.setBaySame ?_ rfl rfl rfl rfl rfl rfl rfl) | (refine Steady.same ?_ rfl rfl rfl rfl rfl rfl rfl rfl rfl rfl rfl rfl rfl rfl rfl rfl)))

theorem onResetDone_steady (b : BayNo) {s : State}  (h : Steady fw s0 s) :
    Steady fw s0 ((onResetDone b s)) := by
  unfold onResetDone; (try dsimp only); (repeat' split) <;> (iterate 16 (try with_reducible first | assumption | apply discover_steady | apply dropReq_steady | apply openAfterReset_steady | apply discardMsg_steady | (refine Steady.setBaySame ?_ rfl rfl rfl rfl rfl rfl rfl) | (refine Steady.same ?_ rfl rfl rfl rfl rfl rfl rfl rfl rfl rfl rfl rfl rfl rfl rfl rfl)))

theorem seatDocket_steady (b : BayNo) (d : DocketNo) {s : State}  (h : Steady fw s0 s) :
    Steady fw s0 ((seatDocket b d s)) := by
  unfold seatDocket; (try dsimp only); (repeat' split) <;> (iterate 16 (try with_reducible first | assumption | apply State.updDocket_steady | apply askTrayClose_steady | refine sendReq_steady _ _ _ _ ?_ rfl | apply openAfterReset_steady | (refine Steady.setBaySame ?_ rfl rfl rfl rfl rfl rfl rfl) | (refine Steady.same ?_ rfl rfl rfl rfl rfl rfl rfl rfl rfl rfl rfl rfl rfl rfl rfl rfl)))

theorem goAbsent_steady (b : BayNo) {s : State}  (h : Steady fw s0 s) :
    Steady fw s0 ((goAbsent b s)) := by
  unfold goAbsent; (try dsimp only); (repeat' split) <;> (iterate 16 (try with_reducible first | assumption | apply setBayState_steady | (refine Steady.setBaySame ?_ rfl rfl rfl rfl rfl rfl rfl) | (refine Steady.same ?_ rfl rfl rfl rfl rfl rfl rfl rfl rfl rfl rfl rfl rfl rfl rfl rfl)))

theorem strand_steady (b : BayNo) {s : State}  (h : Steady fw s0 s) :
    Steady fw s0 ((strand b s)) := by
  unfold strand; (try dsimp only); (repeat' split) <;> (iterate 16 (try with_reducible first | assumption | apply goAbsent_steady | apply loseDisc_steady | apply endErrand_steady | (refine Steady.setBaySame ?_ rfl rfl rfl rfl rfl rfl rfl) | (refine Steady.same ?_ rfl rfl rfl rfl rfl rfl rfl rfl rfl rfl rfl rfl rfl rfl rfl rfl)))

theorem resetFailed_steady (b : BayNo) {s : State}  (h : Steady fw s0 s) :
    Steady fw s0 ((resetFailed b s)) := by
  unfold resetFailed; (try dsimp only); (repeat' split) <;> (iterate 16 (try with_reducible first | assumption | apply goAbsent_steady | refine sendReq_steady _ _ _ _ ?_ rfl | (refine Steady.setBaySame ?_ rfl rfl rfl rfl rfl rfl rfl) | (refine Steady.same ?_ rfl rfl rfl rfl rfl rfl rfl rfl rfl rfl rfl rfl rfl rfl rfl rfl)))

theorem afterTimeout_steady (b : BayNo) (o : Outstanding) {s : State}  (h : Steady fw s0 s) :
    Steady fw s0 ((afterTimeout b o s)) := by
  unfold afterTimeout; (try dsimp only); (repeat' split) <;> (iterate 16 (try with_reducible first | assumption | apply resetFailed_steady | apply strand_steady | apply goAbsent_steady | apply startReset_steady | (refine Steady.setBaySame ?_ rfl rfl rfl rfl rfl rfl rfl) | (refine Steady.same ?_ rfl rfl rfl rfl rfl rfl rfl rfl rfl rfl rfl rfl rfl rfl rfl rfl)))

theorem onTimeout_steady (b : BayNo) (q : Request) {s : State}  (h : Steady fw s0 s) :
    Steady fw s0 ((onTimeout b q s)) := by
  unfold onTimeout; (try dsimp only); (repeat' split) <;> (iterate 16 (try with_reducible first | assumption | apply hardUp_steady | apply reportFault_steady | apply dropReq_steady | apply giveCause_steady | apply afterTimeout_steady | (refine Steady.setBaySame ?_ rfl rfl rfl rfl rfl rfl rfl) | (refine Steady.same ?_ rfl rfl rfl rfl rfl rfl rfl rfl rfl rfl rfl rfl rfl rfl rfl rfl)))

theorem signatureAction_steady (b : BayNo) (slot : SlotNo) (j : Job) (g : Nat) (crc : BitVec 32) {s : State}  (h : Steady fw s0 s) :
    Steady fw s0 ((signatureAction b slot j g crc s)) := by
  unfold signatureAction; (try dsimp only); (repeat' split) <;> (iterate 16 (try with_reducible first | assumption | apply recordSignature_steady | apply State.setJob_steady | apply setChannel_steady | (refine Steady.setBaySame ?_ rfl rfl rfl rfl rfl rfl rfl) | (refine Steady.same ?_ rfl rfl rfl rfl rfl rfl rfl rfl rfl rfl rfl rfl rfl rfl rfl rfl)))

theorem completeGroup_steady (b : BayNo) {s : State}  {t : State} (e : completeGroup b s = some t) (h : Steady fw s0 s) :
    Steady fw s0 (t) := by
  revert e; unfold completeGroup; (try dsimp only); (repeat' split) <;> intro e <;> first | (cases e; done) | (cases e; (iterate 16 (try with_reducible first | assumption | apply signatureAction_steady | apply setChannel_steady | (refine Steady.setBaySame ?_ rfl rfl rfl rfl rfl rfl rfl) | (refine Steady.same ?_ rfl rfl rfl rfl rfl rfl rfl rfl rfl rfl rfl rfl rfl rfl rfl rfl))); done)

theorem sendGroup_steady (b : BayNo) {s : State}  {t : State} (e : sendGroup b s = some t) (h : Steady fw s0 s) :
    Steady fw s0 (t) := by
  revert e; unfold sendGroup; (repeat' split) <;> intro e <;> cases e
  rename_i c _ k _ p _
  refine Steady.setBaySame (enterReq_steady b _ _ _ (fun g => absurd rfl (g _)) (fun _ => ?_) h) rfl rfl rfl rfl rfl rfl rfl
  simp only [Burn.sendable, Bool.and_eq_true, decide_eq_true_eq] at k
  exact k.1.2

theorem advanceExtent_steady (b : BayNo) {s : State}  {t : State} (e : advanceExtent b s = some t) (h : Steady fw s0 s) :
    Steady fw s0 (t) := by
  revert e; unfold advanceExtent; (try dsimp only); (repeat' split) <;> intro e <;> first | (cases e; done) | (cases e; (iterate 16 (try with_reducible first | assumption | apply setChannel_steady | (refine Steady.setBaySame ?_ rfl rfl rfl rfl rfl rfl rfl) | (refine Steady.same ?_ rfl rfl rfl rfl rfl rfl rfl rfl rfl rfl rfl rfl rfl rfl rfl rfl))); done)

theorem presentExtent_steady (b : BayNo) {s : State}  {t : State} (e : presentExtent b s = some t) (h : Steady fw s0 s) :
    Steady fw s0 (t) := by
  revert e; unfold presentExtent; (try dsimp only); (repeat' split) <;> intro e <;> first | (cases e; done) | (cases e; (iterate 16 (try with_reducible first | assumption | apply present_steady | apply setChannel_steady | (refine Steady.setBaySame ?_ rfl rfl rfl rfl rfl rfl rfl) | (refine Steady.same ?_ rfl rfl rfl rfl rfl rfl rfl rfl rfl rfl rfl rfl rfl rfl rfl rfl))); done)

theorem askBurnPage_steady (b : BayNo) {s : State}  {t : State} (e : askBurnPage b s = some t) (h : Steady fw s0 s) :
    Steady fw s0 (t) := by
  revert e; unfold askBurnPage; (try dsimp only); (repeat' split) <;> intro e <;> first | (cases e; done) | (cases e; (iterate 16 (try with_reducible first | assumption | apply setChannel_steady | (refine Steady.setBaySame ?_ rfl rfl rfl rfl rfl rfl rfl) | (refine Steady.same ?_ rfl rfl rfl rfl rfl rfl rfl rfl rfl rfl rfl rfl rfl rfl rfl rfl))); done)

theorem cutPiece_steady (b : BayNo) {s : State}  {t : State} (e : cutPiece b s = some t) (h : Steady fw s0 s) :
    Steady fw s0 (t) := by
  revert e; unfold cutPiece; (try dsimp only); (repeat' split) <;> intro e <;> first | (cases e; done) | (cases e; (iterate 16 (try with_reducible first | assumption | apply failJob_steady | apply present_steady | apply setChannel_steady | (refine Steady.setBaySame ?_ rfl rfl rfl rfl rfl rfl rfl) | (refine Steady.same ?_ rfl rfl rfl rfl rfl rfl rfl rfl rfl rfl rfl rfl rfl rfl rfl rfl))); done)

theorem presentCompare_steady (b : BayNo) {s : State}  {t : State} (e : presentCompare b s = some t) (h : Steady fw s0 s) :
    Steady fw s0 (t) := by
  revert e; unfold presentCompare; (try dsimp only); (repeat' split) <;> intro e <;> first | (cases e; done) | (cases e; (iterate 16 (try with_reducible first | assumption | apply present_steady | apply setChannel_steady | (refine Steady.setBaySame ?_ rfl rfl rfl rfl rfl rfl rfl) | (refine Steady.same ?_ rfl rfl rfl rfl rfl rfl rfl rfl rfl rfl rfl rfl rfl rfl rfl rfl))); done)

theorem takeExtent_steady (b : BayNo) (c : Burn) (i : Nat) (record : List Byte) {s : State}  (h : Steady fw s0 s) :
    Steady fw s0 ((takeExtent b c i record s)) := by
  unfold takeExtent; (try dsimp only); (repeat' split) <;> (iterate 16 (try with_reducible first | assumption | apply failJob_steady | apply setChannel_steady | (refine Steady.setBaySame ?_ rfl rfl rfl rfl rfl rfl rfl) | (refine Steady.same ?_ rfl rfl rfl rfl rfl rfl rfl rfl rfl rfl rfl rfl rfl rfl rfl rfl)))

theorem arriveExtent_steady (b : BayNo) (i off : Nat) (data : List Byte) {s : State}  (h : Steady fw s0 s) :
    Steady fw s0 ((arriveExtent b i off data s)) := by
  unfold arriveExtent; (try dsimp only); (repeat' split) <;> (iterate 16 (try with_reducible first | assumption | apply takeExtent_steady | apply setChannel_steady | (refine Steady.setBaySame ?_ rfl rfl rfl rfl rfl rfl rfl) | (refine Steady.same ?_ rfl rfl rfl rfl rfl rfl rfl rfl rfl rfl rfl rfl rfl rfl rfl rfl)))

theorem arriveCompare_steady (b : BayNo) (g : Nat) (data : List Byte) {s : State}  (h : Steady fw s0 s) :
    Steady fw s0 ((arriveCompare b g data s)) := by
  unfold arriveCompare; (try dsimp only); (repeat' split) <;> (iterate 16 (try with_reducible first | assumption | apply setChannel_steady | apply failJob_steady | (refine Steady.setBaySame ?_ rfl rfl rfl rfl rfl rfl rfl) | (refine Steady.same ?_ rfl rfl rfl rfl rfl rfl rfl rfl rfl rfl rfl rfl rfl rfl rfl rfl)))

theorem takeRead_steady (b : BayNo) (c : Verify) {s : State}  (h : Steady fw s0 s) :
    Steady fw s0 ((takeRead b c s)) := by
  unfold takeRead; split
  · exact h
  · exact enterReq_steady b _ _ _ (fun _ g => absurd rfl (g _)) (fun ⟨_, g⟩ => by cases g) (setChannel_steady _ _ h)

theorem issueRead_steady (b : BayNo) {s : State}  {t : State} (e : issueRead b s = some t) (h : Steady fw s0 s) :
    Steady fw s0 (t) := by
  revert e; unfold issueRead; (try dsimp only); (repeat' split) <;> intro e <;> first | (cases e; done) | (cases e; (iterate 16 (try with_reducible first | assumption | apply takeRead_steady | (refine Steady.setBaySame ?_ rfl rfl rfl rfl rfl rfl rfl) | (refine Steady.same ?_ rfl rfl rfl rfl rfl rfl rfl rfl rfl rfl rfl rfl rfl rfl rfl rfl))); done)

theorem presentBlock_steady (b : BayNo) {s : State}  {t : State} (e : presentBlock b s = some t) (h : Steady fw s0 s) :
    Steady fw s0 (t) := by
  revert e; unfold presentBlock; (try dsimp only); (repeat' split) <;> intro e <;> first | (cases e; done) | (cases e; (iterate 16 (try with_reducible first | assumption | apply present_steady | apply setChannel_steady | (refine Steady.setBaySame ?_ rfl rfl rfl rfl rfl rfl rfl) | (refine Steady.same ?_ rfl rfl rfl rfl rfl rfl rfl rfl rfl rfl rfl rfl rfl rfl rfl rfl))); done)

theorem verdictGood_steady (b : BayNo) (d : DocketNo) {s : State}  (h : Steady fw s0 s) :
    Steady fw s0 ((verdictGood b d s)) := by
  unfold verdictGood; (try dsimp only); (repeat' split) <;> (iterate 16 (try with_reducible first | assumption | apply goodInBay_steady | apply dropChannel_steady | (refine Steady.setBaySame ?_ rfl rfl rfl rfl rfl rfl rfl) | (refine Steady.same ?_ rfl rfl rfl rfl rfl rfl rfl rfl rfl rfl rfl rfl rfl rfl rfl rfl)))

theorem compareGroup_steady (b : BayNo) (c : Verify) (j : Job) (crc entry : BitVec 32) {s : State}  (h : Steady fw s0 s) :
    Steady fw s0 ((compareGroup b c j crc entry s)) := by
  unfold compareGroup; (try dsimp only); (repeat' split) <;> (iterate 16 (try with_reducible first | assumption | apply setChannel_steady | apply softUp_steady | apply State.updDocket_steady | apply verdictGood_steady | apply hardUp_steady | apply giveCause_steady | (refine Steady.setBaySame ?_ rfl rfl rfl rfl rfl rfl rfl) | (refine Steady.same ?_ rfl rfl rfl rfl rfl rfl rfl rfl rfl rfl rfl rfl rfl rfl rfl rfl)))

theorem makeCompare_steady (b : BayNo) {s : State}  {t : State} (e : makeCompare b s = some t) (h : Steady fw s0 s) :
    Steady fw s0 (t) := by
  revert e; unfold makeCompare; (try dsimp only); (repeat' split) <;> intro e <;> first | (cases e; done) | (cases e; (iterate 16 (try with_reducible first | assumption | apply compareGroup_steady | (refine Steady.setBaySame ?_ rfl rfl rfl rfl rfl rfl rfl) | (refine Steady.same ?_ rfl rfl rfl rfl rfl rfl rfl rfl rfl rfl rfl rfl rfl rfl rfl rfl))); done)

theorem arriveBlock_steady (b : BayNo) (n off : Nat) (data : List Byte) {s : State}  (h : Steady fw s0 s) :
    Steady fw s0 ((arriveBlock b n off data s)) := by
  unfold arriveBlock; (try dsimp only); (repeat' split) <;> (iterate 16 (try with_reducible first | assumption | apply setChannel_steady | (refine Steady.setBaySame ?_ rfl rfl rfl rfl rfl rfl rfl) | (refine Steady.same ?_ rfl rfl rfl rfl rfl rfl rfl rfl rfl rfl rfl rfl rfl rfl rfl rfl)))

theorem offerPage_steady {s : State}  {t : State} (e : offerPage s = some t) (h : Steady fw s0 s) :
    Steady fw s0 (t) := by
  revert e; unfold offerPage; (try dsimp only); (repeat' split) <;> intro e <;> first | (cases e; done) | (cases e; (iterate 16 (try with_reducible first | assumption | apply setChannel_steady | apply takeRead_steady | (refine Steady.setBaySame ?_ rfl rfl rfl rfl rfl rfl rfl) | (refine Steady.same ?_ rfl rfl rfl rfl rfl rfl rfl rfl rfl rfl rfl rfl rfl rfl rfl rfl))); done)

theorem cutBurst_steady {s : State}  {t : State} (e : cutBurst s = some t) (h : Steady fw s0 s) :
    Steady fw s0 (t) := by
  revert e; unfold cutBurst; (try dsimp only); (repeat' split) <;> intro e <;> first | (cases e; done) | (cases e; (iterate 16 (try with_reducible first | assumption | (refine Steady.setBaySame ?_ rfl rfl rfl rfl rfl rfl rfl) | (refine Steady.same ?_ rfl rfl rfl rfl rfl rfl rfl rfl rfl rfl rfl rfl rfl rfl rfl rfl))); done)

theorem issueFetch_steady (k : FetchNo) (id : LineId) (r : FetchReq) {s : State}  (h : Steady fw s0 s) :
    Steady fw s0 ((issueFetch k id r s)) := by
  unfold issueFetch; (try dsimp only); (repeat' split) <;> (iterate 16 (try with_reducible first | assumption | apply setLine_steady | apply emit_steady | apply setChannel_steady | (refine Steady.setBaySame ?_ rfl rfl rfl rfl rfl rfl rfl) | (refine Steady.same ?_ rfl rfl rfl rfl rfl rfl rfl rfl rfl rfl rfl rfl rfl rfl rfl rfl)))

theorem grantBurn_steady (k : FetchNo) {s : State}  {t : State} (e : grantBurn k s = some t) (h : Steady fw s0 s) :
    Steady fw s0 (t) := by
  revert e; unfold grantBurn; (try dsimp only); (repeat' split) <;> intro e <;> first | (cases e; done) | (cases e; (iterate 16 (try with_reducible first | assumption | apply issueFetch_steady | (refine Steady.setBaySame ?_ rfl rfl rfl rfl rfl rfl rfl) | (refine Steady.same ?_ rfl rfl rfl rfl rfl rfl rfl rfl rfl rfl rfl rfl rfl rfl rfl rfl))); done)

theorem grantFetch_steady {s : State}  {t : State} (e : grantFetch s = some t) (h : Steady fw s0 s) :
    Steady fw s0 (t) := by
  revert e; unfold grantFetch; (repeat' split) <;> intro e <;> first | (cases e; done) | (cases e; (iterate 16 (try with_reducible first | assumption | apply issueFetch_steady | (refine Steady.setBaySame ?_ rfl rfl rfl rfl rfl rfl rfl) | (refine Steady.same ?_ rfl rfl rfl rfl rfl rfl rfl rfl rfl rfl rfl rfl rfl rfl rfl rfl))); done) | (rename_i hb; cases e; exact grantBurn_steady _ hb h) | (simp at e; obtain ⟨_, _, _, e⟩ := e; subst e; exact issueFetch_steady _ _ _ h)

theorem setPrinterRec_steady (p : Printer) {s : State} (same : p.position = s.printer.position) (h : Steady fw s0 s) :
    Steady fw s0 ((setPrinterRec p s)) := by
  exact Steady.same h rfl rfl rfl rfl rfl rfl rfl rfl rfl rfl rfl same rfl rfl rfl rfl

theorem updPrint_steady (d : Option DocketNo) (f : PrintCounters → PrintCounters) {s : State}  (h : Steady fw s0 s) :
    Steady fw s0 ((updPrint d f s)) := by
  unfold updPrint; (try dsimp only); (repeat' split) <;> (iterate 16 (try with_reducible first | assumption | apply State.updDocket_steady | (refine Steady.setBaySame ?_ rfl rfl rfl rfl rfl rfl rfl) | (refine Steady.same ?_ rfl rfl rfl rfl rfl rfl rfl rfl rfl rfl rfl rfl rfl rfl rfl rfl)))

theorem presentBand_steady {s : State}  {t : State} (e : presentBand s = some t) (h : Steady fw s0 s) :
    Steady fw s0 (t) := by
  revert e; unfold presentBand; (try dsimp only); (repeat' split) <;> intro e <;> first | (cases e; done) | (cases e; (iterate 16 (try with_reducible first | assumption | apply present_steady | (refine setPrinterRec_steady _ rfl ?_) | (refine Steady.setBaySame ?_ rfl rfl rfl rfl rfl rfl rfl) | (refine Steady.same ?_ rfl rfl rfl rfl rfl rfl rfl rfl rfl rfl rfl rfl rfl rfl rfl rfl))); done)

theorem endLoad_steady {s : State}  (h : Steady fw s0 s) :
    Steady fw s0 ((endLoad s)) := by
  unfold endLoad; (try dsimp only); (repeat' split) <;> (iterate 16 (try with_reducible first | assumption | apply setLine_steady | (refine Steady.setBaySame ?_ rfl rfl rfl rfl rfl rfl rfl) | (refine Steady.same ?_ rfl rfl rfl rfl rfl rfl rfl rfl rfl rfl rfl rfl rfl rfl rfl rfl)))

theorem staleBand_steady {s : State}  (h : Steady fw s0 s) :
    Steady fw s0 ((staleBand s)) := by
  unfold staleBand; (try dsimp only); (repeat' split) <;> (iterate 16 (try with_reducible first | assumption | (refine Steady.setBaySame ?_ rfl rfl rfl rfl rfl rfl rfl) | (refine Steady.same ?_ rfl rfl rfl rfl rfl rfl rfl rfl rfl rfl rfl rfl rfl rfl rfl rfl)))

theorem enterSpindown_steady {s : State}  (h : Steady fw s0 s) :
    Steady fw s0 ((enterSpindown s)) := by
  unfold enterSpindown; (try dsimp only); (repeat' split) <;> (iterate 16 (try with_reducible first | assumption | apply setPrinter_steady | (refine Steady.setBaySame ?_ rfl rfl rfl rfl rfl rfl rfl) | (refine Steady.same ?_ rfl rfl rfl rfl rfl rfl rfl rfl rfl rfl rfl rfl rfl rfl rfl rfl)))

theorem abortPrint_steady (cause : Cause) (code : Option FaultCode) {s : State}  (h : Steady fw s0 s) :
    Steady fw s0 ((abortPrint cause code s)) := by
  unfold abortPrint; (try dsimp only); (repeat' split) <;> (iterate 16 (try with_reducible first | assumption | apply reportFault_steady | apply giveCause_steady | apply staleBand_steady | apply endLoad_steady | apply enterSpindown_steady | apply queueTask_steady | apply State.updDocket_steady | (refine Steady.setBaySame ?_ rfl rfl rfl rfl rfl rfl rfl) | (refine Steady.same ?_ rfl rfl rfl rfl rfl rfl rfl rfl rfl rfl rfl rfl rfl rfl rfl rfl)))

theorem takeRecord_steady (bytes : List Byte) {s : State}  (h : Steady fw s0 s) :
    Steady fw s0 ((takeRecord bytes s)) := by
  unfold takeRecord; (try dsimp only); (repeat' split) <;> (iterate 16 (try with_reducible first | assumption | apply abortPrint_steady | (refine Steady.setBaySame ?_ rfl rfl rfl rfl rfl rfl rfl) | (refine Steady.same ?_ rfl rfl rfl rfl rfl rfl rfl rfl rfl rfl rfl rfl rfl rfl rfl rfl)))

theorem arriveBand_steady (part : BandPart) (off : Nat) (data : List Byte) {s : State}  (h : Steady fw s0 s) :
    Steady fw s0 ((arriveBand part off data s)) := by
  unfold arriveBand; (try dsimp only); (repeat' split) <;> (iterate 16 (try with_reducible first | assumption | apply takeRecord_steady | (refine Steady.setBaySame ?_ rfl rfl rfl rfl rfl rfl rfl) | (refine Steady.same ?_ rfl rfl rfl rfl rfl rfl rfl rfl rfl rfl rfl rfl rfl rfl rfl rfl)))

theorem startCarriage_steady {s : State}  {t : State} (e : startCarriage s = some t) (h : Steady fw s0 s) :
    Steady fw s0 (t) := by
  revert e; unfold startCarriage; (try dsimp only); (repeat' split) <;> intro e <;> first | (cases e; done) | (cases e; (iterate 16 (try with_reducible first | assumption | (refine Steady.setBaySame ?_ rfl rfl rfl rfl rfl rfl rfl) | (refine Steady.same ?_ rfl rfl rfl rfl rfl rfl rfl rfl rfl rfl rfl rfl rfl rfl rfl rfl))); done)

theorem laneDue_steady (e i : Nat) (t : PrintTime) (lane : LaneNo) {s : State}  (h : Steady fw s0 s) :
    Steady fw s0 ((laneDue e i t lane s)) := by
  unfold laneDue; (try dsimp only); (repeat' split) <;> (iterate 16 (try with_reducible first | assumption | apply updPrint_steady | (refine Steady.setBaySame ?_ rfl rfl rfl rfl rfl rfl rfl) | (refine Steady.same ?_ rfl rfl rfl rfl rfl rfl rfl rfl rfl rfl rfl rfl rfl rfl rfl rfl)))

theorem takeAllDue_steady (e i : Nat) (t : PrintTime) {s : State}  (h : Steady fw s0 s) :
    Steady fw s0 ((takeAllDue e i t s)) := by
  exact Steady.foldl _ (fun u l k => laneDue_steady _ _ _ _ k) _ h

theorem clipAll_steady (e : Nat) (t : PrintTime) {s : State}  (h : Steady fw s0 s) :
    Steady fw s0 ((clipAll e t s)) := by
  unfold clipAll; (try dsimp only); (repeat' split) <;> (iterate 16 (try with_reducible first | assumption | apply updPrint_steady | (refine Steady.setBaySame ?_ rfl rfl rfl rfl rfl rfl rfl) | (refine Steady.same ?_ rfl rfl rfl rfl rfl rfl rfl rfl rfl rfl rfl rfl rfl rfl rfl rfl)))

theorem fireDot_steady (lane : LaneNo) {s : State}  (h : Steady fw s0 s) :
    Steady fw s0 ((fireDot lane s)) := by
  unfold fireDot; (try dsimp only); (repeat' split) <;> (iterate 16 (try with_reducible first | assumption | apply updPrint_steady | (refine Steady.setBaySame ?_ rfl rfl rfl rfl rfl rfl rfl) | (refine Steady.same ?_ rfl rfl rfl rfl rfl rfl rfl rfl rfl rfl rfl rfl rfl rfl rfl rfl)))

theorem endRecovery_steady (lane : LaneNo) {s : State}  (h : Steady fw s0 s) :
    Steady fw s0 ((endRecovery lane s)) := by
  unfold endRecovery; (try dsimp only); (repeat' split) <;> (iterate 16 (try with_reducible first | assumption | (refine Steady.setBaySame ?_ rfl rfl rfl rfl rfl rfl rfl) | (refine Steady.same ?_ rfl rfl rfl rfl rfl rfl rfl rfl rfl rfl rfl rfl rfl rfl rfl rfl)))

theorem takeDisc_steady (d : DocketNo) {s : State}  (h : Steady fw s0 s) :
    Steady fw s0 ((takeDisc d s)) := by
  unfold takeDisc; (try dsimp only); (repeat' split) <;> (iterate 16 (try with_reducible first | assumption | apply State.updDocket_steady | apply setPrinter_steady | (refine setPrinterRec_steady _ rfl ?_) | (refine Steady.setBaySame ?_ rfl rfl rfl rfl rfl rfl rfl) | (refine Steady.same ?_ rfl rfl rfl rfl rfl rfl rfl rfl rfl rfl rfl rfl rfl rfl rfl rfl)))

theorem enterSpinup_steady {s : State}  (h : Steady fw s0 s) :
    Steady fw s0 ((enterSpinup s)) := by
  unfold enterSpinup; (try dsimp only); (repeat' split) <;> (iterate 16 (try with_reducible first | assumption | apply setPrinter_steady | (refine Steady.setBaySame ?_ rfl rfl rfl rfl rfl rfl rfl) | (refine Steady.same ?_ rfl rfl rfl rfl rfl rfl rfl rfl rfl rfl rfl rfl rfl rfl rfl rfl)))

theorem enterSettling_steady (breached : Bool) {s : State}  (h : Steady fw s0 s) :
    Steady fw s0 ((enterSettling breached s)) := by
  unfold enterSettling; (try dsimp only); (repeat' split) <;> (iterate 16 (try with_reducible first | assumption | apply setPrinter_steady | (refine Steady.setBaySame ?_ rfl rfl rfl rfl rfl rfl rfl) | (refine Steady.same ?_ rfl rfl rfl rfl rfl rfl rfl rfl rfl rfl rfl rfl rfl rfl rfl rfl)))

theorem slip_steady {s : State}  (h : Steady fw s0 s) :
    Steady fw s0 ((slip s)) := by
  unfold slip; (try dsimp only); (repeat' split) <;> (iterate 16 (try with_reducible first | assumption | apply updPrint_steady | apply abortPrint_steady | (refine Steady.setBaySame ?_ rfl rfl rfl rfl rfl rfl rfl) | (refine Steady.same ?_ rfl rfl rfl rfl rfl rfl rfl rfl rfl rfl rfl rfl rfl rfl rfl rfl)))

theorem startBand_steady (r : BandRecord) (i : Nat) (t : PrintTime) {s : State}  (h : Steady fw s0 s) :
    Steady fw s0 ((startBand r i t s)) := by
  unfold startBand; (try dsimp only); (repeat' split) <;> (iterate 16 (try with_reducible first | assumption | apply takeAllDue_steady | apply setPrinter_steady | (refine setPrinterRec_steady _ rfl ?_) | (refine Steady.setBaySame ?_ rfl rfl rfl rfl rfl rfl rfl) | (refine Steady.same ?_ rfl rfl rfl rfl rfl rfl rfl rfl rfl rfl rfl rfl rfl rfl rfl rfl)))

theorem testBand_steady (i : Nat) (t : PrintTime) {s : State}  (h : Steady fw s0 s) :
    Steady fw s0 ((testBand i t s)) := by
  unfold testBand; (try dsimp only); (repeat' split) <;> (iterate 16 (try with_reducible first | assumption | apply slip_steady | apply startBand_steady | (refine Steady.setBaySame ?_ rfl rfl rfl rfl rfl rfl rfl) | (refine Steady.same ?_ rfl rfl rfl rfl rfl rfl rfl rfl rfl rfl rfl rfl rfl rfl rfl rfl)))

theorem completeLabel_steady {s : State}  (h : Steady fw s0 s) :
    Steady fw s0 ((completeLabel s)) := by
  unfold completeLabel; (try dsimp only); (repeat' split) <;> (iterate 16 (try with_reducible first | assumption | apply enterSpindown_steady | apply queueTask_steady | apply setDocketState_steady | (refine Steady.setBaySame ?_ rfl rfl rfl rfl rfl rfl rfl) | (refine Steady.same ?_ rfl rfl rfl rfl rfl rfl rfl rfl rfl rfl rfl rfl rfl rfl rfl rfl)))

theorem endRevolution_steady (i : Nat) (t : PrintTime) {s : State}  (h : Steady fw s0 s) :
    Steady fw s0 ((endRevolution i t s)) := by
  unfold endRevolution; (try dsimp only); (repeat' split) <;> (iterate 16 (try with_reducible first | assumption | apply updPrint_steady | apply completeLabel_steady | apply testBand_steady | apply setPrinter_steady | (refine Steady.setBaySame ?_ rfl rfl rfl rfl rfl rfl rfl) | (refine Steady.same ?_ rfl rfl rfl rfl rfl rfl rfl rfl rfl rfl rfl rfl rfl rfl rfl rfl)))

theorem breach_steady (atIndex : Bool) {s : State}  (h : Steady fw s0 s) :
    Steady fw s0 ((breach atIndex s)) := by
  unfold breach; (try dsimp only); (repeat' split) <;> (iterate 16 (try with_reducible first | assumption | apply enterSettling_steady | apply abortPrint_steady | (refine Steady.setBaySame ?_ rfl rfl rfl rfl rfl rfl rfl) | (refine Steady.same ?_ rfl rfl rfl rfl rfl rfl rfl rfl rfl rfl rfl rfl rfl rfl rfl rfl)))

theorem onEdge_steady (t : PrintTime) {s : State}  (h : Steady fw s0 s) :
    Steady fw s0 ((onEdge t s)) := by
  unfold onEdge; (try dsimp only); (repeat' split) <;> (iterate 16 (try with_reducible first | assumption | (refine setPrinterRec_steady _ rfl ?_) | apply breach_steady | apply takeAllDue_steady | apply clipAll_steady | (refine Steady.setBaySame ?_ rfl rfl rfl rfl rfl rfl rfl) | (refine Steady.same ?_ rfl rfl rfl rfl rfl rfl rfl rfl rfl rfl rfl rfl rfl rfl rfl rfl)))

theorem onIndex_steady (t : PrintTime) {s : State}  (h : Steady fw s0 s) :
    Steady fw s0 ((onIndex t s)) := by
  unfold onIndex; (try dsimp only); (repeat' split) <;> (iterate 16 (try with_reducible first | assumption | (refine setPrinterRec_steady _ rfl ?_) | apply enterSettling_steady | apply breach_steady | apply testBand_steady | apply setPrinter_steady | apply endRevolution_steady | (refine Steady.setBaySame ?_ rfl rfl rfl rfl rfl rfl rfl) | (refine Steady.same ?_ rfl rfl rfl rfl rfl rfl rfl rfl rfl rfl rfl rfl rfl rfl rfl rfl)))

theorem printerEmpties_steady {s : State}  {t : State} (e : printerEmpties s = some t) (h : Steady fw s0 s) :
    Steady fw s0 (t) := by
  revert e; unfold printerEmpties; (try dsimp only); (repeat' split) <;> intro e <;> first | (cases e; done) | (cases e; (iterate 16 (try with_reducible first | assumption | apply setPrinter_steady | (refine Steady.setBaySame ?_ rfl rfl rfl rfl rfl rfl rfl) | (refine Steady.same ?_ rfl rfl rfl rfl rfl rfl rfl rfl rfl rfl rfl rfl rfl rfl rfl rfl))); done)

theorem trayOn_steady {s : State}  (h : Steady fw s0 s) :
    Steady fw s0 ((trayOn s)) := by
  unfold trayOn; (try dsimp only); (repeat' split) <;> (iterate 16 (try with_reducible first | assumption | apply setPrinter_steady | apply reportFault_steady | (refine Steady.setBaySame ?_ rfl rfl rfl rfl rfl rfl rfl) | (refine Steady.same ?_ rfl rfl rfl rfl rfl rfl rfl rfl rfl rfl rfl rfl rfl rfl rfl rfl)))

theorem trayOff_steady {s : State}  (h : Steady fw s0 s) :
    Steady fw s0 ((trayOff s)) := by
  unfold trayOff; (try dsimp only); (repeat' split) <;> (iterate 16 (try with_reducible first | assumption | apply reportFault_steady | (refine Steady.setBaySame ?_ rfl rfl rfl rfl rfl rfl rfl) | (refine Steady.same ?_ rfl rfl rfl rfl rfl rfl rfl rfl rfl rfl rfl rfl rfl rfl rfl rfl)))

theorem resetPrinter_steady {s : State}  (h : Steady fw s0 s) :
    Steady fw s0 ((resetPrinter s)) := by
  unfold resetPrinter; (try dsimp only); (repeat' split) <;> (iterate 16 (try with_reducible first | assumption | apply orphanLine_steady | apply endLoad_steady | apply enterSpindown_steady | apply setPrinter_steady | (refine Steady.setBaySame ?_ rfl rfl rfl rfl rfl rfl rfl) | (refine Steady.same ?_ rfl rfl rfl rfl rfl rfl rfl rfl rfl rfl rfl rfl rfl rfl rfl rfl)))

theorem askAt_steady (st : Station) (p : Purpose) {s : State}  (h : Steady fw s0 s) :
    Steady fw s0 ((askAt st p s)) := by
  unfold askAt; (try dsimp only); (repeat' split) <;> (iterate 16 (try with_reducible first | assumption | apply askTrayOpen_steady | (refine Steady.setBaySame ?_ rfl rfl rfl rfl rfl rfl rfl) | (refine Steady.same ?_ rfl rfl rfl rfl rfl rfl rfl rfl rfl rfl rfl rfl rfl rfl rfl rfl)))

theorem closeAt_steady (st : Station) {s : State}  (h : Steady fw s0 s) :
    Steady fw s0 ((closeAt st s)) := by
  unfold closeAt; (try dsimp only); (repeat' split) <;> (iterate 16 (try with_reducible first | assumption | apply askTrayClose_steady | (refine Steady.setBaySame ?_ rfl rfl rfl rfl rfl rfl rfl) | (refine Steady.same ?_ rfl rfl rfl rfl rfl rfl rfl rfl rfl rfl rfl rfl rfl rfl rfl rfl)))

theorem grantTask_steady (t : Task) {s : State}  (h : Steady fw s0 s) :
    Steady fw s0 ((grantTask t s)) := by
  unfold grantTask; (try dsimp only); (repeat' split) <;> (iterate 16 (try with_reducible first | assumption | apply unqueueTask_steady | apply dissolve_steady | apply setErrand_steady | apply setTransport_steady | apply beginLeg_steady | apply askAt_steady | (refine Steady.setBaySame ?_ rfl rfl rfl rfl rfl rfl rfl) | (refine Steady.same ?_ rfl rfl rfl rfl rfl rfl rfl rfl rfl rfl rfl rfl rfl rfl rfl rfl)))

theorem grant_steady {s : State}  {t : State} (e : grant s = some t) (h : Steady fw s0 s) :
    Steady fw s0 (t) := by
  unfold grant at e; split at e
  · simp at e; obtain ⟨u, -, rfl⟩ := e; exact grantTask_steady _ h
  · cases e

theorem driveSwing_steady (side : Side) {s : State}  (h : Steady fw s0 s) :
    Steady fw s0 ((driveSwing side s)) := by
  unfold driveSwing; (try dsimp only); (repeat' split) <;> (iterate 16 (try with_reducible first | assumption | (refine Steady.setBaySame ?_ rfl rfl rfl rfl rfl rfl rfl) | (refine Steady.same ?_ rfl rfl rfl rfl rfl rfl rfl rfl rfl rfl rfl rfl rfl rfl rfl rfl)))

theorem stopSwing_steady {s : State}  (h : Steady fw s0 s) :
    Steady fw s0 ((stopSwing s)) := by
  unfold stopSwing; (try dsimp only); (repeat' split) <;> (iterate 16 (try with_reducible first | assumption | (refine Steady.setBaySame ?_ rfl rfl rfl rfl rfl rfl rfl) | (refine Steady.same ?_ rfl rfl rfl rfl rfl rfl rfl rfl rfl rfl rfl rfl rfl rfl rfl rfl)))

theorem dropFault_steady (place : Option Place) {s : State}  (h : Steady fw s0 s) :
    Steady fw s0 ((dropFault place s)) := by
  unfold dropFault; (try dsimp only); (repeat' split) <;> (iterate 16 (try with_reducible first | assumption | apply transportFault_steady | apply haltTransport_steady | apply loseDisc_steady | apply stopMotors_steady | (refine Steady.setBaySame ?_ rfl rfl rfl rfl rfl rfl rfl) | (refine Steady.same ?_ rfl rfl rfl rfl rfl rfl rfl rfl rfl rfl rfl rfl rfl rfl rfl rfl)))

theorem pickEmpty_steady (i : InputBin) {s : State}  (h : Steady fw s0 s) :
    Steady fw s0 ((pickEmpty i s)) := by
  unfold pickEmpty; (try dsimp only); (repeat' split) <;> (iterate 16 (try with_reducible first | assumption | apply setInput_steady | apply dissolve_steady | apply endErrand_steady | (refine Steady.setBaySame ?_ rfl rfl rfl rfl rfl rfl rfl) | (refine Steady.same ?_ rfl rfl rfl rfl rfl rfl rfl rfl rfl rfl rfl rfl rfl rfl rfl rfl)))

theorem startDescent_steady (i : InputBin) {s : State}  (h : Steady fw s0 s) :
    Steady fw s0 ((startDescent i s)) := by
  unfold startDescent; (try dsimp only); (repeat' split) <;> (iterate 16 (try with_reducible first | assumption | apply setPhase_steady | apply setLift_steady | (refine Steady.setBaySame ?_ rfl rfl rfl rfl rfl rfl rfl) | (refine Steady.same ?_ rfl rfl rfl rfl rfl rfl rfl rfl rfl rfl rfl rfl rfl rfl rfl rfl)))

theorem readStack_steady (i : InputBin) {s : State} (h : Steady fw s0 s) :
    Steady fw s0 (readStack i s) := by
  unfold readStack; (try dsimp only); (repeat' split) <;> (iterate 16 (try with_reducible first | assumption | apply startDescent_steady | apply pickEmpty_steady | (refine Steady.setBaySame ?_ rfl rfl rfl rfl rfl rfl rfl) | (refine Steady.same ?_ rfl rfl rfl rfl rfl rfl rfl rfl rfl rfl rfl rfl rfl rfl rfl rfl)))

theorem readyPick_steady {s : State}  {t : State} (e : readyPick s = some t) (h : Steady fw s0 s) :
    Steady fw s0 (t) := by
  revert e; unfold readyPick; (try dsimp only); (repeat' split) <;> intro e <;> first | (cases e; done) | (cases e; (iterate 16 (try with_reducible first | assumption | apply readStack_steady | apply setPhase_steady | apply startGripper_steady | (refine Steady.setBaySame ?_ rfl rfl rfl rfl rfl rfl rfl) | (refine Steady.same ?_ rfl rfl rfl rfl rfl rfl rfl rfl rfl rfl rfl rfl rfl rfl rfl rfl))); done)

theorem readyPlace_steady {s : State}  {t : State} (e : readyPlace s = some t) (h : Steady fw s0 s) :
    Steady fw s0 (t) := by
  revert e; unfold readyPlace; (try dsimp only); (repeat' split) <;> intro e <;> first | (cases e; done) | (cases e; (iterate 16 (try with_reducible first | assumption | apply setPhase_steady | apply startGripper_steady | (refine Steady.setBaySame ?_ rfl rfl rfl rfl rfl rfl rfl) | (refine Steady.same ?_ rfl rfl rfl rfl rfl rfl rfl rfl rfl rfl rfl rfl rfl rfl rfl rfl))); done)

theorem resumeErrand_steady (p : Purpose) (e : Errand) {s : State}  (h : Steady fw s0 s) :
    Steady fw s0 ((resumeErrand p e s)) := by
  unfold resumeErrand; (try dsimp only); (repeat' split) <;> (iterate 16 (try with_reducible first | assumption | apply beginLeg_steady | apply askAt_steady | (refine Steady.setBaySame ?_ rfl rfl rfl rfl rfl rfl rfl) | (refine Steady.same ?_ rfl rfl rfl rfl rfl rfl rfl rfl rfl rfl rfl rfl rfl rfl rfl rfl)))

theorem resumeTask_steady (t : Task) (e : Errand) {s : State}  (h : Steady fw s0 s) :
    Steady fw s0 ((resumeTask t e s)) := by
  unfold resumeTask; (try dsimp only); (repeat' split) <;> (iterate 16 (try with_reducible first | assumption | apply setTransport_steady | apply loseDisc_steady | apply resumeErrand_steady | (refine Steady.setBaySame ?_ rfl rfl rfl rfl rfl rfl rfl) | (refine Steady.same ?_ rfl rfl rfl rfl rfl rfl rfl rfl rfl rfl rfl rfl rfl rfl rfl rfl)))

theorem resumeSweep_steady {s : State}  (h : Steady fw s0 s) :
    Steady fw s0 ((resumeSweep s)) := by
  unfold resumeSweep; (try dsimp only); (repeat' split) <;> (iterate 16 (try with_reducible first | assumption | apply setTransport_steady | apply endErrand_steady | apply resumeErrand_steady | (refine Steady.setBaySame ?_ rfl rfl rfl rfl rfl rfl rfl) | (refine Steady.same ?_ rfl rfl rfl rfl rfl rfl rfl rfl rfl rfl rfl rfl rfl rfl rfl rfl)))

theorem enterDiscovering_steady {s : State}  (h : Steady fw s0 s) :
    Steady fw s0 ((enterDiscovering s)) := by
  unfold enterDiscovering; refine Steady.foldl _ (fun u b k => ?_) _ (setTower_steady _ h); split
  · exact discover_steady _ _ k
  · exact k

theorem trustCount_steady {s : State} (h : Steady fw s0 s) :
    Steady fw s0 (trustCount s) := by
  unfold trustCount; (try dsimp only); (repeat' split) <;> (iterate 16 (try with_reducible first | assumption | apply setLift_steady | (refine Steady.setBaySame ?_ rfl rfl rfl rfl rfl rfl rfl) | (refine Steady.same ?_ rfl rfl rfl rfl rfl rfl rfl rfl rfl rfl rfl rfl rfl rfl rfl rfl)))

theorem finishHoming_steady {s : State}  (h : Steady fw s0 s) :
    Steady fw s0 ((finishHoming s)) := by
  unfold finishHoming; (try dsimp only); (repeat' split) <;> (iterate 16 (try with_reducible first | assumption | apply setPhase_steady | apply trustCount_steady | apply resumeTask_steady | apply setTower_steady | apply setTransport_steady | apply enterDiscovering_steady | apply resumeSweep_steady | (refine Steady.setBaySame ?_ rfl rfl rfl rfl rfl rfl rfl) | (refine Steady.same ?_ rfl rfl rfl rfl rfl rfl rfl rfl rfl rfl rfl rfl rfl rfl rfl rfl)))

theorem homeReached_steady {s : State}  (h : Steady fw s0 s) :
    Steady fw s0 ((homeReached s)) := by
  unfold homeReached; (try dsimp only); (repeat' split) <;> (iterate 16 (try with_reducible first | assumption | apply setPhase_steady | apply setLift_steady | (refine Steady.setBaySame ?_ rfl rfl rfl rfl rfl rfl rfl) | (refine Steady.same ?_ rfl rfl rfl rfl rfl rfl rfl rfl rfl rfl rfl rfl rfl rfl rfl rfl)))

theorem homeDownFrom_steady {s : State}  (h : Steady fw s0 s) :
    Steady fw s0 ((homeDownFrom s)) := by
  unfold homeDownFrom; (try dsimp only); (repeat' split) <;> (iterate 16 (try with_reducible first | assumption | apply setPhase_steady | apply setLift_steady | (refine Steady.setBaySame ?_ rfl rfl rfl rfl rfl rfl rfl) | (refine Steady.same ?_ rfl rfl rfl rfl rfl rfl rfl rfl rfl rfl rfl rfl rfl rfl rfl rfl)))

theorem placedAtPrinter_steady {s : State}  (h : Steady fw s0 s) :
    Steady fw s0 ((placedAtPrinter s)) := by
  unfold placedAtPrinter; (try dsimp only); (repeat' split) <;> (iterate 16 (try with_reducible first | assumption | apply endErrand_steady | apply takeDisc_steady | (refine Steady.setBaySame ?_ rfl rfl rfl rfl rfl rfl rfl) | (refine Steady.same ?_ rfl rfl rfl rfl rfl rfl rfl rfl rfl rfl rfl rfl rfl rfl rfl rfl)))

theorem turnStep_steady {s t : State} (side : Side) (done : State → State) (e : turnStep side done s = some t)
    (k : ∀ u : State, Steady fw s0 u → Steady fw s0 (done u)) (h : Steady fw s0 s) : Steady fw s0 t := by
  unfold turnStep at e; split at e
  · injection e with e; subst e; exact k _ (stopSwing_steady h)
  · split at e
    · cases e
    · injection e with e; subst e; exact driveSwing_steady _ h

theorem armStep_steady {s : State}  {t : State} (e : armStep s = some t) (h : Steady fw s0 s) :
    Steady fw s0 (t) := by
  unfold armStep at e; split at e
  · split at e <;> (try split at e) <;> (try split at e) <;> first | (cases e; done) | (cases e; (iterate 16 (try with_reducible first | assumption | apply homeDownFrom_steady | apply homeReached_steady | apply finishHoming_steady | apply beginLeg_steady | apply setPhase_steady | apply startGripper_steady | apply stopLift_steady | apply pickEmpty_steady | apply endErrand_steady | apply placedAtPrinter_steady | (refine Steady.setBaySame ?_ rfl rfl rfl rfl rfl rfl rfl) | (refine Steady.same ?_ rfl rfl rfl rfl rfl rfl rfl rfl rfl rfl rfl rfl rfl rfl rfl rfl))); done) | exact readyPick_steady e h | exact readyPlace_steady e h | exact turnStep_steady _ _ e (fun _ k => finishHoming_steady k) h | exact turnStep_steady _ _ e (fun _ k => setPhase_steady _ k) h | (simp only [Option.map_eq_some_iff] at e; obtain ⟨_, _, e⟩ := e; subst e; first | exact pickEmpty_steady _ h | exact readStack_steady _ h)
  · cases e

theorem settleLift_steady {s : State}  (h : Steady fw s0 s) :
    Steady fw s0 ((settleLift s)) := by
  unfold settleLift; (try dsimp only); (repeat' split) <;> (iterate 16 (try with_reducible first | assumption | apply stopLift_steady | apply transportFault_steady | apply setLift_steady | (refine Steady.setBaySame ?_ rfl rfl rfl rfl rfl rfl rfl) | (refine Steady.same ?_ rfl rfl rfl rfl rfl rfl rfl rfl rfl rfl rfl rfl rfl rfl rfl rfl)))

theorem pickSuccess_steady (t : Task) {s : State}  (h : Steady fw s0 s) :
    Steady fw s0 ((pickSuccess t s)) := by
  unfold pickSuccess; (try dsimp only); (repeat' split) <;> (iterate 16 (try with_reducible first | assumption | apply State.setDocket_steady | apply State.setJob_steady | (refine Steady.setBaySame ?_ rfl rfl rfl rfl rfl rfl rfl) | (refine Steady.same ?_ rfl rfl rfl rfl rfl rfl rfl rfl rfl rfl rfl rfl rfl rfl rfl rfl)))

theorem gripOut_steady (t : Task) {s : State}  (h : Steady fw s0 s) :
    Steady fw s0 ((gripOut t s)) := by
  unfold gripOut; (try dsimp only); (repeat' split) <;> (iterate 16 (try with_reducible first | assumption | apply State.updDocket_steady | apply askTrayClose_steady | (refine Steady.setBaySame ?_ rfl rfl rfl rfl rfl rfl rfl) | (refine Steady.same ?_ rfl rfl rfl rfl rfl rfl rfl rfl rfl rfl rfl rfl rfl rfl rfl rfl)))

theorem markHeld_steady {s : State}  (h : Steady fw s0 s) :
    Steady fw s0 ((markHeld s)) := by
  unfold markHeld; (try dsimp only); (repeat' split) <;> (iterate 16 (try with_reducible first | assumption | apply setErrand_steady | (refine Steady.setBaySame ?_ rfl rfl rfl rfl rfl rfl rfl) | (refine Steady.same ?_ rfl rfl rfl rfl rfl rfl rfl rfl rfl rfl rfl rfl rfl rfl rfl rfl)))

theorem gripHold_steady {s : State}  (h : Steady fw s0 s) :
    Steady fw s0 ((gripHold s)) := by
  unfold gripHold; (try dsimp only); (repeat' split) <;> (iterate 16 (try with_reducible first | assumption | apply markHeld_steady | apply startMove_steady | apply setPhase_steady | apply pickSuccess_steady | apply beginLeg_steady | apply gripOut_steady | apply closeAt_steady | (refine Steady.setBaySame ?_ rfl rfl rfl rfl rfl rfl rfl) | (refine Steady.same ?_ rfl rfl rfl rfl rfl rfl rfl rfl rfl rfl rfl rfl rfl rfl rfl rfl)))

theorem missDrop_steady (t : Task) {s : State}  (h : Steady fw s0 s) :
    Steady fw s0 ((missDrop t s)) := by
  unfold missDrop; (try dsimp only); (repeat' split) <;> (iterate 16 (try with_reducible first | assumption | apply askTrayClose_steady | apply dropFault_steady | (refine Steady.setBaySame ?_ rfl rfl rfl rfl rfl rfl rfl) | (refine Steady.same ?_ rfl rfl rfl rfl rfl rfl rfl rfl rfl rfl rfl rfl rfl rfl rfl rfl)))

theorem gripMiss_steady {s : State}  (h : Steady fw s0 s) :
    Steady fw s0 ((gripMiss s)) := by
  unfold gripMiss; (try dsimp only); (repeat' split) <;> (iterate 16 (try with_reducible first | assumption | apply setPhase_steady | apply startGripper_steady | apply setErrand_steady | apply pickEmpty_steady | apply missDrop_steady | apply endErrand_steady | apply closeAt_steady | (refine Steady.setBaySame ?_ rfl rfl rfl rfl rfl rfl rfl) | (refine Steady.same ?_ rfl rfl rfl rfl rfl rfl rfl rfl rfl rfl rfl rfl rfl rfl rfl rfl)))

theorem endGrip_steady {s : State}  (h : Steady fw s0 s) :
    Steady fw s0 ((endGrip s)) := by
  unfold endGrip; (try dsimp only); (repeat' split) <;> (iterate 16 (try with_reducible first | assumption | apply gripHold_steady | apply gripMiss_steady | apply setPhase_steady | apply startGripper_steady | (refine Steady.setBaySame ?_ rfl rfl rfl rfl rfl rfl rfl) | (refine Steady.same ?_ rfl rfl rfl rfl rfl rfl rfl rfl rfl rfl rfl rfl rfl rfl rfl rfl)))

theorem placeDone_steady {s : State}  (h : Steady fw s0 s) :
    Steady fw s0 ((placeDone s)) := by
  unfold placeDone; (try dsimp only); (repeat' split) <;> (iterate 16 (try with_reducible first | assumption | apply endErrand_steady | apply seatDocket_steady | apply setPhase_steady | apply land_steady | apply binUp_steady | (refine Steady.setBaySame ?_ rfl rfl rfl rfl rfl rfl rfl) | (refine Steady.same ?_ rfl rfl rfl rfl rfl rfl rfl rfl rfl rfl rfl rfl rfl rfl rfl rfl)))

theorem releaseFault_steady {s : State}  (h : Steady fw s0 s) :
    Steady fw s0 ((releaseFault s)) := by
  unfold releaseFault; (try dsimp only); (repeat' split) <;> (iterate 16 (try with_reducible first | assumption | apply transportFault_steady | apply reroute_steady | (refine Steady.setBaySame ?_ rfl rfl rfl rfl rfl rfl rfl) | (refine Steady.same ?_ rfl rfl rfl rfl rfl rfl rfl rfl rfl rfl rfl rfl rfl rfl rfl rfl)))

theorem endRelease_steady {s : State}  (h : Steady fw s0 s) :
    Steady fw s0 ((endRelease s)) := by
  unfold endRelease; (try dsimp only); (repeat' split) <;> (iterate 16 (try with_reducible first | assumption | apply releaseFault_steady | apply startMove_steady | apply setPhase_steady | apply returnToEnd_steady | apply placeDone_steady | (refine Steady.setBaySame ?_ rfl rfl rfl rfl rfl rfl rfl) | (refine Steady.same ?_ rfl rfl rfl rfl rfl rfl rfl rfl rfl rfl rfl rfl rfl rfl rfl rfl)))

theorem discFalls_steady {s : State}  (h : Steady fw s0 s) :
    Steady fw s0 ((discFalls s)) := by
  unfold discFalls; (try dsimp only); (repeat' split) <;> (iterate 16 (try with_reducible first | assumption | apply reportFault_steady | apply stopMotors_steady | apply dropFault_steady | apply transportFault_steady | (refine Steady.setBaySame ?_ rfl rfl rfl rfl rfl rfl rfl) | (refine Steady.same ?_ rfl rfl rfl rfl rfl rfl rfl rfl rfl rfl rfl rfl rfl rfl rfl rfl)))

theorem inputDoor_steady (i : InputBin) (on : Bool) {s : State}  (h : Steady fw s0 s) :
    Steady fw s0 ((inputDoor i on s)) := by
  unfold inputDoor; (try dsimp only); (repeat' split) <;> (iterate 16 (try with_reducible first | assumption | apply setInput_steady | apply triggerRound_steady | (refine Steady.setBaySame ?_ rfl rfl rfl rfl rfl rfl rfl) | (refine Steady.same ?_ rfl rfl rfl rfl rfl rfl rfl rfl rfl rfl rfl rfl rfl rfl rfl rfl)))

theorem outputDoor_steady (o : OutputBin) (on : Bool) {s : State}  (h : Steady fw s0 s) :
    Steady fw s0 ((outputDoor o on s)) := by
  unfold outputDoor; split
  · exact reportStatus_steady h
  · apply reportStatus_steady; cases o <;> exact Steady.same (h) rfl rfl rfl rfl rfl rfl rfl rfl rfl rfl rfl rfl rfl rfl rfl rfl

theorem sensorActs_steady (x : Sensor) (on : Bool) {s : State}  (h : Steady fw s0 s) :
    Steady fw s0 ((sensorActs x on s)) := by
  unfold sensorActs; (try dsimp only); (repeat' split) <;> (iterate 16 (try with_reducible first | assumption | apply discFalls_steady | apply inputDoor_steady | apply outputDoor_steady | apply trayOn_steady | apply trayOff_steady | (refine Steady.setBaySame ?_ rfl rfl rfl rfl rfl rfl rfl) | (refine Steady.same ?_ rfl rfl rfl rfl rfl rfl rfl rfl rfl rfl rfl rfl rfl rfl rfl rfl)))

theorem changeSensor_steady (x : Sensor) (on : Bool) {s : State}  (h : Steady fw s0 s) :
    Steady fw s0 ((changeSensor x on s)) := by
  unfold changeSensor; (try dsimp only); (repeat' split) <;> (iterate 16 (try with_reducible first | assumption | apply sensorActs_steady | apply State.setFilter_steady | (refine Steady.setBaySame ?_ rfl rfl rfl rfl rfl rfl rfl) | (refine Steady.same ?_ rfl rfl rfl rfl rfl rfl rfl rfl rfl rfl rfl rfl rfl rfl rfl rfl)))

theorem beginProbe_steady (b : BayNo) {s : State}  (h : Steady fw s0 s) :
    Steady fw s0 ((beginProbe b s)) := by
  unfold beginProbe; (try dsimp only); (repeat' split) <;> (iterate 16 (try with_reducible first | assumption | apply setBayState_steady | refine sendReq_steady _ _ _ _ ?_ rfl | (refine Steady.setBaySame ?_ rfl rfl rfl rfl rfl rfl rfl) | (refine Steady.same ?_ rfl rfl rfl rfl rfl rfl rfl rfl rfl rfl rfl rfl rfl rfl rfl rfl)))

theorem endDiscovering_steady {s : State}  {t : State} (e : endDiscovering s = some t) (h : Steady fw s0 s) :
    Steady fw s0 (t) := by
  unfold endDiscovering at e; split at e
  · injection e with e
    subst e
    have k : Steady fw s0 { s with transport := { s.transport with stage := .arm, sweepList := [] } } := Steady.same h rfl rfl rfl rfl rfl rfl rfl rfl rfl rfl rfl rfl rfl rfl rfl rfl
    exact Steady.foldl (fun u b => beginProbe b u) (fun u b k => beginProbe_steady _ k) _ (setTower_steady _ k)
  · cases e

theorem setStage_steady (st : SweepStage) {s : State}  (h : Steady fw s0 s) :
    Steady fw s0 ((setStage st s)) := by
  unfold setStage; (try dsimp only); (repeat' split) <;> (iterate 16 (try with_reducible first | assumption | (refine Steady.setBaySame ?_ rfl rfl rfl rfl rfl rfl rfl) | (refine Steady.same ?_ rfl rfl rfl rfl rfl rfl rfl rfl rfl rfl rfl rfl rfl rfl rfl rfl)))

theorem sweepBay_steady (b : BayNo) (rest : List BayNo) {s : State}  (h : Steady fw s0 s) :
    Steady fw s0 ((sweepBay b rest s)) := by
  unfold sweepBay; (try dsimp only); (repeat' split) <;> (iterate 16 (try with_reducible first | assumption | apply beginLeg_steady | apply askTrayOpen_steady | apply setErrand_steady | (refine Steady.setBaySame ?_ rfl rfl rfl rfl rfl rfl rfl) | (refine Steady.same ?_ rfl rfl rfl rfl rfl rfl rfl rfl rfl rfl rfl rfl rfl rfl rfl rfl)))

theorem sweepStep_steady {s : State}  {t : State} (e : sweepStep s = some t) (h : Steady fw s0 s) :
    Steady fw s0 (t) := by
  revert e; unfold sweepStep; (try dsimp only); (repeat' split) <;> intro e <;> first | (cases e; done) | (cases e; (iterate 16 (try with_reducible first | assumption | apply beginLeg_steady | apply setErrand_steady | apply setStage_steady | apply setTower_steady | apply setTransport_steady | apply sweepBay_steady | (refine Steady.setBaySame ?_ rfl rfl rfl rfl rfl rfl rfl) | (refine Steady.same ?_ rfl rfl rfl rfl rfl rfl rfl rfl rfl rfl rfl rfl rfl rfl rfl rfl))); done)

theorem beginScan_steady {s : State}  (h : Steady fw s0 s) :
    Steady fw s0 ((beginScan s)) := by
  unfold beginScan; (try dsimp only); (repeat' split) <;> (iterate 16 (try with_reducible first | assumption | (refine Steady.setBaySame ?_ rfl rfl rfl rfl rfl rfl rfl) | (refine Steady.same ?_ rfl rfl rfl rfl rfl rfl rfl rfl rfl rfl rfl rfl rfl rfl rfl rfl)))

theorem requestScan_steady {s : State}  (h : Steady fw s0 s) :
    Steady fw s0 ((requestScan s)) := by
  unfold requestScan; (try dsimp only); (repeat' split) <;> (iterate 16 (try with_reducible first | assumption | apply beginScan_steady | (refine Steady.setBaySame ?_ rfl rfl rfl rfl rfl rfl rfl) | (refine Steady.same ?_ rfl rfl rfl rfl rfl rfl rfl rfl rfl rfl rfl rfl rfl rfl rfl rfl)))

theorem setScan_steady (c : Option Scan) {s : State}  (h : Steady fw s0 s) :
    Steady fw s0 ((setScan c s)) := by
  unfold setScan; (try dsimp only); (repeat' split) <;> (iterate 16 (try with_reducible first | assumption | (refine Steady.setBaySame ?_ rfl rfl rfl rfl rfl rfl rfl) | (refine Steady.same ?_ rfl rfl rfl rfl rfl rfl rfl rfl rfl rfl rfl rfl rfl rfl rfl rfl)))

theorem scanTimerEnds_steady {s : State}  (h : Steady fw s0 s) :
    Steady fw s0 ((scanTimerEnds s)) := by
  unfold scanTimerEnds; (try dsimp only); (repeat' split) <;> (iterate 16 (try with_reducible first | assumption | apply requestScan_steady | (refine Steady.setBaySame ?_ rfl rfl rfl rfl rfl rfl rfl) | (refine Steady.same ?_ rfl rfl rfl rfl rfl rfl rfl rfl rfl rfl rfl rfl rfl rfl rfl rfl)))

theorem presentBoard_steady {s : State}  {t : State} (e : presentBoard s = some t) (h : Steady fw s0 s) :
    Steady fw s0 (t) := by
  revert e; unfold presentBoard; (try dsimp only); (repeat' split) <;> intro e <;> first | (cases e; done) | (cases e; (iterate 16 (try with_reducible first | assumption | apply present_steady | apply setScan_steady | (refine Steady.setBaySame ?_ rfl rfl rfl rfl rfl rfl rfl) | (refine Steady.same ?_ rfl rfl rfl rfl rfl rfl rfl rfl rfl rfl rfl rfl rfl rfl rfl rfl))); done)

theorem abandonScan_steady {s : State}  (h : Steady fw s0 s) :
    Steady fw s0 ((abandonScan s)) := by
  unfold abandonScan; (try dsimp only); (repeat' split) <;> (iterate 16 (try with_reducible first | assumption | apply startThread_steady | apply orphanLine_steady | apply setLine_steady | apply setScan_steady | (refine Steady.setBaySame ?_ rfl rfl rfl rfl rfl rfl rfl) | (refine Steady.same ?_ rfl rfl rfl rfl rfl rfl rfl rfl rfl rfl rfl rfl rfl rfl rfl rfl)))

theorem takeAnchor_steady (c : Scan) (bytes : List Byte) {s : State}  (h : Steady fw s0 s) :
    Steady fw s0 ((takeAnchor c bytes s)) := by
  unfold takeAnchor; (try dsimp only); (repeat' split) <;> (iterate 16 (try with_reducible first | assumption | apply abandonScan_steady | apply reportFault_steady | apply setScan_steady | (refine Steady.setBaySame ?_ rfl rfl rfl rfl rfl rfl rfl) | (refine Steady.same ?_ rfl rfl rfl rfl rfl rfl rfl rfl rfl rfl rfl rfl rfl rfl rfl rfl)))

theorem arriveBoard_steady (off : Nat) (data : List Byte) {s : State}  (h : Steady fw s0 s) :
    Steady fw s0 ((arriveBoard off data s)) := by
  unfold arriveBoard; (try dsimp only); (repeat' split) <;> (iterate 16 (try with_reducible first | assumption | apply takeAnchor_steady | apply setScan_steady | (refine Steady.setBaySame ?_ rfl rfl rfl rfl rfl rfl rfl) | (refine Steady.same ?_ rfl rfl rfl rfl rfl rfl rfl rfl rfl rfl rfl rfl rfl rfl rfl rfl)))

theorem adoptStatus_steady (c : Scan) {s : State}  (h : Steady fw s0 s) :
    Steady fw s0 ((adoptStatus c s)) := by
  unfold adoptStatus; (try dsimp only); (repeat' split) <;> (iterate 16 (try with_reducible first | assumption | apply queueStatus_steady | (refine Steady.setBaySame ?_ rfl rfl rfl rfl rfl rfl rfl) | (refine Steady.same ?_ rfl rfl rfl rfl rfl rfl rfl rfl rfl rfl rfl rfl rfl rfl rfl rfl)))

theorem nextScan_steady {s : State}  (h : Steady fw s0 s) :
    Steady fw s0 ((nextScan s)) := by
  unfold nextScan; (try dsimp only); (repeat' split) <;> (iterate 16 (try with_reducible first | assumption | apply setScan_steady | apply requestScan_steady | (refine Steady.setBaySame ?_ rfl rfl rfl rfl rfl rfl rfl) | (refine Steady.same ?_ rfl rfl rfl rfl rfl rfl rfl rfl rfl rfl rfl rfl rfl rfl rfl rfl)))

theorem configFault_steady (code : FaultCode) {s : State}  (h : Steady fw s0 s) :
    Steady fw s0 ((configFault code s)) := by
  unfold configFault; (try dsimp only); (repeat' split) <;> (iterate 16 (try with_reducible first | assumption | apply reportFault_steady | (refine Steady.setBaySame ?_ rfl rfl rfl rfl rfl rfl rfl) | (refine Steady.same ?_ rfl rfl rfl rfl rfl rfl rfl rfl rfl rfl rfl rfl rfl rfl rfl rfl)))

theorem setCalibration_steady (c : Option Calibration) {s : State} (off : fw.plant = false) (h : Steady fw s0 s) :
    Steady fw s0 ((setCalibration c s)) := by
  exact { h with calibration := fun e => by simp [off] at e }

theorem loadGeometry_steady (n : Nat) (m : List Byte) {s : State} (off : fw.plant = false) (h : Steady fw s0 s) :
    Steady fw s0 ((loadGeometry n m s)) := by
  unfold loadGeometry; (repeat' split) <;> first | exact setCalibration_steady _ off h | exact configFault_steady _ (setCalibration_steady _ off h)

theorem loadPlant_steady (n : Nat) (m : List Byte) {s : State} (off : fw.plant = false) (h : Steady fw s0 s) :
    Steady fw s0 ((loadPlant n m s)) := by
  unfold loadPlant; split
  · split
    · apply setSpare_steady
      have k : ∀ x, ({ s with bays := Vector.ofFn fun b : BayNo => (s.bay b).plant (plantInstalled m b) } : State).bay x
          = (s.bay x).plant (plantInstalled m x) := by
        intro x
        show (Vector.ofFn fun b : BayNo => (s.bay b).plant (plantInstalled m b))[x.val] = _
        exact Vector.getElem_ofFn ..
      refine { h with bays := fun x => ?_, numbers := fun f e x y n hx hy => ?_ }
      · rw [k]
        refine (h.bays x).trans ?_
        unfold Bay.plant; split <;> exact ⟨fun e => by simp [off] at e, fun _ => rfl, id, id, id,
          fun e => Bay.requestsBounded_sublist e (by first | exact List.Sublist.refl _ | exact List.nil_sublist _)⟩
      · have same : ∀ z, ((s.bay z).plant (plantInstalled m z)).logical = (s.bay z).logical := fun z => by
          unfold Bay.plant; split <;> rfl
        rw [k, same] at hx hy
        exact h.numbers f e x y n hx hy
    · exact configFault_steady _ (setSpare_steady _ h)
  · exact setSpare_steady _ h

theorem loadBins_steady (n : Nat) (m : List Byte) {s : State} (off : fw.plant = false) (h : Steady fw s0 s) :
    Steady fw s0 ((loadBins n m s)) := by
  unfold loadBins; split
  · split
    · exact { h with
        clsA := fun e => by simp [off] at e
        clsB := fun e => by simp [off] at e
        good := fun e => by simp [off] at e
        reject := fun e => by simp [off] at e }
    · exact configFault_steady _ h
  · exact h

theorem loadHealth_steady (n : Nat) (m : List Byte) {s : State}  (h : Steady fw s0 s) :
    Steady fw s0 ((loadHealth n m s)) := by
  unfold loadHealth; (try dsimp only); (repeat' split) <;> (iterate 16 (try with_reducible first | assumption | (refine Steady.foldl _ (fun u b k => testLimits_steady _ k) _ ?_) | apply configFault_steady | (refine Steady.setBaySame ?_ rfl rfl rfl rfl rfl rfl rfl) | (refine Steady.same ?_ rfl rfl rfl rfl rfl rfl rfl rfl rfl rfl rfl rfl rfl rfl rfl rfl)))

theorem buildMap_steady {s : State}  (h : Steady fw s0 s) :
    Steady fw s0 ((buildMap s)) := by
  refine Steady.numbered (by
    unfold buildMap
    exact Steady.foldl _ (fun u b k => setLogical_steady _ _ k fun f => by cases f) _ h.unnumbered) ?_
  have own : ∀ (l : List BayNo) (u : State) (x : BayNo), (x ∈ l ∨ (u.bay x).logical = none ∨ (u.bay x).logical = some x) →
      ((l.foldl (fun u b => setLogical b (if (u.bay b).installed ∧ u.health.spare ≠ some b then some b else none) u) u).bay
        x).logical = none ∨
      ((l.foldl (fun u b => setLogical b (if (u.bay b).installed ∧ u.health.spare ≠ some b then some b else none) u) u).bay
        x).logical = some x := by
    intro l
    induction l with
    | nil => intro u x k; simpa using k
    | cons b l ih =>
      intro u x k
      refine ih _ x ?_
      by_cases e : x = b
      · subst e; refine Or.inr ?_; rw [setLogical_bay, if_pos rfl]; dsimp only; split <;> simp
      · rw [setLogical_bay, if_neg e]
        rcases k with k | k
        · rcases List.mem_cons.mp k with k | k
          · exact absurd k e
          · exact Or.inl k
        · exact Or.inr k
  intro x y n hx hy
  have ox := own Config.allBays s x (Or.inl (mem_allBays x))
  have oy := own Config.allBays s y (Or.inl (mem_allBays y))
  unfold buildMap at hx hy
  rw [hx] at ox; rw [hy] at oy
  simp at ox oy
  exact ox.symm.trans oy

theorem startDrain_steady {s : State}  (h : Steady fw s0 s) :
    Steady fw s0 ((startDrain s)) := by
  unfold startDrain; (try dsimp only); (repeat' split) <;> (iterate 16 (try with_reducible first | assumption | (refine Steady.setBaySame ?_ rfl rfl rfl rfl rfl rfl rfl) | (refine Steady.same ?_ rfl rfl rfl rfl rfl rfl rfl rfl rfl rfl rfl rfl rfl rfl rfl rfl)))

theorem towerHomes_steady {s : State}  (h : Steady fw s0 s) :
    Steady fw s0 ((towerHomes s)) := by
  unfold towerHomes; (try dsimp only); (repeat' split) <;> (iterate 16 (try with_reducible first | assumption | apply startHoming_steady | apply setTransport_steady | apply setTower_steady | (refine Steady.setBaySame ?_ rfl rfl rfl rfl rfl rfl rfl) | (refine Steady.same ?_ rfl rfl rfl rfl rfl rfl rfl rfl rfl rfl rfl rfl rfl rfl rfl rfl)))

theorem loaderIdle_steady {s : State}  (h : Steady fw s0 s) :
    Steady fw s0 ((loaderIdle s)) := by
  unfold loaderIdle; (try dsimp only); (repeat' split) <;> (iterate 16 (try with_reducible first | assumption | (refine Steady.setBaySame ?_ rfl rfl rfl rfl rfl rfl rfl) | (refine Steady.same ?_ rfl rfl rfl rfl rfl rfl rfl rfl rfl rfl rfl rfl rfl rfl rfl rfl)))

theorem loadWhole_steady (mem : ConfigRead) {s : State} (off : fw.plant = false) (h : Steady fw s0 s) :
    Steady fw s0 ((loadWhole mem s)) := by
  unfold loadWhole; (try dsimp only); (repeat' split) <;> (iterate 16 (try with_reducible first | assumption | apply configFault_steady | apply loadHealth_steady | (refine loadBins_steady _ _ off ?_) | (refine loadPlant_steady _ _ off ?_) | (refine loadGeometry_steady _ _ off ?_) | apply startDrain_steady | apply buildMap_steady | apply towerHomes_steady | apply loaderIdle_steady | (refine Steady.setBaySame ?_ rfl rfl rfl rfl rfl rfl rfl) | (refine Steady.same ?_ rfl rfl rfl rfl rfl rfl rfl rfl rfl rfl rfl rfl rfl rfl rfl rfl)))

theorem loadAgain_steady (mem : ConfigRead) {s : State} (off : fw.plant = false) (h : Steady fw s0 s) :
    Steady fw s0 ((loadAgain mem s)) := by
  unfold loadAgain; (try dsimp only); (repeat' split) <;> (iterate 16 (try with_reducible first | assumption | apply configFault_steady | apply towerHomes_steady | apply loaderIdle_steady | (refine loadGeometry_steady _ _ off ?_) | (refine Steady.setBaySame ?_ rfl rfl rfl rfl rfl rfl rfl) | (refine Steady.same ?_ rfl rfl rfl rfl rfl rfl rfl rfl rfl rfl rfl rfl rfl rfl rfl rfl)))

theorem configEnds_steady (mem : ConfigRead) {s : State} (off : fw.plant = false) (h : Steady fw s0 s) :
    Steady fw s0 ((configEnds mem s)) := by
  unfold configEnds; (try dsimp only); (repeat' split) <;> (iterate 16 (try with_reducible first | assumption | (refine loadWhole_steady _ off ?_) | (refine loadAgain_steady _ off ?_) | (refine Steady.setBaySame ?_ rfl rfl rfl rfl rfl rfl rfl) | (refine Steady.same ?_ rfl rfl rfl rfl rfl rfl rfl rfl rfl rfl rfl rfl rfl rfl rfl rfl)))

theorem stopTransport_steady {s : State}  (h : Steady fw s0 s) :
    Steady fw s0 ((stopTransport s)) := by
  unfold stopTransport; (try dsimp only); (repeat' split) <;> (iterate 16 (try with_reducible first | assumption | apply setPhase_steady | apply setErrand_steady | apply stopMotors_steady | apply setTransport_steady | (refine Steady.setBaySame ?_ rfl rfl rfl rfl rfl rfl rfl) | (refine Steady.same ?_ rfl rfl rfl rfl rfl rfl rfl rfl rfl rfl rfl rfl rfl rfl rfl rfl)))

theorem closeSweepTray_steady {s : State}  (h : Steady fw s0 s) :
    Steady fw s0 ((closeSweepTray s)) := by
  unfold closeSweepTray; (try dsimp only); (repeat' split) <;> (iterate 16 (try with_reducible first | assumption | apply askTrayClose_steady | (refine Steady.setBaySame ?_ rfl rfl rfl rfl rfl rfl rfl) | (refine Steady.same ?_ rfl rfl rfl rfl rfl rfl rfl rfl rfl rfl rfl rfl rfl rfl rfl rfl)))

theorem calibrate_steady {s : State}  (h : Steady fw s0 s) :
    Steady fw s0 ((calibrate s)) := by
  unfold calibrate; (try dsimp only); (repeat' split) <;> (iterate 16 (try with_reducible first | assumption | apply stopTransport_steady | apply closeSweepTray_steady | apply setTower_steady | (refine Steady.setBaySame ?_ rfl rfl rfl rfl rfl rfl rfl) | (refine Steady.same ?_ rfl rfl rfl rfl rfl rfl rfl rfl rfl rfl rfl rfl rfl rfl rfl rfl)))

theorem resumeTransport_steady {s : State}  (h : Steady fw s0 s) :
    Steady fw s0 ((resumeTransport s)) := by
  unfold resumeTransport; (try dsimp only); (repeat' split) <;> (iterate 16 (try with_reducible first | assumption | apply setTransport_steady | apply startHoming_steady | apply setTower_steady | (refine Steady.setBaySame ?_ rfl rfl rfl rfl rfl rfl rfl) | (refine Steady.same ?_ rfl rfl rfl rfl rfl rfl rfl rfl rfl rfl rfl rfl rfl rfl rfl rfl)))

theorem withdrawLines_steady {s : State}  (h : Steady fw s0 s) :
    Steady fw s0 ((withdrawLines s)) := by
  have k := h.mapBays (fun r => { r with image := none, extent := none, compare := none })
    (fun _ => ⟨fun _ => rfl, fun _ => rfl, id, id, id, id⟩) (fun _ => rfl)
  exact ⟨k.pending, k.time, k.calibration, k.boardLow, k.boardHigh, k.run, k.irqEn, k.generation, k.clsA, k.clsB, k.good, k.reject, k.position, k.out, k.posted, k.faults, k.bays, k.numbers⟩

theorem engineTowerReset_steady {s : State}  (h : Steady fw s0 s) :
    Steady fw s0 ((engineTowerReset s)) := by
  unfold engineTowerReset; (try dsimp only); (repeat' split) <;> (iterate 16 (try with_reducible first | assumption | apply withdrawLines_steady | (refine Steady.setBaySame ?_ rfl rfl rfl rfl rfl rfl rfl) | (refine Steady.same ?_ rfl rfl rfl rfl rfl rfl rfl rfl rfl rfl rfl rfl rfl rfl rfl rfl)))

theorem engineLinkReset_steady {s : State}  (h : Steady fw s0 s) :
    Steady fw s0 ((engineLinkReset s)) := by
  exact { withdrawLines_steady h with posted := fun _ => Nat.zero_le _ }

theorem clearWork_steady {s : State}  (h : Steady fw s0 s) :
    Steady fw s0 ((clearWork s)) := by
  have k := (stopTransport_steady (setQueue_steady [] h)).mapBays
    (fun r => { r with docket := none, stranded := false, channel := .closed })
    (fun _ => ⟨fun _ => rfl, fun _ => rfl, id, id, id, id⟩) (fun _ => rfl)
  exact ⟨k.pending, k.time, k.calibration, k.boardLow, k.boardHigh, k.run, k.irqEn, k.generation, k.clsA, k.clsB, k.good, k.reject, k.position, k.out, k.posted, k.faults, k.bays, k.numbers⟩

theorem resetBays_steady {s : State}  (h : Steady fw s0 s) :
    Steady fw s0 ((resetBays s)) := by
  unfold resetBays; refine Steady.foldl _ (fun u b k => ?_) _ h; split
  · exact startReset_steady _ k
  · exact k

theorem restartTower_steady {s : State}  (h : Steady fw s0 s) :
    Steady fw s0 ((restartTower s)) := by
  unfold restartTower; (try dsimp only); (repeat' split) <;> (iterate 16 (try with_reducible first | assumption | apply towerHomes_steady | (refine Steady.setBaySame ?_ rfl rfl rfl rfl rfl rfl rfl) | (refine Steady.same ?_ rfl rfl rfl rfl rfl rfl rfl rfl rfl rfl rfl rfl rfl rfl rfl rfl)))

theorem endBurst_steady {s : State}  (h : Steady fw s0 s) :
    Steady fw s0 ((endBurst s)) := by
  unfold endBurst; (try dsimp only); (repeat' split) <;> (iterate 16 (try with_reducible first | assumption | (refine Steady.setBaySame ?_ rfl rfl rfl rfl rfl rfl rfl) | (refine Steady.same ?_ rfl rfl rfl rfl rfl rfl rfl rfl rfl rfl rfl rfl rfl rfl rfl rfl)))

theorem towerReset_steady {s : State}  (h : Steady fw s0 s) :
    Steady fw s0 ((towerReset s)) := by
  unfold towerReset; (try dsimp only); (repeat' split) <;> (iterate 16 (try with_reducible first | assumption | apply engineTowerReset_steady | apply endBurst_steady | apply clearWork_steady | apply requestScan_steady | apply restartTower_steady | apply resetBays_steady | apply resetPrinter_steady | (refine Steady.setBaySame ?_ rfl rfl rfl rfl rfl rfl rfl) | (refine Steady.same ?_ rfl rfl rfl rfl rfl rfl rfl rfl rfl rfl rfl rfl rfl rfl rfl rfl)))

theorem clearWindow_steady {s : State} (off : fw.window = false) (off' : fw.generation = false) (h : Steady fw s0 s) :
    Steady fw s0 ((clearWindow s)) := by
  exact { h with
    boardLow := fun e => by simp [off] at e
    boardHigh := fun e => by simp [off] at e
    run := fun e => by simp [off] at e
    irqEn := fun e => by simp [off] at e
    generation := fun e => by simp [off'] at e }

theorem linkReset_steady {s : State} (off : fw.window = false) (off' : fw.generation = false) (h : Steady fw s0 s) :
    Steady fw s0 ((linkReset s)) := by
  unfold linkReset; (try dsimp only); (repeat' split) <;> (iterate 16 (try with_reducible first | assumption | (refine clearWindow_steady off off' ?_) | apply engineLinkReset_steady | apply clearWork_steady | apply restartTower_steady | apply resetBays_steady | apply resetPrinter_steady | (refine Steady.setBaySame ?_ rfl rfl rfl rfl rfl rfl rfl) | (refine Steady.same ?_ rfl rfl rfl rfl rfl rfl rfl rfl rfl rfl rfl rfl rfl rfl rfl rfl)))

theorem setScanInterval_steady (n : Option Nat) {s : State}  (h : Steady fw s0 s) :
    Steady fw s0 ((setScanInterval n s)) := by
  unfold setScanInterval; (try dsimp only); (repeat' split) <;> (iterate 16 (try with_reducible first | assumption | (refine Steady.setBaySame ?_ rfl rfl rfl rfl rfl rfl rfl) | (refine Steady.same ?_ rfl rfl rfl rfl rfl rfl rfl rfl rfl rfl rfl rfl rfl rfl rfl rfl)))

theorem setDrain_steady (n : Option Nat) {s : State}  (h : Steady fw s0 s) :
    Steady fw s0 ((setDrain n s)) := by
  unfold setDrain; (try dsimp only); (repeat' split) <;> (iterate 16 (try with_reducible first | assumption | apply startDrain_steady | (refine Steady.setBaySame ?_ rfl rfl rfl rfl rfl rfl rfl) | (refine Steady.same ?_ rfl rfl rfl rfl rfl rfl rfl rfl rfl rfl rfl rfl rfl rfl rfl rfl)))

theorem svcSetTimers_steady (scan drain : Option Nat) {s : State}  (h : Steady fw s0 s) :
    Steady fw s0 ((svcSetTimers scan drain s).2) := by
  unfold svcSetTimers; (try dsimp only); (repeat' split) <;> (iterate 16 (try with_reducible first | assumption | apply setDrain_steady | apply setScanInterval_steady | (refine Steady.setBaySame ?_ rfl rfl rfl rfl rfl rfl rfl) | (refine Steady.same ?_ rfl rfl rfl rfl rfl rfl rfl rfl rfl rfl rfl rfl rfl rfl rfl rfl)))

theorem svcSetLimits_steady (soft hard : Nat) {s : State}  (h : Steady fw s0 s) :
    Steady fw s0 ((svcSetLimits soft hard s).2) := by
  unfold svcSetLimits; split
  · have k : Steady fw s0 { s with health := { s.health with softLimit := soft, hardLimit := hard } } := Steady.same h rfl rfl rfl rfl rfl rfl rfl rfl rfl rfl rfl rfl rfl rfl rfl rfl
    dsimp only
    exact Steady.foldl (fun u b => testLimits b u) (fun u b k => testLimits_steady _ k) _ k
  · exact h

theorem svcDesignate_steady (b : BayNo) {s : State}  (h : Steady fw s0 s) :
    Steady fw s0 ((svcDesignate b s).2) := by
  unfold svcDesignate; (try dsimp only); (repeat' split) <;> (iterate 16 (try with_reducible first | assumption | apply setSpare_steady | (refine setLogical_steady _ _ ?_ (fun _ _ _ _ c => by cases c)) | apply setBayState_steady | (refine Steady.setBaySame ?_ rfl rfl rfl rfl rfl rfl rfl) | (refine Steady.same ?_ rfl rfl rfl rfl rfl rfl rfl rfl rfl rfl rfl rfl rfl rfl rfl rfl)))

theorem svcDesignateNone_steady {s : State}  (h : Steady fw s0 s) :
    Steady fw s0 ((svcDesignateNone s).2) := by
  unfold svcDesignateNone; split
  · exact h
  · rename_i sp _; split
    · exact h
    · rename_i free
      have k : Steady fw s0 (setLogical sp (some sp) s) := setLogical_steady _ _ h fun _ _ m x c d g => by
        cases c
        exact free (List.any_eq_true.mpr ⟨x, mem_allBays x, by simp [d, g]⟩)
      dsimp only; split
      · exact enterIdle_steady _ (setSpare_steady _ k)
      · exact setSpare_steady _ k

theorem reinstateRole_steady (b : BayNo) {s : State}  (h : Steady fw s0 s) :
    Steady fw s0 ((reinstateRole b s)) := by
  unfold reinstateRole; dsimp only; split
  · split
    · exact setSpare_steady _ (endDesignation_steady _ h)
    · exact endDesignation_steady _ h
  · rename_i free
    refine setLogical_steady _ _ (endDesignation_steady _ h) fun _ _ m x c _ g => ?_
    cases c
    exact free (List.any_eq_true.mpr ⟨x, mem_allBays x, by simpa using g⟩)

theorem svcReinstate_steady (b : BayNo) {s : State}  (h : Steady fw s0 s) :
    Steady fw s0 ((svcReinstate b s).2) := by
  unfold svcReinstate; dsimp only; split
  · exact h
  · split
    · exact discover_steady _ _ (reinstateRole_steady _ (reportStatus_steady
        (h.setBay _ _ ⟨fun _ => rfl, fun _ => rfl, fun _ => Nat.zero_le _, fun _ => Nat.zero_le _, id, id⟩ rfl)))
    · exact h

theorem svcResetBay_steady (b : BayNo) {s : State}  (h : Steady fw s0 s) :
    Steady fw s0 ((svcResetBay b s).2) := by
  unfold svcResetBay; (try dsimp only); (repeat' split) <;> (iterate 16 (try with_reducible first | assumption | apply startReset_steady | (refine Steady.setBaySame ?_ rfl rfl rfl rfl rfl rfl rfl) | (refine Steady.same ?_ rfl rfl rfl rfl rfl rfl rfl rfl rfl rfl rfl rfl rfl rfl rfl rfl)))

theorem svcResume_steady {s : State}  (h : Steady fw s0 s) :
    Steady fw s0 ((svcResume s).2) := by
  unfold svcResume; (try dsimp only); (repeat' split) <;> (iterate 16 (try with_reducible first | assumption | apply resumeTransport_steady | (refine Steady.setBaySame ?_ rfl rfl rfl rfl rfl rfl rfl) | (refine Steady.same ?_ rfl rfl rfl rfl rfl rfl rfl rfl rfl rfl rfl rfl rfl rfl rfl rfl)))

theorem svcClearFaults_steady {s : State}  (h : Steady fw s0 s) :
    Steady fw s0 ((svcClearFaults s).2) := by
  unfold svcClearFaults; dsimp only; split
  · exact h
  · exact reportStatus_steady (h.setFaults _ fun _ => by simp [FaultRecord.clear, FaultRecord.bounded])

theorem svcCalibrate_steady {s : State}  (h : Steady fw s0 s) :
    Steady fw s0 ((svcCalibrate s).2) := by
  unfold svcCalibrate; (try dsimp only); (repeat' split) <;> (iterate 16 (try with_reducible first | assumption | apply calibrate_steady | (refine Steady.setBaySame ?_ rfl rfl rfl rfl rfl rfl rfl) | (refine Steady.same ?_ rfl rfl rfl rfl rfl rfl rfl rfl rfl rfl rfl rfl rfl rfl rfl rfl)))

theorem runService_steady (c : ServiceCard) {s : State}  (h : Steady fw s0 s) :
    Steady fw s0 ((runService c s).2) := by
  unfold runService; (repeat' split) <;> (try unfold onBay) <;> (try split) <;> (iterate 16 (try with_reducible first | assumption | apply svcSetTimers_steady | apply svcSetLimits_steady | apply svcDesignateNone_steady | apply svcDesignate_steady | apply svcReinstate_steady | apply svcResetBay_steady | apply svcResume_steady | apply svcClearFaults_steady | apply svcCalibrate_steady | (refine Steady.setBaySame ?_ rfl rfl rfl rfl rfl rfl rfl) | (refine Steady.same ?_ rfl rfl rfl rfl rfl rfl rfl rfl rfl rfl rfl rfl rfl rfl rfl rfl)))

theorem acceptCard_steady (base : Nat) (i : Fin 64) (c : CopyCard) {s : State}  (h : Steady fw s0 s) :
    Steady fw s0 ((acceptCard base i c s).2) := by
  unfold acceptCard; (try dsimp only); (repeat' split) <;> (iterate 16 (try with_reducible first | assumption | apply triggerRound_steady | apply State.setJob_steady | (refine Steady.setBaySame ?_ rfl rfl rfl rfl rfl rfl rfl) | (refine Steady.same ?_ rfl rfl rfl rfl rfl rfl rfl rfl rfl rfl rfl rfl rfl rfl rfl rfl)))

theorem copyOne_steady (base : Nat) (i : Fin 64) (c : CopyCard) {s : State}  (h : Steady fw s0 s) :
    Steady fw s0 ((copyOne base i c s).2) := by
  unfold copyOne; (try dsimp only); (repeat' split) <;> (iterate 16 (try with_reducible first | assumption | apply acceptCard_steady | (refine Steady.setBaySame ?_ rfl rfl rfl rfl rfl rfl rfl) | (refine Steady.same ?_ rfl rfl rfl rfl rfl rfl rfl rfl rfl rfl rfl rfl rfl rfl rfl rfl)))

theorem copyCommand_steady (i : Fin 64) (c : CopyCard) {s : State}  (h : Steady fw s0 s) :
    Steady fw s0 ((copyCommand i c s)) := by
  unfold copyCommand; (try dsimp only); (repeat' split) <;> (iterate 16 (try with_reducible first | assumption | apply startThread_steady | apply copyOne_steady | (refine Steady.setBaySame ?_ rfl rfl rfl rfl rfl rfl rfl) | (refine Steady.same ?_ rfl rfl rfl rfl rfl rfl rfl rfl rfl rfl rfl rfl rfl rfl rfl rfl)))

theorem snapshotEnds_steady {s : State}  (h : Steady fw s0 s) :
    Steady fw s0 ((snapshotEnds s)) := by
  unfold snapshotEnds; (try dsimp only); (repeat' split) <;> (iterate 16 (try with_reducible first | assumption | apply startThread_steady | apply setScan_steady | (refine Steady.setBaySame ?_ rfl rfl rfl rfl rfl rfl rfl) | (refine Steady.same ?_ rfl rfl rfl rfl rfl rfl rfl rfl rfl rfl rfl rfl rfl rfl rfl rfl)))

theorem runAct_steady (base : Nat) (a : ScanAct) {s : State}  (h : Steady fw s0 s) :
    Steady fw s0 ((runAct base a s).2.2) := by
  unfold runAct; (try dsimp only); (repeat' split) <;> (iterate 16 (try with_reducible first | assumption | apply stopJob_steady | apply runService_steady | apply acceptCard_steady | (refine Steady.setBaySame ?_ rfl rfl rfl rfl rfl rfl rfl) | (refine Steady.same ?_ rfl rfl rfl rfl rfl rfl rfl rfl rfl rfl rfl rfl rfl rfl rfl rfl)))

theorem nextAct_steady {s : State}  (h : Steady fw s0 s) :
    Steady fw s0 ((nextAct s).2) := by
  unfold nextAct; (try dsimp only); (repeat' split) <;> (iterate 16 (try with_reducible first | assumption | apply runAct_steady | apply setScan_steady | (refine Steady.setBaySame ?_ rfl rfl rfl rfl rfl rfl rfl) | (refine Steady.same ?_ rfl rfl rfl rfl rfl rfl rfl rfl rfl rfl rfl rfl rfl rfl rfl rfl)))

theorem writeTally_steady (base : Nat) {s : State} (room : s.room = true) (h : Steady fw s0 s) :
    Steady fw s0 ((writeTally base s)) := by
  exact raiseAttention_steady _ (post_steady _ room (Steady.same h rfl rfl rfl rfl rfl rfl rfl rfl rfl rfl rfl rfl rfl rfl rfl rfl))

theorem writeProgress_steady (j : SlotNo) {s : State} (room : s.room = true) (h : Steady fw s0 s) :
    Steady fw s0 ((writeProgress j s)) := by
  unfold writeProgress; split
  · exact post_steady _ room h
  · exact h

theorem countDocket_steady (d : DocketNo) {s : State}  (h : Steady fw s0 s) :
    Steady fw s0 ((countDocket d s)) := by
  unfold countDocket; (try dsimp only); (repeat' split) <;> (iterate 16 (try with_reducible first | assumption | apply State.updJob_steady | (refine Steady.setBaySame ?_ rfl rfl rfl rfl rfl rfl rfl) | (refine Steady.same ?_ rfl rfl rfl rfl rfl rfl rfl rfl rfl rfl rfl rfl rfl rfl rfl rfl)))

theorem writeHeld_steady (b : BayNo) (g : Nat) {s : State} (room : s.room = true) (h : Steady fw s0 s) :
    Steady fw s0 ((writeHeld b g s)) := by
  unfold writeHeld; split
  · split
    · exact post_steady _ room (setChannel_steady _ _ h)
    · exact h
  · exact h

theorem freeSlot_steady (j : SlotNo) {s : State}  (h : Steady fw s0 s) :
    Steady fw s0 ((freeSlot j s)) := by
  unfold freeSlot; (try dsimp only); (repeat' split) <;> (iterate 16 (try with_reducible first | assumption | apply requestScan_steady | apply State.setJob_steady | (refine Steady.setBaySame ?_ rfl rfl rfl rfl rfl rfl rfl) | (refine Steady.same ?_ rfl rfl rfl rfl rfl rfl rfl rfl rfl rfl rfl rfl rfl rfl rfl rfl)))

theorem runTodo_steady (x : Todo) {s : State} (room : x.needsRoom = true → s.room = true) (h : Steady fw s0 s) :
    Steady fw s0 ((runTodo x s).2) := by
  cases x <;> simp only [runTodo] <;> first | exact post_steady _ (room rfl) h | exact writeTally_steady _ (room rfl) h | exact writeProgress_steady _ (room rfl) h | exact writeHeld_steady _ _ (room rfl) h | exact queueStatus_steady h | ((repeat' split) <;> (iterate 16 (try with_reducible first | assumption | (refine writeTally_steady _ room ?_) | (refine writeProgress_steady _ room ?_) | apply countDocket_steady | apply decideLanding_steady | apply triggerRound_steady | apply State.setDocket_steady | apply freeSlot_steady | (refine writeHeld_steady _ _ room ?_) | apply queueStatus_steady | apply nextAct_steady | apply adoptStatus_steady | apply nextScan_steady | (refine Steady.setBaySame ?_ rfl rfl rfl rfl rfl rfl rfl) | (refine Steady.same ?_ rfl rfl rfl rfl rfl rfl rfl rfl rfl rfl rfl rfl rfl rfl rfl rfl))); done)

theorem setAgenda_steady (l : List Thread) {s : State}  (h : Steady fw s0 s) :
    Steady fw s0 ((setAgenda l s)) := by
  unfold setAgenda; (try dsimp only); (repeat' split) <;> (iterate 16 (try with_reducible first | assumption | (refine Steady.setBaySame ?_ rfl rfl rfl rfl rfl rfl rfl) | (refine Steady.same ?_ rfl rfl rfl rfl rfl rfl rfl rfl rfl rfl rfl rfl rfl rfl rfl rfl)))

theorem setWaiting_steady (l : List Thread) {s : State}  (h : Steady fw s0 s) :
    Steady fw s0 ((setWaiting l s)) := by
  unfold setWaiting; (try dsimp only); (repeat' split) <;> (iterate 16 (try with_reducible first | assumption | (refine Steady.setBaySame ?_ rfl rfl rfl rfl rfl rfl rfl) | (refine Steady.same ?_ rfl rfl rfl rfl rfl rfl rfl rfl rfl rfl rfl rfl rfl rfl rfl rfl)))

theorem roomStep_steady {s : State}  {t : State} (e : roomStep s = some t) (h : Steady fw s0 s) :
    Steady fw s0 (t) := by
  unfold roomStep at e; split at e
  · cases e
  · cases e; exact setWaiting_steady _ h
  · split at e
    · rename_i x more rest _ c
      cases e
      exact setAgenda_steady _ (runTodo_steady x (fun _ => c) (setWaiting_steady rest h))
    · cases e

theorem threadStep_steady {s : State}  {t : State} (e : threadStep s = some t) (h : Steady fw s0 s) :
    Steady fw s0 (t) := by
  unfold threadStep at e; split at e
  · cases e
  · cases e; exact setAgenda_steady _ h
  · dsimp only at e; split at e
    · cases e; exact waitForRoom_steady _ (setAgenda_steady _ h)
    · rename_i x more rest _ c
      cases e
      refine setAgenda_steady _ (runTodo_steady x (fun n => ?_) (setAgenda_steady rest h))
      simp only [n, true_and, Bool.not_eq_false] at c
      exact c

theorem handOffRule_steady (b : BayNo) {s : State}  {t : State} (e : handOffRule b s = some t) (h : Steady fw s0 s) :
    Steady fw s0 (t) := by
  unfold handOffRule at e; simp at e; obtain ⟨d, -, rfl⟩ := e; exact handOff_steady _ _ h

theorem freeFetch_steady (k : FetchNo) {s : State}  (h : Steady fw s0 s) :
    Steady fw s0 ((freeFetch k s)) := by
  unfold freeFetch; (try dsimp only); (repeat' split) <;> (iterate 16 (try with_reducible first | assumption | (refine Steady.setBaySame ?_ rfl rfl rfl rfl rfl rfl rfl) | (refine Steady.same ?_ rfl rfl rfl rfl rfl rfl rfl rfl rfl rfl rfl rfl rfl rfl rfl rfl)))

theorem arriveImage_steady (b : BayNo) (g off : Nat) (data : List Byte) {s : State}  (h : Steady fw s0 s) :
    Steady fw s0 ((arriveImage b g off data s)) := by
  unfold arriveImage; (try dsimp only); (repeat' split) <;> (iterate 16 (try with_reducible first | assumption | apply setChannel_steady | (refine Steady.setBaySame ?_ rfl rfl rfl rfl rfl rfl rfl) | (refine Steady.same ?_ rfl rfl rfl rfl rfl rfl rfl rfl rfl rfl rfl rfl rfl rfl rfl rfl)))

theorem deliver_steady (f : Fetch) (data : List Byte) {s : State}  (h : Steady fw s0 s) :
    Steady fw s0 ((deliver f data s)) := by
  unfold deliver; (try dsimp only); (repeat' split) <;> (iterate 16 (try with_reducible first | assumption | apply arriveImage_steady | apply arriveExtent_steady | apply arriveCompare_steady | apply arriveBlock_steady | apply arriveBand_steady | apply arriveBoard_steady | (refine Steady.setBaySame ?_ rfl rfl rfl rfl rfl rfl rfl) | (refine Steady.same ?_ rfl rfl rfl rfl rfl rfl rfl rfl rfl rfl rfl rfl rfl rfl rfl rfl)))

theorem fetchEnds_steady (k : FetchNo) (data : List Byte) {s : State}  (h : Steady fw s0 s) :
    Steady fw s0 ((fetchEnds k data s)) := by
  unfold fetchEnds; (try dsimp only); (repeat' split) <;> (iterate 16 (try with_reducible first | assumption | apply freeFetch_steady | apply deliver_steady | (refine Steady.setBaySame ?_ rfl rfl rfl rfl rfl rfl rfl) | (refine Steady.same ?_ rfl rfl rfl rfl rfl rfl rfl rfl rfl rfl rfl rfl rfl rfl rfl rfl)))

theorem endCompare_steady (b : BayNo) (target : Target) {s : State} (h : Steady fw s0 s) :
    Steady fw s0 (endCompare b target s) := by
  unfold endCompare; (try dsimp only); (repeat' split) <;> (iterate 16 (try with_reducible first | assumption | apply setChannel_steady | (refine Steady.setBaySame ?_ rfl rfl rfl rfl rfl rfl rfl) | (refine Steady.same ?_ rfl rfl rfl rfl rfl rfl rfl rfl rfl rfl rfl rfl rfl rfl rfl rfl)))

theorem requesterFails_steady (f : Fetch) {s : State}  (h : Steady fw s0 s) :
    Steady fw s0 ((requesterFails f s)) := by
  unfold requesterFails requesterFails.burnFails; (repeat' split) <;> (iterate 16 (try with_reducible first | assumption | apply abortPrint_steady | apply abandonScan_steady | apply failJob_steady | apply giveCause_steady | apply endCompare_steady | (refine Steady.setBaySame ?_ rfl rfl rfl rfl rfl rfl rfl) | (refine Steady.same ?_ rfl rfl rfl rfl rfl rfl rfl rfl rfl rfl rfl rfl rfl rfl rfl rfl)))

theorem fetchFails_steady (code : FaultCode) (k : FetchNo) {s : State}  (h : Steady fw s0 s) :
    Steady fw s0 ((fetchFails code k s)) := by
  unfold fetchFails; (try dsimp only); (repeat' split) <;> (iterate 16 (try with_reducible first | assumption | apply freeFetch_steady | apply requesterFails_steady | apply reportFault_steady | (refine Steady.setBaySame ?_ rfl rfl rfl rfl rfl rfl rfl) | (refine Steady.same ?_ rfl rfl rfl rfl rfl rfl rfl rfl rfl rfl rfl rfl rfl rfl rfl rfl)))

theorem ageLine_steady (id : LineId) {s : State}  (h : Steady fw s0 s) :
    Steady fw s0 ((ageLine id s)) := by
  unfold ageLine; (try dsimp only); (repeat' split) <;> (iterate 16 (try with_reducible first | assumption | apply setLine_steady | (refine Steady.setBaySame ?_ rfl rfl rfl rfl rfl rfl rfl) | (refine Steady.same ?_ rfl rfl rfl rfl rfl rfl rfl rfl rfl rfl rfl rfl rfl rfl rfl rfl)))

theorem issueBytes_steady (addr : Nat) (bytes : List Byte) {s : State}  (h : Steady fw s0 s) :
    Steady fw s0 ((issueBytes addr bytes s)) := by
  unfold issueBytes; exact Steady.foldl _ (fun u p k => emit_steady _ k) _ h

theorem issueGeneration_steady (addr : Nat) {s : State} (off : fw.generation = false) (h : Steady fw s0 s) :
    Steady fw s0 ((issueGeneration addr s)) := by
  exact issueBytes_steady _ _ { h with generation := fun e => by simp [off] at e }

theorem issueStatus_steady (addr : Nat) {s : State} (off : fw.generation = false) (h : Steady fw s0 s) :
    Steady fw s0 ((issueStatus addr s)) := by
  exact raiseAttention_steady _ (issueGeneration_steady _ off (issueBytes_steady _ _ (issueGeneration_steady _ off h)))

theorem issueOldest_steady {s : State} (off : fw.generation = false) (h : Steady fw s0 s) :
    Steady fw s0 ((issueOldest s)) := by
  unfold issueOldest; split
  · exact h
  · rename_i w rest q
    have k : Steady fw s0 { s with engine := { s.engine with posted := rest, issued := s.engine.issued ++ [w] } } := by
      refine { h with posted := fun e => ?_ }
      have := h.posted e
      rw [q, List.length_cons] at this
      exact Nat.le_of_succ_le this
    dsimp only; split
    · exact issueBytes_steady _ _ k
    · exact issueBytes_steady _ _ (issueBytes_steady _ _ k)
    · exact issueStatus_steady _ off k

theorem writeFails_steady (n : Nat) {s : State}  (h : Steady fw s0 s) :
    Steady fw s0 ((writeFails n s)) := by
  unfold writeFails; (try dsimp only); (repeat' split) <;> (iterate 16 (try with_reducible first | assumption | apply reportFault_steady | (refine Steady.setBaySame ?_ rfl rfl rfl rfl rfl rfl rfl) | (refine Steady.same ?_ rfl rfl rfl rfl rfl rfl rfl rfl rfl rfl rfl rfl rfl rfl rfl rfl)))

theorem drain_steady {s : State}  (h : Steady fw s0 s) :
    Steady fw s0 ((drain s)) := by
  unfold drain; split
  · exact h
  · have k : Steady fw s0 (startDrain { s with bays := s.bays.map Bay.drained }) := by
      refine startDrain_steady (h.mapBays _ (fun r => ?_) (fun r => by unfold Bay.drained; split <;> rfl))
      unfold Bay.drained; split
      · exact BaySteady.refl _
      · exact ⟨fun _ => rfl, fun _ => rfl, fun e => (Nat.sub_le _ _).trans e, fun e => (Nat.sub_le _ _).trans e, id, id⟩
    dsimp only; split
    · exact reportStatus_steady k
    · exact k

theorem createDocket_steady (d : DocketNo) (k : SlotNo) (j : Job) (i : InputBin) (b n : BayNo) {s : State}  (h : Steady fw s0 s) :
    Steady fw s0 ((createDocket d k j i b n s)) := by
  unfold createDocket; (try dsimp only); (repeat' split) <;> (iterate 16 (try with_reducible first | assumption | apply State.setDocket_steady | apply setBayState_steady | apply State.setJob_steady | apply queueTask_steady | (refine Steady.setBaySame ?_ rfl rfl rfl rfl rfl rfl rfl) | (refine Steady.same ?_ rfl rfl rfl rfl rfl rfl rfl rfl rfl rfl rfl rfl rfl rfl rfl rfl)))

theorem considerBay_steady (n : BayNo) {s : State}  (h : Steady fw s0 s) :
    Steady fw s0 ((considerBay n s)) := by
  unfold considerBay; (try dsimp only); (repeat' split) <;> (iterate 16 (try with_reducible first | assumption | apply createDocket_steady | (refine Steady.setBaySame ?_ rfl rfl rfl rfl rfl rfl rfl) | (refine Steady.same ?_ rfl rfl rfl rfl rfl rfl rfl rfl rfl rfl rfl rfl rfl rfl rfl rfl)))

theorem dispatchRound_steady {s : State}  (h : Steady fw s0 s) :
    Steady fw s0 ((dispatchRound s)) := by
  unfold dispatchRound; split
  · have k : Steady fw s0 { s with roundDue := false } := Steady.same h rfl rfl rfl rfl rfl rfl rfl rfl rfl rfl rfl rfl rfl rfl rfl rfl
    dsimp only; split
    · exact Steady.foldl _ (fun u n k => considerBay_steady _ k) _ k
    · exact k
  · exact h

/-- What every rule keeps, one bay's rule being tried after another keeps. -/
theorem bayRule_steady {f : BayNo → State → Option State}
    (k : ∀ b u v, f b u = some v → Steady fw s0 u → Steady fw s0 v) (e : bayRule f s = some t) (h : Steady fw s0 s) :
    Steady fw s0 t := by
  obtain ⟨b, -, e⟩ := List.exists_of_findSome?_eq_some e
  exact k b _ _ e h

theorem settleStep_steady (e : settleStep s = some t) (h : Steady fw s0 s) : Steady fw s0 t := by
  obtain ⟨r, m, e⟩ := List.exists_of_findSome?_eq_some e
  simp only [rules, List.mem_cons, List.not_mem_nil, or_false] at m
  rcases m with rfl | rfl | rfl | rfl | rfl | rfl | rfl | rfl | rfl | rfl | rfl | rfl | rfl | rfl | rfl | rfl | rfl | rfl | rfl |
    rfl | rfl | rfl | rfl | rfl | rfl
  · exact roomStep_steady e h
  · exact threadStep_steady e h
  · exact offerPage_steady e h
  · exact bayRule_steady (fun b _ _ e h => completeGroup_steady b e h) e h
  · exact bayRule_steady (fun b _ _ e h => makeCompare_steady b e h) e h
  · exact bayRule_steady (fun b _ _ e h => sendGroup_steady b e h) e h
  · exact bayRule_steady (fun b _ _ e h => handOffRule_steady b e h) e h
  · exact bayRule_steady (fun b _ _ e h => advanceExtent_steady b e h) e h
  · exact bayRule_steady (fun b _ _ e h => presentExtent_steady b e h) e h
  · exact bayRule_steady (fun b _ _ e h => presentCompare_steady b e h) e h
  · exact bayRule_steady (fun b _ _ e h => cutPiece_steady b e h) e h
  · exact bayRule_steady (fun b _ _ e h => askBurnPage_steady b e h) e h
  · exact bayRule_steady (fun b _ _ e h => issueRead_steady b e h) e h
  · exact bayRule_steady (fun b _ _ e h => presentBlock_steady b e h) e h
  · exact presentBand_steady e h
  · exact startCarriage_steady e h
  · exact presentBoard_steady e h
  · exact cutBurst_steady e h
  · exact grantFetch_steady e h
  · exact endDiscovering_steady e h
  · exact sweepStep_steady e h
  · exact printerEmpties_steady e h
  · exact armStep_steady e h
  · exact grant_steady e h

theorem settle_steady (n : Nat) (h : Steady fw s0 s) : Steady fw s0 (settle n s) := by
  induction n generalizing s with
  | zero => exact h
  | succ n ih =>
    unfold settle; split
    · rename_i e; exact ih (settleStep_steady e h)
    · exact h

theorem conclude_steady (h : Steady fw s0 s) : Steady fw s0 (conclude s) := by
  have k := settle_steady settleFuel h
  exact Steady.same k rfl rfl rfl rfl rfl rfl rfl rfl rfl rfl rfl rfl rfl rfl rfl rfl 

theorem serve_steady (index : Fin 64) (run : State → Answer) (k : ∀ u, Steady fw s0 u → Steady fw s0 (run u).2)
    (h : Steady fw s0 s) : Steady fw s0 (serve index run s) := by
  unfold serve; exact startThread_steady _ (k _ h)

theorem onBay_steady (n : Nat) (run : BayNo → State → Answer) (k : ∀ b u, Steady fw s0 u → Steady fw s0 (run b u).2)
    (h : Steady fw s0 s) : Steady fw s0 (onBay n run s).2 := by
  unfold onBay; split
  · exact k _ _ h
  · exact h

end Sys2Proof.Machine
end

