-- ==== Sys2Proof/Tests/Slice0.lean ====
section
/-! SUPPORT. Tests: ill-formed commands are refused, worked values of the spec come out, and each statement's hypotheses are met
by a concrete state. -/

namespace Sys2Proof.Tests

set_option Elab.async false

open Sys2Proof Sys2Proof.Machine

/-! ### Small states -/

/-- A COPY card that passes every test of R170. -/
def card : CopyCard :=
  { priority := 1, ticket := 7, copies := 3, maxRejects := 2, mediaClass := 1, mask := 0x0FFF#16, speed := 8, policy := 0,
    linkLimit := 2, verify := 1, extentCount := 1, totalSectors := 40, extentTable := 0x4000, signatureTable := 0x5000,
    bandTable := 0x6000, bandCount := 2, reportArea := 0x7000 }

/-- Its job. -/
def job : Job := newJob 5 card

/-- A calibration set. -/
def cal : Calibration :=
  { stations := Vector.replicate 17 50000, floorA := 1000, floorB := 1200, startDuty := 100, cruiseDuty := 800, creepDuty := 60,
    rampStep := 4, braking := 3000 }

/-- A drive. -/
def drive : Drive := { classes := { cd := true, dvd := true, bd := false }, maxSpeed := 16, maxCredits := 4, linkCapable := true }

/-- A RUNNING tower with a board address, RUN set and nothing in hand. -/
def base : State :=
  { State.reset with
    tower := { State.reset.tower with state := .running, calibration := some cal, loader := .idle }
    regs := { Regs.reset with boardLow := 0x1000#32, run := true }
    transport := { State.reset.transport with state := .free } }

/-- A state with bay 0 changed. -/
def bay0 (f : Bay → Bay) (s : State := base) : State := s.setBay 0 (f (s.bay 0))

/-- A docket of the job in slot 0, in bay 0. -/
def docket (st : DocketState) : Docket := { newDocket 0 job .a 0 0 with state := st, place := some .bay, ordinal := some 1 }

/-- Docket 1 in a state, with its job in slot 0. -/
def held (r : Docket) (s : State := base) : State :=
  (s.setJob 0 (some { job with inFlight := 1, nextOrdinal := 2 })).setDocket 1 (some r)

/-- Bay 0 in a state, with docket 1 and some requests outstanding. -/
def working (st : BayState) (reqs : List Request) (s : State) : State :=
  bay0 (fun r => { r with state := st, docket := some 1, drive := some drive, logical := some 0
                          reqs := reqs.map fun q => { req := q, purpose := .normal, left := 1000 } }) s

/-- A task of docket 1. -/
def task (k : TaskKind) (a b : Station) : Task := { docket := 1, kind := k, source := a, dest := b, age := 0 }

/-- The transport busy with a task, at a phase and with a gripper command running. -/
def busy (t : Task) (p : Phase) (g : Option GripCommand) (s : State) : State :=
  { s with transport := { s.transport with
      state := .busy, phase := p, gripper := g
      errand := some { work := .task t, source := some t.source, dest := t.dest, held := false, misses := 0 } } }

/-- The errand of a task. -/
def errand (t : Task) (misses : Nat := 0) : Errand :=
  { work := .task t, source := some t.source, dest := t.dest, held := false, misses := misses }

/-- The lift in a mode. -/
def lift (m : LiftMode) (count : Int := 0) (s : State := base) : State :=
  { s with transport := { s.transport with lift := { s.transport.lift with
      mode := m, count := count, duty := 60, stallTimer := some 9, moveTimer := some 9, settleTimer := some 9, homeTimer := some 9 } } }

/-- The printer changed. -/
def prn (f : Printer → Printer) (s : State := base) : State := { s with printer := f s.printer }

/-- A fetch of a line. -/
def fetch (l : LineId) (t : Target) (orphan : Bool) : Fetch :=
  { line := l, addr := 0x9000, len := 4, target := t, timer := 100, orphan := orphan, stale := false }

/-- Fetch slot 3 taken. -/
def fetching (f : Fetch) (s : State := base) : State :=
  { s with engine := { s.engine with slots := s.engine.slots.set 3 (some f) } }

/-- A configuration image: signature, 4 regions, a plausible geometry, bays 0 to 11, spare 11, bins and health. -/
def image : List Byte :=
  [0x3C#8, 0x5B#8, 4#8, 0#8] ++ (List.replicate 17 [0x50#8, 0xC3#8, 0#8, 0#8]).flatten
    ++ [0xE8#8, 3#8, 0#8, 0#8, 0xB0#8, 4#8, 0#8, 0#8] ++ [100#8, 0#8, 0x20#8, 3#8, 60#8, 0#8, 4#8, 0#8, 0xB8#8, 0x0B#8, 0#8, 0#8]
    ++ [0xFF#8, 0x0F#8, 11#8, 0#8] ++ [1#8, 0#8, 100#8, 0#8, 50#8, 0#8, 0#8, 0#8] ++ [12#8, 3#8, 60#8, 0#8]

/-! ### An ill-formed term of each check is refused -/

theorem test_wf_image : (Instr.configLoadEnd (.image [0x3C#8])).wellFormed = false := by decide
theorem test_wf_image_whole : (Instr.configLoadEnd (.image image)).wellFormed = true := by decide +kernel
theorem test_wf_offsets : ([0, 4, 8, 12, 20].map fun n => (Instr.registerWriteOther n 0#32).wellFormed)
    = [false, false, false, false, false] := by decide
theorem test_wf_offset_state : (Instr.registerWriteOther 16 0#32).wellFormed = true := by decide
theorem test_wf_card : (Instr.copyCard 0 card).wellFormed = true := by decide
theorem test_wf_card_fields :
    [{ card with priority := 4 }, { card with ticket := 2 ^ 32 }, { card with copies := 2 ^ 16 }, { card with maxRejects := 256 },
     { card with mediaClass := 256 }, { card with speed := 256 }, { card with policy := 256 }, { card with linkLimit := 256 },
     { card with verify := 256 }, { card with extentCount := 2 ^ 16 }, { card with totalSectors := 2 ^ 32 },
     { card with extentTable := 2 ^ 64 }, { card with signatureTable := 2 ^ 64 }, { card with bandTable := 2 ^ 64 },
     { card with bandCount := 256 }, { card with reportArea := 2 ^ 64 }].all
      (fun c => !(Instr.copyCard 0 c).wellFormed) = true := by decide +kernel
theorem test_wf_services : [Instr.setTimers 0 (some (2 ^ 32)) none, .setTimers 0 none (some 65536), .setLimits 0 256 0,
    .setLimits 0 0 256, .designateSpare 0 255, .reinstateBay 0 256, .resetBay 0 256].all (fun c => !c.wellFormed) = true := by
  decide
theorem test_wf_messages : [Instr.identity 0 drive.classes 256 1 true, .identity 0 drive.classes 1 256 true,
    .media 0 .blank .dvd (2 ^ 32), .credit 0 16, .written 0 (2 ^ 20), .readData 0 (2 ^ 20) [], .readFail 0 (2 ^ 20),
    .fault 0 256, .requestTimeout 0 (.group (2 ^ 20)), .requestTimeout 0 (.read (2 ^ 20))].all (fun c => !c.wellFormed) = true := by
  decide +kernel
theorem test_wf_read_long : (Instr.readData 0 0 (List.replicate 32769 0#8)).wellFormed = false := by decide +kernel
theorem test_wf_fetch : (Instr.fetchComplete 0 []).wellFormed = false := by decide
theorem test_wf_fetch_long : (Instr.fetchComplete 0 (List.replicate 4097 0#8)).wellFormed = false := by decide +kernel

/-! ### The table spells no command -/

theorem test_decode_none : decodeTableWord 32 0xFFFFFFFF = none := by decide
theorem test_fetch_word : base.withFetchWord 32 1 = base := rfl

/-! ### Worked values -/

/-- The check value of the CRC the spec names: nine digits. -/
theorem test_crc : crc32 [0x31#8, 0x32#8, 0x33#8, 0x34#8, 0x35#8, 0x36#8, 0x37#8, 0x38#8, 0x39#8] = 0xCBF43926#32 := by
  decide +kernel

/-- The worked case of Chapter 9: 3,000 dots, phase 100, the targets of dots 0 to 5. -/
theorem test_dot_targets :
    (List.range 6).map (fun k => (Nat.repeat (fun l => Lane.nextDot l { enabled := true, dots := 3000, phase := 100, addr := 0 }) k
      (Lane.begin Lane.reset { enabled := true, dots := 3000, phase := 100, addr := 0 })).target) = [100, 274, 449, 624, 799, 973] := by
  decide +kernel

/-- The status block leaves as a count, 508 bytes and a count. -/
theorem test_status_body : (statusBody State.reset).length = 508 := by decide +kernel

/-- The table of R46 at 32 and 33 counts from the target. -/
theorem test_duty_creep : laterDuty cal 32 500 = 60 := by decide
theorem test_duty_brake : laterDuty cal 33 500 = 496 := by decide
theorem test_duty_cruise : laterDuty cal 3001 798 = 800 := by decide

/-- A disc class and its card code. -/
theorem test_image_geometry : (parseGeometry image).plausible = true := by decide +kernel

/-! ### The hypotheses of each statement are met -/

theorem test_EmptyQueueIsOneMillisecond_met : State.reset.pending = [] := rfl
theorem test_QuietEventEnds_met : settleStep State.reset = none := by decide +kernel

/-- A state other than the reset state that is within the bounds, with a step. -/
theorem test_StepKeepsBounds_met :
    ({ bay0 (fun r => { r with soft := 15, hard := 15, linkErrors := 65535 }) with pending := [.badFrame 0] } : State).withinBounds
    ∧ ∃ t, step { bay0 (fun r => { r with soft := 15, hard := 15, linkErrors := 65535 }) with pending := [.badFrame 0] } = .next t := by
  refine ⟨⟨?_, ?_, ?_, ?_, ?_⟩, _, rfl⟩
  · unfold State.boardAligned; decide +kernel
  · unfold State.postedBounded; decide +kernel
  · unfold FaultRecord.bounded; decide +kernel
  · unfold State.healthBounded; decide +kernel
  · unfold State.linkErrorsBounded; decide +kernel

theorem test_OnlyTheirCommandsChange_met :
    (∃ t, exec (.badFrame 0) base = .next t) ∧ Instr.badFrame 0 ≠ .powerUp ∧ Instr.badFrame 0 ≠ .linkReset
    ∧ (∀ v, Instr.badFrame 0 ≠ .boardLow v) ∧ (∀ v, Instr.badFrame 0 ≠ .boardHigh v) ∧ (∀ v, Instr.badFrame 0 ≠ .run v)
    ∧ (∀ v, Instr.badFrame 0 ≠ .irqEn v) ∧ (∀ x v, Instr.badFrame 0 ≠ .sensorChange x v)
    ∧ (∀ x v, Instr.badFrame 0 ≠ .sensorSample x v) ∧ (∀ m, Instr.badFrame 0 ≠ .configLoadEnd m)
    ∧ (∀ cls x y l, Instr.badFrame 0 ≠ .identity 0 cls x y l) ∧ Instr.badFrame 0 ≠ .carriageStep
    ∧ Instr.badFrame 0 ≠ .postedWriteIssue := by
  refine ⟨⟨_, rfl⟩, ?_, ?_, ?_, ?_, ?_, ?_, ?_, ?_, ?_, ?_, ?_, ?_⟩ <;> (intros; nofun)

/-- RUN from clear and from set, and the board address with every slot FREE and with one held. -/
theorem test_RegisterWrites_met :
    (({ base with regs := { base.regs with run := false } } : State).regs.run = false
      ∧ ({ base with regs := { base.regs with run := false } } : State).tower.state = .running)
    ∧ base.regs.run = true ∧ (∀ j : SlotNo, base.job j = none) ∧ (held (docket .burning)).job 0 ≠ none := by
  decide +kernel

theorem test_InterruptsSent_met :
    base.regs.irqEn = false ∧ ({ base with regs := { base.regs with halted := true } } : State).regs.halted = true
    ∧ base.regs.attention .cardDone = false
    ∧ ({ base with regs := { base.regs with halted := true } } : State).regs.attention .halted = true := by
  decide +kernel

/-- A scan under way. -/
def scanning : Scan := { base := 0x1000, statusAddr := 0, count := 0, phase := .anchor (Reading.start 0x1000 64) }

theorem test_ScansRequested_met :
    State.reset.boardAddr = 0 ∧ State.reset.board.scanTimer ≠ none ∧ base.boardAddr ≠ 0 ∧ base.board.scan = none
    ∧ ({ base with board := { base.board with scan := some scanning } } : State).boardAddr ≠ 0
    ∧ ({ base with board := { base.board with scan := some scanning } } : State).board.scan ≠ none
    ∧ base.board.scanTimer ≠ none := by
  decide +kernel

/-- Anchors of 1, 64, 0 and 65 cards, and one whose status block address is no multiple of 4. -/
def anchor (count addr : Nat) : List Byte := le 2 count ++ List.replicate 6 0#8 ++ le 8 addr

theorem test_BoardRead_met :
    ({ base with board := { base.board with scan := some scanning } } : State).board.scan = some scanning
    ∧ (1 ≤ field (anchor 1 0x2000) 0 2 ∧ field (anchor 1 0x2000) 0 2 ≤ 64 ∧ field (anchor 1 0x2000) 8 8 % 4 = 0)
    ∧ (1 ≤ field (anchor 64 0) 0 2 ∧ field (anchor 64 0) 0 2 ≤ 64 ∧ field (anchor 64 0) 8 8 % 4 = 0)
    ∧ ¬ 1 ≤ field (anchor 0 0) 0 2 ∧ ¬ field (anchor 65 0) 0 2 ≤ 64 ∧ field (anchor 1 2) 8 8 % 4 ≠ 0
    ∧ ({ base := 0x1040, len := 1, cut := 1, got := [(0, [0#8])] } : Reading).data = some [0#8] := by
  decide +kernel

/-- A scan whose table is whole, one with an ended job's card to write, with and without a scan pending, and two COPY cards to rank. -/
theorem test_BoardRead_ends_met :
    (let s (p : Bool) : State := { base with board := { base.board with scan := some scanning, scanPending := p } }
     (s false).board.scan = some scanning ∧ (s false).finalWrites = [] ∧ (s false).board.scanPending = false
     ∧ (s true).finalWrites = [] ∧ (s true).board.scanPending = true ∧ (s true).boardAddr ≠ 0
     ∧ ((s true).setJob 0 (some { job with state := .ended, outcome := some .done })).finalWrites ≠ [])
    ∧ (let r : Reading := { base := 0x1040, len := 1, cut := 1, got := [(0, [0#8])] }
       let s : State := { base with board := { base.board with
         scan := some { base := 0x1000, statusAddr := 0, count := 1, phase := .table r } } }
       s.board.scan = some { base := 0x1000, statusAddr := 0, count := 1, phase := .table r } ∧ r.data = some [0#8])
    ∧ (∀ c ∈ [((6 : Fin 64), card), (5, { card with priority := 3, ticket := 2 ^ 32 - 1 })], c.2.priority < 4 ∧ c.2.ticket < 2 ^ 32) := by
  decide +kernel

theorem test_CardsWritten_met : Reason.none = .none ∧ Reason.badService ≠ .none := by decide

/-- Cards of each class: TAKEN with and without a slot, POSTED with and without one, cancelled, of kind 0, 1 and 2, and FREE. -/
def cardOf (state kind : Nat) (cancel : Bool) (i : Fin 64) : Card :=
  { index := i, state := state, kind := kind, cancel := cancel, good := 0, reject := 0, copy := card
    service := { code := 0, bay := 0, scan := none, drain := none, soft := 0, hard := 0 } }

theorem test_CardOrder_met :
    (held (docket .burning)).slotOfCard 5 = some 0 ∧ (held (docket .burning)).slotOfCard 6 = none
    ∧ (cardOf 2 1 true 5).state = 2 ∧ (cardOf 1 1 false 5).state = 1 ∧ (cardOf 1 1 true 6).cancel = true
    ∧ ((cardOf 1 0 false 6).kind ≠ 1 ∧ (cardOf 1 0 false 6).kind ≠ 2) ∧ (cardOf 1 2 false 6).kind = 2
    ∧ (cardOf 1 1 false 6).kind = 1 ∧ ((cardOf 0 1 false 6).state ≠ 1 ∧ (cardOf 0 1 false 6).state ≠ 2) := by
  decide +kernel

/-- The acts of a snapshot with a card of every class, two services among them: the lower ticket first (R169). -/
theorem test_scanActs :
    (held (docket .burning)).scanActs [cardOf 1 1 false 9, { cardOf 1 2 false 8 with copy := { card with ticket := 9 } }, cardOf 1 2 false 10,
        cardOf 1 0 false 7, cardOf 0 1 false 6, cardOf 2 1 true 5, cardOf 2 1 false 4, cardOf 1 1 true 3]
      = [.cancelJob 0, .orphan 4 0 0, .cancelPosted 3, .badKind 7, .service 10 (cardOf 1 2 false 10).service,
         .service 8 (cardOf 1 2 false 8).service, .copies [(9, card)]] := by
  decide +kernel

/-- Cards that fail each test alone, at the ends of its range, and an uncalibrated tower. -/
theorem test_CopyRefusals_met :
    base.slotOfCard 5 = none
    ∧ [refusal { card with copies := 0 } base, refusal { card with copies := 10000 } base, refusal { card with mediaClass := 3 } base,
       refusal { card with mask := 0#16 } base, refusal { card with mask := 0x1000#16 } base,
       refusal { card with totalSectors := 0 } base, refusal { card with totalSectors := 16777217 } base,
       refusal { card with extentCount := 0 } base, refusal { card with speed := 17 } base, refusal { card with policy := 2 } base,
       refusal { card with linkLimit := 16 } base, refusal { card with bandTable := 0x6002 } base,
       refusal { card with bandCount := 65 } base,
       refusal card { base with tower := { base.tower with state := .uncalibrated } }]
      = [.badCopies, .badCopies, .badClass, .badMask, .badMask, .badImage, .badImage, .badImage, .badImage, .badImage, .badImage,
         .badAlign, .badLabel, .uncalibrated]
    ∧ refusal { card with copies := 1 } base = .none ∧ refusal { card with copies := 9999 } base = .none
    ∧ refusal { card with bandCount := 64 } base = .none ∧ refusal { card with bandCount := 0, bandTable := 2 } base = .none := by
  decide +kernel

/-- Every slot held. -/
def full : State := { base with jobs := Vector.replicate 8 (some job) }

theorem test_CopyAccepted_met :
    base.slotOfCard 5 = none ∧ refusal card base = .none ∧ base.job 0 = none ∧ (∀ k : SlotNo, k < 0 → base.job k ≠ none)
    ∧ (held (docket .burning)).slotOfCard 6 = none ∧ refusal card (held (docket .burning)) = .none
    ∧ (held (docket .burning)).job 1 = none ∧ (∀ k : SlotNo, k < 1 → (held (docket .burning)).job k ≠ none)
    ∧ full.slotOfCard 6 = none ∧ refusal card full = .none ∧ (∀ j : SlotNo, full.job j ≠ none)
    ∧ (held (docket .burning)).slotOfCard 5 ≠ none := by
  decide +kernel

/-- Intervals in and out of their ranges, faults present and absent, and bay numbers 12 and 255. -/
theorem test_PlainServices_met :
    (¬ ((49 : Nat) = 0 ∨ (50 ≤ 49 ∧ 49 ≤ 10000))) ∧ ((50 : Nat) = 0 ∨ (50 ≤ 50 ∧ 50 ≤ 10000))
    ∧ ((10000 : Nat) = 0 ∨ (50 ≤ 10000 ∧ 10000 ≤ 10000)) ∧ ¬ (1 ≤ 1441 ∧ 1441 ≤ 1440) ∧ (1 ≤ 1440 ∧ 1440 ≤ 1440)
    ∧ base.faults = FaultRecord.clear ∧ ({ base with faults := { base.faults with bay := 1 } } : State).faults ≠ FaultRecord.clear
    ∧ 12 ≤ 12 ∧ 12 ≤ 255 := by
  decide +kernel

theorem test_LimitsSet_met :
    ¬ (16 ≤ 15 ∧ 0 ≤ 15) ∧ (15 ≤ 15 ∧ 15 ≤ 15) ∧ (∀ b : BayNo, ((4 : Nat) = 0 ∨ (base.bay b).soft < 4) ∧ ((0 : Nat) = 0 ∨ (base.bay b).hard < 0))
    ∧ ((bay0 fun r => { r with state := .idle, soft := 4 }).bay 0).failing = false
    ∧ ((4 : Nat) ≠ 0 ∧ 4 ≤ ((bay0 fun r => { r with state := .idle, soft := 4 }).bay 0).soft)
    ∧ ((bay0 fun r => { r with state := .idle, soft := 4 }).bay 0).state = .idle
    ∧ (let s := bay0 fun r => { r with state := .opening, soft := 4 }
       (s.bay 0).failing = false ∧ (s.bay 0).soft = 4 ∧ (s.bay 0).state = .opening ∧ s.health.spare ≠ some 0)
    ∧ ¬ ((base.bay 0).failing = false ∧ ((4 ≠ 0 ∧ 4 ≤ (base.bay 0).soft) ∨ ((3 : Nat) ≠ 0 ∧ 3 ≤ (base.bay 0).hard)))
    ∧ base.health.spare ≠ some 0 := by
  decide +kernel

/-- Bay 0 with number 0, and bay 11 the designated spare. -/
def spared (st : BayState) : State :=
  let s := bay0 (fun r => { r with state := st, logical := some 0 })
  setSpare (some 11) (s.setBay 11 { s.bay 11 with state := .spare })

theorem test_RetirementAndTakeover_met :
    ((spared .idle).bay 0).state ≠ .retired ∧ (11 : BayNo) ≠ 0 ∧ (spared .idle).health.spare = some 11
    ∧ ((spared .idle).bay 11).state = .spare ∧ ((spared .idle).bay 0).logical = some 0 ∧ (base.bay 0).state ≠ .retired
    ∧ (base.bay 0).logical = none ∧ (spared .idle).faults.first = none ∧ (spared .idle).hasReq 11 .identify = false
    ∧ (let s := (spared .idle).setBay 11 { (spared .idle).bay 11 with state := .resetting }
       (s.bay 0).logical = some 0 ∧ (∃ sp : BayNo, s.health.spare = some sp ∧ (s.bay sp).state ≠ .spare))
    ∧ (setSpare (some 0) (spared .probing)).health.spare = some 0 ∧ ((setSpare (some 0) (spared .probing)).bay 0).state ≠ .spare
    ∧ base.health.spare = none
    ∧ (let s : State := { spared .idle with faults := { base.faults with
         bay := 255, first := some { code := .jam, bay := none, docket := none, time := 1 } } }
       s.faults.first ≠ none) := by
  decide +kernel

/-- The state with bay 0 at number 0 and a spare meets the invariant of the bay map, and has a step. -/
theorem test_RetirementAndTakeover_invariant_met :
    (spared .idle).numbersDistinct ∧ ∃ t, step (spared .idle) = .next t := by
  refine ⟨?_, _, rfl⟩
  unfold State.numbersDistinct; decide +kernel

theorem test_SpareDesignated_met :
    ((bay0 fun r => { r with installed := false }).bay 0).installed = false
    ∧ ((spared .retired).bay 0).state = .retired ∧ ((spared .retired).bay 0).installed = true
    ∧ ((spared .idle).bay 11).failing = false ∧ (spared .idle).health.spare = some 11 ∧ ((spared .idle).bay 11).state ≠ .retired
    ∧ (∃ x : BayNo, (spared .idle).health.spare = some x ∧ x ≠ 0)
    ∧ ((working .burning [] (held (docket .burning))).bay 0).docket.isSome = true ∧ (working .burning [] base).health.spare = none
    ∧ (let r := (bay0 fun r => { r with state := .idle }).bay 0
       r.state = .idle ∧ ¬ (r.docket.isSome = true ∨ r.channel.isOpen = true ∨ r.stranded = true ∨ r.state.working = true))
    ∧ (let r := base.bay 0
       r.state = .absent ∧ ¬ (r.docket.isSome = true ∨ r.channel.isOpen = true ∨ r.stranded = true ∨ r.state.working = true)) := by
  decide +kernel

theorem test_SpareReturned_met :
    base.health.spare = none ∧ (spared .idle).health.spare = some 11 ∧ (∀ x : BayNo, x ≠ 11 → ((spared .idle).bay x).logical ≠ some 11)
    ∧ ((spared .idle).bay 11).state = .spare ∧ ((spared .idle).bay 11).failing = false
    ∧ (spared .idle).tower.state = .running ∧ (spared .idle).regs.run = true
    ∧ (∃ x : BayNo, x ≠ 11 ∧ (((spared .idle).setBay 3 { (spared .idle).bay 3 with logical := some 11 }).bay x).logical = some 11)
    ∧ (let s := (spared .idle).setBay 11 { (spared .idle).bay 11 with failing := true }
       (s.bay 11).state = .spare ∧ (s.bay 11).failing = true)
    ∧ (let s := (spared .idle).setBay 11 { (spared .idle).bay 11 with state := .resetting }
       (s.bay 11).state ≠ .spare)
    ∧ (let s := bay0 fun r => { r with state := .discovering, reqs := [{ req := .identify, purpose := .normal, left := 9 }] }
       s.health.spare ≠ some 0 ∧ (s.bay 0).state = .discovering ∧ s.hasReq 0 .identify = true ∧ (s.bay 0).docket = none
       ∧ (s.bay 0).stranded = false ∧ (s.bay 0).failing = false) := by
  decide +kernel

theorem test_BayReinstated_met :
    ((bay0 fun r => { r with installed := false }).bay 0).installed = false ∧ (base.bay 0).state ≠ .retired
    ∧ ((bay0 fun r => { r with state := .retired }).bay 0).state = .retired
    ∧ (∀ x : BayNo, ((bay0 fun r => { r with state := .retired }).bay x).logical ≠ some 0)
    ∧ (let s := (bay0 fun r => { r with state := .retired }).setBay 11 { base.bay 11 with logical := some 0 }
       (∃ x : BayNo, (s.bay x).logical = some 0) ∧ s.health.spare = none ∧ (setSpare (some 5) s).health.spare ≠ none) := by
  decide +kernel

/-- A designated bay that retired by its stranded probe takes its own number at REINSTATE_BAY and is designated no more (R145); where
another bay holds that number it is designated anew. -/
theorem test_reinstate_designated :
    (let s := setSpare (some 0) (bay0 fun r => { r with state := .retired })
     let held := s.setBay 11 { s.bay 11 with logical := some 0 }
     ((reinstateRole 0 s).bay 0).logical = some 0 ∧ (reinstateRole 0 s).health.spare = none
     ∧ ((reinstateRole 0 held).bay 0).logical = none ∧ (reinstateRole 0 held).health.spare = some 0) := by
  decide +kernel

theorem test_BayReset_met :
    ((bay0 fun r => { r with installed := false }).bay 0).installed = false
    ∧ ((bay0 fun r => { r with state := .retired }).bay 0).state = .retired
    ∧ ((bay0 fun r => { r with state := .resetting }).bay 0).state = .resetting
    ∧ ((working .holding [] (held (docket .goodWait))).bay 0).state = .holding
    ∧ ((working .holding [] (held (docket .goodWait))).bay 0).docket = some 1
    ∧ (working .holding [] (held (docket .goodWait))).docket 1 = some (docket .goodWait) ∧ (docket .goodWait).cause = .none
    ∧ (docket .goodWait).state ≠ .reserved ∧ (docket .reserved).state = .reserved
    ∧ (working .reserved [] (held (docket .reserved))).docket 1 = some (docket .reserved) := by
  decide +kernel

theorem test_TransportServices_met :
    base.transport.state ≠ .halted ∧ ({ base with transport := { base.transport with state := .halted } } : State).transport.state = .halted
    ∧ base.sensor .liftHome = false ∧ (base.setFilter .liftHome { on := true, agree := 0 }).sensor .liftHome = true
    ∧ ({ base with tower := { base.tower with state := .halted } } : State).tower.state = .halted ∧ base.tower.state ≠ .halted
    ∧ (∃ d : DocketNo, (held (docket .burning)).docket d ≠ none) ∧ (∀ d : DocketNo, base.docket d = none)
    ∧ State.reset.tower.state = .loading ∧ (∀ d : DocketNo, State.reset.docket d = none) ∧ base.tower.state ≠ .loading := by
  decide +kernel

/-! ### Dispatch -/

/-- A job in slot 0, an idle bay 0 with number 0, and bin A LOADED with the job's class. -/
def idling : State :=
  bay0 (fun r => { r with state := .idle, logical := some 0, drive := some drive }) (base.setJob 0 (some job))

theorem test_DispatchRound_met :
    base.roundDue = false ∧ ({ State.reset with roundDue := true } : State).tower.state = .loading
    ∧ (({ base with roundDue := true } : State).tower.state = .running ∧ ({ base with roundDue := true } : State).regs.run = true)
    ∧ idling.bayOfLogical 0 = some 0 ∧ (idling.bay 0).state = .idle ∧ (idling.bay 0).failing = false
    ∧ idling.pairing (idling.bay 0) 0 = some (0, job, .a) ∧ idling.freeDocket = some 0
    ∧ (∀ t ∈ idling.transport.queue, t.docket ≠ 0) ∧ idling.taskInFlight = none
    ∧ (∀ x y n : BayNo, (idling.bay x).logical = some n → (idling.bay y).logical = some n → x = y)
    ∧ idling.docket 0 = none ∧ (∀ b : BayNo, (idling.bay b).logical ≠ some 1) ∧ (idling.bay 0).logical = some 0
    ∧ ((spared .holding).bay 0).state ≠ .idle ∧ ((spared .holding).bay 0).logical = some 0
    ∧ (({ idling with bins := { idling.bins with a := { cls := .dvd, state := .empty } } } : State).pairing (idling.bay 0) 0 = none)
    ∧ (∀ d : DocketNo, ({ idling with dockets := Vector.replicate 16 (some (docket .burning)) } : State).docket d ≠ none) := by
  decide +kernel

theorem test_PairingIsFirst_met :
    (idling.bay 0).drive = some drive ∧ (∀ k : SlotNo, k ≠ 0 → idling.job k = none)
    ∧ idling.job 0 = some job ∧ job.priority < 4 ∧ job.ticket < 2 ^ 32
    ∧ idling.pairing (idling.bay 0) 0 = some (0, job, .a)
    ∧ ({ idling with bins := { idling.bins with a := { cls := .dvd, state := .empty } } } : State).pairing (idling.bay 0) 0 = none := by
  decide +kernel

/-- The premise with a job that has all its copies in hand. -/
theorem test_DemandKept_met : (base.setJob 0 (some { job with good := 1, inFlight := 2 })).demandKept := by
  unfold State.demandKept
  intro k j h
  obtain ⟨k, hk⟩ := k
  have all : ∀ k : SlotNo, (base.setJob 0 (some { job with good := 1, inFlight := 2 })).job k
      = if k = 0 then some { job with good := 1, inFlight := 2 } else none := by decide +kernel
  rw [all] at h
  split at h
  · cases h; decide
  · cases h

/-- A PRINTER_OUT older than the UNLOAD that stands before it in the order of grants. -/
def queued : State :=
  let s := prn (fun p => { p with state := .readyOut }) (spared .holding)
  { s with transport := { s.transport with queue :=
      [{ docket := 1, kind := .load, source := .input .a, dest := .bay 1, age := 1 },
       { docket := 2, kind := .unload, source := .bay 0, dest := .printer, age := 2 },
       { docket := 3, kind := .unload, source := .bay 0, dest := .output .good, age := 3 },
       { docket := 4, kind := .printerOut, source := .printer, dest := .output .good, age := 4 }] } }

theorem test_TaskEligible_met :
    (queued.transport.queue.map queued.eligible) = [false, false, true, true]
    ∧ (∃ u ∈ queued.transport.queue, queued.eligible u = true) ∧ queued.nextTask.map (·.docket) = some 4 := by
  decide +kernel

/-- The PRINTER_OUT, not the older UNLOAD, a LOAD whose bin is EMPTY, and an event that is not over while one can be granted. -/
theorem test_GrantOrder_met :
    (queued.transport.state = .free ∧ ∃ t ∈ queued.transport.queue, queued.eligible t = true)
    ∧ queued.nextTask = some { docket := 4, kind := .printerOut, source := .printer, dest := .output .good, age := 4 }
    ∧ ({ docket := 3, kind := .unload, source := .bay 0, dest := .output .good, age := 3 } : Task) ∈ queued.transport.queue
    ∧ queued.eligible { docket := 3, kind := .unload, source := .bay 0, dest := .output .good, age := 3 } = true
    ∧ (settleStep queued).isSome = true ∧ ¬ ∃ t ∈ base.transport.queue, base.eligible t = true := by
  decide +kernel

/-- A LOAD of bin A for bay 0, its bin in a state and the bay's tray in another. -/
def loading (bin : InputBinState) (tray : Tray) : State :=
  let s := setInput .a bin (bay0 (fun r => { r with tray := tray }) (working .reserved [] (held (docket .reserved))))
  { s with transport := { s.transport with queue := [task .load (.input .a) (.bay 0)] } }

theorem test_GrantOrder_loads_met :
    (let s := loading .loaded .open
     s.transport.state = .free ∧ s.nextTask = some (task .load (.input .a) (.bay 0)) ∧ (s.bins.input .a).state ≠ .empty
     ∧ (s.bay 0).tray = .open ∧ s.hasReq 0 .trayClose = false)
    ∧ ((loading .loaded .closed).nextTask = some (task .load (.input .a) (.bay 0))
      ∧ ((loading .loaded .closed).bay 0).tray ≠ .open)
    ∧ (let s := loading .empty .closed
       s.nextTask = some (task .load (.input .a) (.bay 0)) ∧ (s.bins.input .a).state = .empty
       ∧ s.docket 1 = some (docket .reserved) ∧ (s.bay 0).docket = some 1 ∧ (s.bay 0).state = .reserved ∧ (s.bay 0).failing = false
       ∧ s.job 0 = some { job with inFlight := 1, nextOrdinal := 2 }) := by
  decide +kernel

/-! ### Transport -/

theorem test_SampleFilter_met :
    (base.filter .contact).on = false ∧ (base.filter .contact).agree < 3
    ∧ ((base.setFilter .contact { on := false, agree := 2 }).filter .contact).agree < 3
    ∧ 3 ≤ ((base.setFilter .contact { on := false, agree := 3 }).filter .contact).agree := by
  decide +kernel

/-- A printer in a state, with docket 1 and tray-present as given. -/
def printing (st : PrinterState) (tray : Bool) (s : State := held { docket .printing with place := some .printer }) : State :=
  (prn (fun p => { p with state := st, docket := some 1 }) s).setFilter .trayPresent { on := tray, agree := 0 }

theorem test_SensorChanges_met :
    base.sensor .contact = false ∧ base.transport.carrying = false
    ∧ base.sensor .trayPresent = false ∧ base.printer.state = .empty ∧ base.placingAtPrinter = false ∧ base.tower.state = .running
    ∧ State.reset.sensor .trayPresent = false ∧ State.reset.printer.state = .empty ∧ State.reset.placingAtPrinter = false
    ∧ State.reset.tower.state ≠ .running
    ∧ (printing .seating false).sensor .trayPresent = false ∧ (printing .seating false).printer.state ≠ .empty
    ∧ (printing .spinup true).sensor .trayPresent = true ∧ (printing .spinup true).printer.docket = some 1
    ∧ (printing .spinup true).grippingAtPrinter = false
    ∧ (base.setFilter .trayPresent { on := true, agree := 0 }).sensor .trayPresent = true ∧ base.printer.docket = none := by
  decide +kernel

/-- The arm carries the disc of docket 1 from bay 0 to the GOOD bin. -/
def carrying : State :=
  let s := busy (task .unload (.bay 0) (.output .good)) (.lift .place) none (held { docket .outbound with place := some .arm })
  { s with transport := { s.transport with
      carrying := true, errand := s.transport.errand.map fun (e : Errand) => { e with held := true } } }.setFilter .discPresent { on := true, agree := 0 }

/-- The arm carries a disc that belongs to no docket while it goes to input bin A for docket 1. -/
def carryingOther : State :=
  let s := busy (task .load (.input .a) (.bay 0)) (.lift .pick) none (held (docket .reserved))
  { s with transport := { s.transport with carrying := true } }.setFilter .discPresent { on := true, agree := 0 }

theorem test_DiscsDropped_met :
    carrying.sensor .discPresent = true ∧ carrying.transport.carrying = true
    ∧ carrying.taskInFlight = some (task .unload (.bay 0) (.output .good))
    ∧ carrying.docket 1 = some { docket .outbound with place := some .arm } ∧ carrying.transport.state = .busy
    ∧ carrying.transport.errand = some { errand (task .unload (.bay 0) (.output .good)) with held := true }
    ∧ carrying.faults.first = none ∧ (∀ b : BayNo, (carrying.bay b).failing = false)
    ∧ (let s := busy (task .unload (.bay 0) .printer) .awaitTray none (held { docket .outbound with place := some .arm })
       let u : State := { s with transport := { s.transport with placeTimer := some 500 } }
       u.transport.placeTimer ≠ none ∧ u.transport.phase = .awaitTray ∧ u.taskInFlight = some (task .unload (.bay 0) .printer)
       ∧ u.docket 1 = some { docket .outbound with place := some .arm }) := by
  decide +kernel

theorem test_DiscsDropped_other_met :
    carryingOther.sensor .discPresent = true ∧ carryingOther.transport.carrying = true
    ∧ carryingOther.taskInFlight = some (task .load (.input .a) (.bay 0))
    ∧ carryingOther.transport.errand = some (errand (task .load (.input .a) (.bay 0)))
    ∧ (errand (task .load (.input .a) (.bay 0))).held = false ∧ carryingOther.transport.state = .busy
    ∧ carryingOther.faults.first = none ∧ carryingOther.tower.state = .running := by
  decide +kernel

/-- A drop of a disc that belongs to no docket loses none (R52): the LOAD keeps its RESERVED docket, and the transport halts. -/
theorem test_discFalls_other :
    (discFalls carryingOther).docket 1 = some (docket .reserved) ∧ (discFalls carryingOther).transport.state = .halted
    ∧ (discFalls carryingOther).taskInFlight = some (task .load (.input .a) (.bay 0)) := by
  decide +kernel

/-- A disc that fell while the transport was HALTED is carried no more after the CALIBRATE that ends the halt; one still held is. -/
theorem test_stopTransport_carrying :
    (let s : State := { carrying with transport := { carrying.transport with state := .halted } }
     (stopTransport s).transport.carrying = true
     ∧ (stopTransport (s.setFilter .discPresent { on := false, agree := 0 })).transport.carrying = false) := by
  decide +kernel

/-- A carried disc in each state that takes a drop, with no errand and with a sweep move, and in HALTED. -/
theorem test_DiscsDropped_states_met :
    (∀ st ∈ [TransportState.busy, .homing, .sweeping, .free, .halted], ∀ e ∈ [none, some (sweepErrand none true)],
      let s : State := { carrying with transport := { carrying.transport with state := st, errand := e } }
      s.sensor .discPresent = true ∧ s.transport.carrying = true ∧ s.transport.state = st ∧ s.faults.first = none
      ∧ e.all (fun x => x.work == .sweep) = true)
    ∧ (∀ st ∈ [TransportState.homing, .sweeping, .free],
      let s : State := { carrying with transport := { carrying.transport with state := st } }
      s.taskInFlight = some (task .unload (.bay 0) (.output .good)) ∧ s.transport.state = st
      ∧ s.transport.errand = some { errand (task .unload (.bay 0) (.output .good)) with held := true }) := by
  decide +kernel

/-- A target 4 counts above, and one 5 counts above, the count after the edge. -/
theorem test_EncoderEdges_met :
    (lift (.move 105) 100).transport.lift.mode = .move 105 ∧ ((105 : Int) - 101).natAbs ≤ 4 ∧ ¬ ((106 : Int) - 101).natAbs ≤ 4
    ∧ (lift (.correct 105) 100).transport.lift.mode = .correct 105 ∧ (lift (.descend 105) 100).transport.lift.mode = .descend 105
    ∧ (lift .still).transport.lift.mode = .still ∧ (lift (.settling 5 true)).transport.lift.mode = .settling 5 true
    ∧ (lift .homeUp).transport.lift.mode = .homeUp ∧ (lift .homeDown).transport.lift.mode = .homeDown := by
  decide +kernel

theorem test_LiftMoves_met :
    (lift (.move 100) 68).transport.lift.mode = .move 100 ∧ ((100 : Int) - 68).natAbs ≤ 32
    ∧ (32 < ((100 : Int) - 67).natAbs ∧ ((100 : Int) - 67).natAbs ≤ base.cal.braking)
    ∧ (32 < ((3001 : Int) - 0).natAbs ∧ base.cal.braking < ((3001 : Int) - 0).natAbs)
    ∧ ((4 : Int) - 0).natAbs ≤ 4 ∧ 4 < ((5 : Int) - 0).natAbs
    ∧ (lift (.settling 4 false)).transport.lift.mode = .settling 4 false ∧ (lift (.settling 4 false)).transport.lift.settleTimer ≠ none
    ∧ (lift (.settling 5 true)).transport.lift.mode = .settling 5 true := by
  decide +kernel

theorem test_MotionLimits_met :
    ((lift (.move 100)).transport.lift.stallTimer ≠ none ∧ (lift (.move 100)).transport.lift.duty ≠ 0)
    ∧ base.transport.lift.stallTimer = none ∧ (lift (.move 100)).transport.lift.moveTimer ≠ none
    ∧ base.transport.lift.moveTimer = none
    ∧ (let l : Lift := { (lift .homeUp).transport.lift with travel := 2000 }
       l.mode = .homeUp ∧ 2000 ≤ l.travel)
    ∧ (let l : Lift := { (lift .homeDown).transport.lift with travel := 210000 }
       l.mode = .homeDown ∧ 210000 ≤ l.travel)
    ∧ (lift .homeDown).transport.lift.homeTimer ≠ none ∧ base.transport.lift.homeTimer = none
    ∧ ({ base with transport := { base.transport with swingTimer := some 3000 } } : State).transport.swingTimer ≠ none
    ∧ base.transport.swingTimer = none := by
  decide +kernel

theorem test_FaultHaltsTransport_met :
    base.tower.state = .running ∧ State.reset.tower.state ≠ .running ∧ base.faults.first = none
    ∧ ({ base with faults := { base.faults with first := some { code := .jam, bay := none, docket := none, time := 1 } } } :
        State).faults.first ≠ none := by
  decide +kernel

/-- An errand of each kind: a task at bay 0, a LOAD for bay 0 redirected to the reject bin, which names no bay, the motion of a dissolved
LOAD into bay 0, a move of the sweep. -/
theorem test_FaultHaltsTransport_errands_met :
    (busy (task .unload (.bay 0) .printer) .none none base).taskInFlight = some (task .unload (.bay 0) .printer)
    ∧ (let e : Errand := { work := .task (task .load (.input .a) (.bay 0)), source := some (.input .a), dest := .output .reject
                           held := true, misses := 0 }
       let s : State := { base with transport := { base.transport with errand := some e } }
       s.transport.errand = some e ∧ s.taskInFlight.bind Task.bay = none)
    ∧ (let e : Errand := { work := .ended, source := some (.input .a), dest := .bay 0, held := false, misses := 0 }
       ({ base with transport := { base.transport with errand := some e } } : State).transport.errand = some e)
    ∧ (({ base with transport := { base.transport with errand := some (sweepErrand none true) } } : State).transport.errand).isSome = true := by
  decide +kernel

/-- A gripper command of docket 1's task has run its time, disc-present as given. -/
def gripping (t : Task) (p : Phase) (g : GripCommand) (disc : Bool) (r : Docket) (misses : Nat := 0) : State :=
  let s := busy t p (some g) (held r)
  ({ s with transport := { s.transport with gripTimer := some 0, errand := s.transport.errand.map fun e => { e with misses := misses } } }
    : State).setFilter .discPresent { on := disc, agree := 0 }

theorem test_GripHolds_met :
    [gripping (task .load (.input .a) (.bay 0)) .grip .grip true (docket .reserved),
     gripping (task .unload (.bay 0) .printer) .grip .grip true (docket .goodWait),
     gripping (task .printerOut .printer (.output .good)) .grip .grip true (docket .printedWait)].all (fun s =>
       s.transport.gripper == some .grip && s.transport.phase == .grip && s.sensor .discPresent && (s.docket 1).isSome
       && s.job 0 == some { job with inFlight := 1, nextOrdinal := 2 }) = true
    ∧ (gripping (task .load (.input .a) (.bay 0)) .grip .grip true (docket .reserved)).transport.errand
        = some (errand (task .load (.input .a) (.bay 0)))
    ∧ (let s := (gripping (task .unload (.bay 0) .printer) .grip .grip true (docket .goodWait))
       (working .open [] s).transport.errand = some (errand (task .unload (.bay 0) .printer))
       ∧ ((working .open [] s).bay 0).state = .open ∧ (working .open [] s).docket 1 = some (docket .goodWait)) := by
  decide +kernel

theorem test_MissesAndArmSteps_met :
    [gripping (task .load (.input .a) (.bay 0)) .grip .grip false (docket .reserved),
     gripping (task .load (.input .a) (.bay 0)) .grip .grip false (docket .reserved) 1,
     gripping (task .unload (.bay 0) .printer) .grip .grip false (docket .goodWait),
     gripping (task .printerOut .printer (.output .good)) .grip .grip false (docket .printedWait)].all (fun s =>
       s.transport.gripper == some .grip && s.transport.phase == .grip && !s.sensor .discPresent && (s.docket 1).isSome
       && s.transport.state == .busy && (s.bins.input .a).state == .loaded) = true
    ∧ (gripping (task .load (.input .a) (.bay 0)) .grip .grip false (docket .reserved) 1).transport.errand
        = some (errand (task .load (.input .a) (.bay 0)) 1) := by
  decide +kernel

/-- A pick at bay 0 whose disc is gone, the bay OPEN, and a carried disc that falls in STOPPED. -/
theorem test_MissesAndArmSteps_drops_met :
    (let s := working .open [] (gripping (task .unload (.bay 0) .printer) .grip .grip false (docket .goodWait))
     s.transport.gripper = some .grip ∧ s.transport.phase = .grip ∧ s.sensor .discPresent = false
     ∧ s.transport.errand = some (errand (task .unload (.bay 0) .printer)) ∧ s.docket 1 = some (docket .goodWait)
     ∧ s.transport.state = .busy ∧ (s.bay 0).state = .open ∧ (∀ x : BayNo, (s.bay x).failing = false) ∧ s.faults.first = none)
    ∧ (let s : State := { base with transport := { base.transport with state := .stopped, carrying := true } }
       (s.setFilter .discPresent { on := true, agree := 0 }).sensor .discPresent = true
       ∧ s.transport.carrying = true ∧ s.transport.state = .stopped) := by
  decide +kernel

/-- A LOAD dissolved in the return after a first miss: the lift stops and starts its return afresh, at the start duty (R54). -/
theorem test_stopPick_return :
    (let s := lift (.move 50000) 40000 (busy (task .load (.input .a) (.bay 0)) .returnRetry none (held (docket .reserved)))
     s.transport.lift.duty = 60 ∧ (stopPick s).transport.lift.duty = 100 ∧ (stopPick s).transport.phase = .returnEnd
     ∧ (stopPick s).transport.lift.moveTimer = some 10000 ∧ (stopPick s).taskInFlight = none) := by
  decide +kernel

/-- A LOAD in flight at each phase in which its docket may be dissolved before a grip has held. -/
theorem test_MissesAndArmSteps_dissolved_met :
    ∀ p ∈ [Phase.descend, .returnRetry, .grip, .openMiss, .lift .pick, .turn .pick, .ready .pick],
      let s := busy (task .load (.input .a) (.bay 0)) p none (held (docket .reserved))
      s.transport.state = .busy ∧ s.transport.errand = some (errand (task .load (.input .a) (.bay 0)))
      ∧ (errand (task .load (.input .a) (.bay 0))).source = some (.input .a) ∧ s.transport.phase = p := by
  decide +kernel

/-- The arm at a phase of a task, its lift still or moving. -/
def arm (t : Task) (p : Phase) (moving : Bool := false) (s : State := held (docket .reserved)) : State :=
  let u := busy t p none s
  { u with transport := { u.transport with lift := { u.transport.lift with mode := if moving then .move 9 else .still } } }

/-- A lift at a floor's distance of 4 and of 5, homing from on top of lift home and below it, and each station's readiness. -/
theorem test_MissesAndArmSteps_steps_met :
    (∀ p ∈ [Phase.homeUp, .homeDown, .homeSwing, .raise, .lift .pick, .turn .place, .ready .pick, .ready .place, .descend,
        .returnRetry, .returnEnd, .awaitTray], (arm (task .load (.input .a) (.bay 0)) p).transport.phase = p
        ∧ (arm (task .load (.input .a) (.bay 0)) p).transport.state = .busy
        ∧ (arm (task .load (.input .a) (.bay 0)) p).transport.lift.mode = .still
        ∧ (arm (task .load (.input .a) (.bay 0)) p).transport.errand = some (errand (task .load (.input .a) (.bay 0)))
        ∧ (arm (task .load (.input .a) (.bay 0)) p).docket 1 = some (docket .reserved)
        ∧ (arm (task .load (.input .a) (.bay 0)) p true).transport.lift.mode ≠ .still)
    ∧ (base.setFilter .liftHome { on := true, agree := 0 }).sensor .liftHome = true ∧ base.sensor .liftHome = false
    ∧ (base.setFilter .swingBin { on := true, agree := 0 }).sensor .swingBin = true ∧ base.sensor .swingBin = false
    ∧ base.transport.swing ≠ some .bin ∧ ({ base with transport := { base.transport with swing := some .bin } } : State).transport.swing = some .bin
    ∧ (base.setFilter .stackA { on := true, agree := 0 }).sensor .stackA = true ∧ base.sensor .stackA = false
    ∧ (base.setFilter .contact { on := true, agree := 0 }).sensor .contact = true ∧ base.sensor .contact = false
    ∧ (((base.cal.floorA : Int) - 996).natAbs ≤ 4 ∧ 4 < ((base.cal.floorA : Int) - 995).natAbs)
    ∧ (base.bins.input .a).state = .loaded ∧ ((setInput .a .open base).bins.input .a).state = .open
    ∧ (let s := bay0 (fun r => { r with tray := .open }) (working .open [] base)
       (s.bay 0).tray = .open ∧ (s.bay 0).state = .open)
    ∧ ¬ ((base.bay 0).tray = .open ∧ ((base.bay 0).state = .open ∨ (base.bay 0).state = .absent))
    ∧ (printing .readyOut true).printer.state = .readyOut ∧ base.printer.state = .empty ∧ base.outBin .good = .available
    ∧ (base.setFilter .doorGood { on := true, agree := 0 }).outBin .good ≠ .available := by
  decide +kernel

/-- A disc released at the printer, tray-present on. -/
theorem test_MissesAndArmSteps_taken_met :
    let r : Docket := { docket .outbound with place := some .arm }
    let s := (arm (task .unload (.bay 0) .printer) .awaitTray false (held r)).setFilter .trayPresent { on := true, agree := 0 }
    s.transport.phase = .awaitTray ∧ s.sensor .trayPresent = true ∧ s.transport.state = .busy
    ∧ s.taskInFlight = some (task .unload (.bay 0) .printer) ∧ s.docket 1 = some r
    ∧ s.job 0 = some { job with inFlight := 1, nextOrdinal := 2 } := by
  decide +kernel

theorem test_DiscsReleasedAndCounted_met :
    [gripping (task .load (.input .a) (.bay 0)) .release .release false (docket .inbound),
     gripping (task .unload (.bay 0) (.output .good)) .release .release false (docket .outbound),
     gripping (task .unload (.bay 0) .printer) .release .release false (docket .outbound),
     gripping (task .unload (.bay 0) .printer) .release .release true (docket .outbound)].all (fun s =>
       s.transport.gripper == some .release && s.transport.phase == .release && (s.docket 1).isSome && s.transport.state == .busy) = true
    ∧ (let s := working .open [] (gripping (task .load (.input .a) (.bay 0)) .release .release false (docket .inbound))
       s.sensor .discPresent = false ∧ (s.bay 0).state = .open ∧ s.transport.errand = some (errand (task .load (.input .a) (.bay 0))))
    ∧ (gripping (task .unload (.bay 0) .printer) .release .release true (docket .outbound)).sensor .discPresent = true
    ∧ (docket .outbound).state ≠ .inbound := by
  decide +kernel

/-- A disc released into a bay whose reset is over, one landing in the good bin, and a disc still held of an INBOUND docket with a cause. -/
theorem test_DiscsReleasedAndCounted_cases_met :
    (let s := working .discovering [] (gripping (task .load (.input .a) (.bay 0)) .release .release false (docket .inbound))
     (s.bay 0).state = .discovering ∧ (∀ q ∈ s.transport.queue, q.docket ≠ 1) ∧ s.transport.errand = some (errand (task .load (.input .a) (.bay 0))))
    ∧ (let s := gripping (task .unload (.bay 0) (.output .good)) .release .release false (docket .outbound)
       s.job 0 = some { job with inFlight := 1, nextOrdinal := 2 } ∧ (docket .outbound).ordinal = some 1
       ∧ s.transport.errand = some (errand (task .unload (.bay 0) (.output .good))))
    ∧ (let r : Docket := { docket .inbound with cause := .cancelled, verdict := some .reject }
       let s := working .open [] (gripping (task .load (.input .a) (.bay 0)) .release .release true r)
       s.sensor .discPresent = true ∧ r.state = .inbound ∧ r.verdict = some .reject ∧ r.cause ≠ .none
       ∧ (s.bay r.bay).docket = some 1) := by
  decide +kernel

/-- Jobs at the edges of their budget and copies, active, stopping and ended, with a scan under way and without. -/
theorem test_DiscsReleasedAndCounted_jobs_met :
    (base.setJob 0 (some { job with reject := 3 })).job 0 = some { job with reject := 3 } ∧ job.maxRejects < 3
    ∧ ({ job with reject := 2, good := 3, inFlight := 0 } : Job).reject ≤ job.maxRejects
    ∧ ({ job with good := 3, inFlight := 0 } : Job).good = job.copies ∧ ({ job with good := 3, inFlight := 1 } : Job).inFlight ≠ 0
    ∧ job.state = .active ∧ job.good ≠ job.copies
    ∧ ({ job with state := .stopping, inFlight := 0 } : Job).inFlight = 0 ∧ ({ job with state := .stopping } : Job).state ≠ .active
    ∧ (held (docket .landed)).docket 1 = some (docket .landed) ∧ (docket .landed).slot = 0
    ∧ base.boardAddr ≠ 0 ∧ base.board.scan = none
    ∧ ({ base with board := { base.board with scan := some scanning } } : State).board.scan ≠ none := by
  decide +kernel

/-- Dockets of each state of R17, and a docket with every field its report can carry. -/
theorem test_DiscsReleasedAndCounted_stops_met :
    (∀ st ∈ [DocketState.reserved, .inbound, .seated, .burning, .finalizing, .verifying, .goodWait, .outbound, .printing, .printedWait,
        .rejectWait, .rejectOutbound], (held (docket st)).docket 1 = some (docket st) ∧ (docket st).state = st)
    ∧ Cause.cancelled ≠ .none
    ∧ ¬ ((held (docket .inbound)).transport.phase = .release ∧ (held (docket .inbound)).transport.state = .busy)
    ∧ (gripping (task .load (.input .a) (.bay 0)) .release .release false (docket .inbound)).transport.phase = .release
    ∧ (let d : Docket := { docket .landed with
         place := some .goodBin, picked := some 5, burnStart := some 5, burnEnd := some (2 ^ 32 + 4), verdictTime := some (2 ^ 32 + 5)
         landed := some (2 ^ 40), print := some { fired := 16777215, crowded := 1, dropped := 2, clipped := 3, slips := 5 } }
       d.picked = some 5 ∧ d.print.isSome = true ∧ (docket .landed).print.isSome = true) := by
  decide +kernel

/-! ### Bays -/

theorem test_MessagesDiscarded_met :
    (base.unasked 0 .identify ∧ base.unasked 0 .trayOpen ∧ base.unasked 0 .trayClose ∧ base.unasked 0 .probe ∧ base.unasked 0 .halt
      ∧ base.unasked 0 .burnClose ∧ base.unasked 0 (.read 3) ∧ base.unasked 0 .reset)
    ∧ ¬ ((base.bay 0).state = .burning ∨ (base.bay 0).state = .finalizing) ∧ (base.bay 0).oldestGroup ≠ some 3
    ∧ (base.bay 0).state ≠ .burning
    ∧ ((bay0 fun r => { r with state := .retired }).bay 0).state = .retired
    ∧ (working .burning [.halt] (held (docket .burning))).hasReq 0 .halt = true
    ∧ ((working .burning [.halt] (held (docket .burning))).bay 0).state = .burning := by
  unfold State.unasked
  decide +kernel

/-- Bay 0 DISCOVERING with IDENTIFY outstanding. -/
def found (f : Bay → Bay) : State :=
  bay0 fun r => f { r with state := .discovering, reqs := [{ req := .identify, purpose := .normal, left := 9 }] }

theorem test_IdentityTaken_met :
    (∀ s ∈ [found id, found fun r => { r with docket := some 1 }, found fun r => { r with stranded := true },
        found fun r => { r with failing := true }, setSpare (some 0) (found id)],
      s.hasReq 0 .identify = true ∧ (s.bay 0).state = .discovering)
    ∧ ((found fun r => { r with docket := some 1 }).bay 0).docket ≠ none
    ∧ ((found fun r => { r with stranded := true }).bay 0).docket = none ∧ ((found fun r => { r with stranded := true }).bay 0).stranded = true
    ∧ ((found fun r => { r with failing := true }).bay 0).stranded = false ∧ ((found fun r => { r with failing := true }).bay 0).failing = true
    ∧ ((setSpare (some 0) (found id)).bay 0).failing = false ∧ (setSpare (some 0) (found id)).health.spare = some 0
    ∧ ((found id).bay 0).docket = none ∧ (found id).health.spare ≠ some 0 := by
  decide +kernel

/-- A bay designated again before the IDENTITY of its takeover: R73 item 3 is passed over and it enters IDLE. -/
def foundTaking : State :=
  setSpare (some 0) (found fun r => { r with reqs := [{ req := .identify, purpose := .takeover, left := 9 }] })

theorem test_IdentityTaken_takeover_met :
    foundTaking.hasReq 0 .identify = true ∧ (foundTaking.bay 0).state = .discovering ∧ (foundTaking.bay 0).takingOver = true
    ∧ foundTaking.health.spare = some 0 ∧ (foundTaking.bay 0).docket = none ∧ (foundTaking.bay 0).stranded = false
    ∧ (foundTaking.bay 0).failing = false ∧ ((setSpare (some 0) (found id)).bay 0).takingOver = false := by
  decide +kernel

theorem test_onIdentity_takeover :
    ((onIdentity 0 drive foundTaking).bay 0).state = .idle
    ∧ ((onIdentity 0 drive (setSpare (some 0) (found id))).bay 0).state = .spare := by
  decide +kernel

theorem test_TraysReported_met :
    (∀ s ∈ [working .opening [.trayOpen] base, bay0 (fun r => { r with heldClose := true }) (working .opening [.trayOpen] base),
        working .absent [.trayOpen] (held (docket .burning))], s.hasReq 0 .trayOpen = true)
    ∧ ((working .opening [.trayOpen] base).bay 0).state = .opening ∧ ((working .opening [.trayOpen] base).bay 0).heldClose = false
    ∧ ((bay0 (fun r => { r with heldClose := true }) (working .opening [.trayOpen] base)).bay 0).heldClose = true
    ∧ ((working .absent [.trayOpen] (held (docket .burning))).bay 0).state = .absent
    ∧ ((working .absent [.trayOpen] (held (docket .burning))).bay 0).docket = some 1
    ∧ (working .absent [.trayOpen] (held (docket .burning))).docket 1 = some (docket .burning) ∧ (docket .burning).place = some .bay
    ∧ (∀ st ∈ [DocketState.seated, .goodWait, .rejectWait], (working .closing [.trayClose] (held (docket st))).hasReq 0 .trayClose = true
        ∧ ((working .closing [.trayClose] (held (docket st))).bay 0).state = .closing
        ∧ (working .closing [.trayClose] (held (docket st))).docket 1 = some (docket st) ∧ (docket st).verdict = none)
    ∧ (let s := bay0 (fun r => { r with docket := none }) (working .closing [.trayClose] base)
       s.hasReq 0 .trayClose = true ∧ (s.bay 0).docket = none ∧ (s.bay 0).failing = false ∧ s.health.spare ≠ some 0
       ∧ (s.tower.state = .running ∧ s.regs.run = true) ∧ (setSpare (some 0) s).health.spare = some 0
       ∧ ((bay0 (fun r => { r with failing := true }) s).bay 0).failing = true) := by
  decide +kernel

theorem test_MediaAnswers_met :
    (let s := working .probing [.probe] (held (docket .seated))
     s.hasReq 0 .probe = true ∧ (s.bay 0).state = .probing ∧ (s.bay 0).docket = some 1 ∧ s.docket 1 = some (docket .seated)
     ∧ (docket .seated).state = .seated ∧ (docket .seated).bay = 0 ∧ s.job 0 = some { job with inFlight := 1, nextOrdinal := 2 }
     ∧ (s.bay 0).hard ≤ 15 ∧ s.hasReq 0 .burnOpen = false)
    ∧ (job.mediaClass = .dvd ∧ job.totalSectors ≤ 40 ∧ 39 < job.totalSectors ∧ job.state = .active)
    ∧ ((docket .seated).verdict = none ∧ (docket .seated).cause = .none) := by
  decide +kernel

/-- Bay 0 in a burn state with its channel. -/
def burning (f : Burn → Burn) (st : BayState) (reqs : List Request) (r : Docket := docket .burning) : State :=
  bay0 (fun b => { b with channel := .burn (f (newBurn 1 job true)) }) (working st reqs (held r))

theorem test_BurnAnswersAndReads_met :
    (let s := burning id .burning [.burnOpen]
     (s.bay 0).docket = some 1 ∧ s.docket 1 = some (docket .burning) ∧ s.burnOf 0 = some (newBurn 1 job true)
     ∧ (s.bay 0).state = .burning ∧ (s.bay 0).credits ≤ (s.bay 0).driveOr.maxCredits ∧ s.hasReq 0 .halt = false
     ∧ s.hasReq 0 .burnOpen = true ∧ (newBurn 1 job true).state = .opening ∧ (s.bay 0).credits + 4 ≤ (s.bay 0).driveOr.maxCredits
     ∧ (s.bay 0).driveOr.maxCredits < (s.bay 0).credits + 5 ∧ (s.bay 0).linkErrors < 65535)
    ∧ (let s := burning (fun c => { c with state := .draining }) .burning [.group 2]
       s.burnOf 0 = some { newBurn 1 job true with state := .draining } ∧ s.hasReq 0 .halt = false ∧ (s.bay 0).oldestGroup = some 2
       ∧ (docket .burning).groupsWritten < 65535 ∧ 2 + 1 = job.groups)
    ∧ (let s := burning id .burning [.group 1]
       (s.bay 0).oldestGroup = some 1 ∧ 1 + 1 ≠ job.groups)
    ∧ (let s := bay0 (fun r => { r with withdrawn := [1] }) (burning id .burning [.halt])
       s.hasReq 0 .halt = true ∧ 1 ∈ (s.bay 0).withdrawn ∧ s.burnOf 0 = some (newBurn 1 job true)) := by
  decide +kernel

/-- A first link under a limit of 2, a third, and a channel without permission. -/
theorem test_DriveStarves_met :
    (let s := burning id .burning []
     (s.bay 0).state = .burning ∧ s.hasReq 0 .halt = false ∧ (s.bay 0).driveStopped = false ∧ (s.bay 0).docket = some 1
     ∧ s.docket 1 = some (docket .burning) ∧ (docket .burning).bay = 0 ∧ (docket .burning).cause = .none
     ∧ s.job 0 = some { job with inFlight := 1, nextOrdinal := 2 } ∧ s.burnOf 0 = some (newBurn 1 job true)
     ∧ (newBurn 1 job true).linkPermitted = true ∧ job.starvation = .link 2 ∧ (docket .burning).links + 1 ≤ 2)
    ∧ ((burning id .burning [] { docket .burning with links := 2 }).docket 1 = some { docket .burning with links := 2 } ∧ 2 < 2 + 1)
    ∧ (burning (fun c => { c with linkPermitted := false }) .burning []).burnOf 0
        = some { newBurn 1 job true with linkPermitted := false } := by
  decide +kernel

theorem test_BurnCloses_met :
    (let s := burning (fun c => { c with state := .closing }) .finalizing [.burnClose] (docket .finalizing)
     (s.bay 0).state = .finalizing ∧ s.hasReq 0 .halt = false ∧ s.hasReq 0 .burnClose = true ∧ (s.bay 0).docket = some 1
     ∧ s.docket 1 = some (docket .finalizing) ∧ s.job 0 = some { job with inFlight := 1, nextOrdinal := 2 } ∧ job.verify = true
     ∧ (∀ t ∈ s.transport.queue, t.docket ≠ 1) ∧ s.taskInFlight = none
     ∧ (s.setJob 0 (some { job with verify := false })).job 0 = some { job with verify := false }) := by
  decide +kernel

/-- Bay 0 VERIFYING, with a page for group 2 and its READ outstanding. -/
def verifying (f : Verify → Verify) : State :=
  bay0 (fun b => { b with channel := .verify (f { newVerify 1 job with pages := [{ group := 2, full := false, got := [] }] }) })
    (working .verifying [.read 2] (held (docket .verifying)))

theorem test_ReadsAnswered_met :
    (∀ s ∈ [verifying id, verifying fun c => { c with marks := [2] }, verifying fun c => { c with state := .stopped }],
      (s.bay 0).docket = some 1 ∧ s.docket 1 = some (docket .verifying) ∧ s.hasReq 0 (.read 2) = true ∧ s.readLength 0 2 = some (2048 * min 16 (40 - 16 * 2)) ∧ 2048 * min 16 (40 - 16 * 2) = 16384
      ∧ (s.bay 0).state = .verifying ∧ (s.bay 0).hard < 15)
    ∧ (verifying id).verifyOf 0 = some { newVerify 1 job with pages := [{ group := 2, full := false, got := [] }] }
    ∧ (verifying fun c => { c with marks := [2] }).verifyOf 0
        = some { newVerify 1 job with pages := [{ group := 2, full := false, got := [] }], marks := [2] }
    ∧ (verifying fun c => { c with state := .stopped }).verifyOf 0
        = some { newVerify 1 job with pages := [{ group := 2, full := false, got := [] }], state := .stopped }
    ∧ (List.replicate 16384 0#8).length = 16384 ∧ 16384 ≠ ([] : List Byte).length ∧ (docket .verifying).cause = .none := by
  decide +kernel

/-- A channel with its first group complete and one credit, its last group with a compare listed, and one with 8 GROUPs outstanding. -/
theorem test_BurnAnswersAndReads_sends_met :
    (let p : Page := { group := 0, full := true, got := [(0, [0#8])] }
     let c : Burn := { newBurn 1 job true with state := .streaming, complete := 1, pages := [p] }
     let s := bay0 (fun r => { r with credits := 1 }) (burning (fun _ => c) .burning [])
     s.burnOf 0 = some c ∧ c.pages.find? (fun q => q.group == c.send) = some p ∧ c.send < c.complete ∧ 1 ≤ (s.bay 0).credits
     ∧ (s.bay 0).groupsOut < 8 ∧ c.send + 1 ≠ c.groups)
    ∧ (let c : Burn := { newBurn 1 job true with
         state := .draining, complete := 3, send := 2, compares := [{ group := 1, crc := 0, phase := .listed }] }
       c.send + 1 = c.groups ∧ c.compares ≠ [])
    ∧ ¬ ((burning id .burning [.group 0, .group 1, .group 2, .group 3, .group 4, .group 5, .group 6, .group 7]).bay 0).groupsOut < 8 := by
  decide +kernel

/-- A verify channel with no page, with that of its first group, and with both; one with its block whole and one with it to cut. -/
theorem test_BurnAnswersAndReads_reads_met :
    (let c := newVerify 1 job
     let s := bay0 (fun r => { r with channel := .verify c }) (working .verifying [] (held (docket .verifying)))
     s.verifyOf 0 = some c ∧ c.state = .reading ∧ 0 < c.groups ∧ c.pages = [] ∧ c.check = 0 ∧ 0 ∉ s.pageWaiters
     ∧ s.canTakePage 0 = true ∧ (s.bay 0).compare = none
     ∧ c.blockRead = some (0, { base := 0x5000, len := 12, cut := 0, got := [] }) ∧ 0 < 12
     ∧ (Reading.place { base := 0x5000, len := 12, cut := 12, got := [] } 0 (List.replicate 12 1#8)).data = some (List.replicate 12 1#8))
    ∧ ((verifying id).bay 0).channel.pages.length = 1 ∧ ({ newVerify 1 job with state := .stopped } : Verify).state = .stopped
    ∧ (({ newVerify 1 job with check := 63, groups := 65 } : Verify).check + 1) % 64 = 0
    ∧ (({ newVerify 1 job with check := 62, groups := 65 } : Verify).check + 1) % 64 ≠ 0 := by
  decide +kernel

/-- A bay with 8 GROUPs and a BURN_OPEN outstanding meets the invariant of the request lists, and has a step. -/
theorem test_BurnAnswersAndReads_invariant_met :
    (∀ b : BayNo, ((burning id .burning [.burnOpen, .group 0, .group 1, .group 2, .group 3, .group 4, .group 5, .group 6, .group 7]).bay b).reqs.Pairwise
      (fun x y => x.req ≠ y.req)
      ∧ ((burning id .burning [.burnOpen, .group 0, .group 1, .group 2, .group 3, .group 4, .group 5, .group 6, .group 7]).bay b).groupsOut ≤ 8)
    ∧ ∃ t, step (burning id .burning [.burnOpen]) = .next t :=
  ⟨by decide +kernel, _, rfl⟩

theorem test_BurnAnswersAndReads_bounded_met : (burning id .burning [.burnOpen]).requestsBounded := by
  intro b
  have h : ∀ b : BayNo, ((burning id .burning [.burnOpen]).bay b).reqs
      = if b = 0 then [{ req := .burnOpen, purpose := .normal, left := 1000 }] else [] := by decide +kernel
  refine ⟨fun q _ _ => ?_, ?_⟩
  · rw [h]; split
    · exact List.length_filter_le _ _
    · simp
  · revert b; decide +kernel

theorem test_DriveFaults_met :
    (base.bay 0).state = .absent ∧ ((found id).bay 0).state = .discovering ∧ ((spared .idle).bay 11).state = .spare
    ∧ ((burning id .burning [.halt]).bay 0).state = .burning ∧ (burning id .burning [.halt]).hasReq 0 .halt = true
    ∧ (let s := burning id .burning []
       s.hasReq 0 .halt = false ∧ (s.bay 0).driveStopped = false ∧ (s.bay 0).docket = some 1 ∧ s.docket 1 = some (docket .burning)
       ∧ (docket .burning).bay = 0 ∧ (docket .burning).cause = .none ∧ (s.bay 0).hard < 15)
    ∧ (∀ st ∈ [BayState.reserved, .opening, .open, .closing, .probing, .verifying, .holding],
        ((working st [] (held (docket .seated))).bay 0).state = st)
    ∧ (let s := burning id .finalizing [.burnClose] (docket .finalizing)
       (s.bay 0).state = .finalizing ∧ s.hasReq 0 .halt = false ∧ (s.bay 0).driveStopped = false ∧ (s.bay 0).docket = some 1
       ∧ s.docket 1 = some (docket .finalizing) ∧ (docket .finalizing).state = .finalizing ∧ (docket .finalizing).cause = .none
       ∧ (docket .finalizing).bay = 0 ∧ (s.bay 0).hard < 15)
    ∧ (∀ n ∈ [0, 2], let s := bay0 fun r => { r with state := .idle, hard := n }
       (s.bay 0).state = .idle ∧ (s.bay 0).failing = false ∧ (s.bay 0).hard < 15 ∧ s.faults.first = none
       ∧ s.health.softLimit = 12 ∧ s.health.hardLimit = 3 ∧ (s.bay 0).soft = 0 ∧ (s.bay 0).hard = n) := by
  decide +kernel

theorem test_HaltAndResetEnd_met :
    (burning id .burning [.halt]).hasReq 0 .halt = true
    ∧ (let s := working .resetting [.reset] (held (docket .goodWait))
       s.hasReq 0 .reset = true ∧ (s.bay 0).docket = some 1 ∧ s.docket 1 = some (docket .goodWait)
       ∧ (docket .goodWait).place = some .bay ∧ (docket .goodWait).bay = 0) := by
  decide +kernel

/-- A docket to be handed off, one whose bay has a request outstanding, and one with no verdict. -/
theorem test_HaltAndResetEnd_handOff_met :
    let r : Docket := { docket .burning with verdict := some .reject, cause := .hostRead }
    (let s := burning id .burning [] r
     (s.bay 0).docket = some 1 ∧ s.docket 1 = some r ∧ r.verdict = some .reject ∧ r.burnEnd = none ∧ r.bay = 0
     ∧ (s.bay 0).state = .burning ∧ (s.bay 0).reqs = [] ∧ (∀ t ∈ s.transport.queue, t.docket ≠ 1) ∧ s.taskInFlight = none
     ∧ (s.bay 0).channel ≠ .closed ∧ s.burnOf 0 = some (newBurn 1 job true) ∧ (newBurn 1 job true).held = [])
    ∧ ((burning id .burning [.halt] r).bay 0).reqs ≠ [] ∧ (docket .burning).verdict ≠ some .reject := by
  decide +kernel

/-- Bay 0 in a state with one request of a purpose, and docket 1. -/
def waits (st : BayState) (q : Request) (p : Purpose) (r : Docket) : State :=
  bay0 (fun b => { b with reqs := [{ req := q, purpose := p, left := 0 }] }) (working st [] (held r))

theorem test_RequestsTimeOut_met :
    base.hasReq 0 .probe = false ∧ (base.bay 0).hard < 15
    ∧ (let s := waits .probing .probe .normal (docket .seated)
       (s.bay 0).reqs.find? (fun x => x.req == .probe) = some { req := .probe, purpose := .normal, left := 0 }
       ∧ (s.bay 0).state.working = true ∧ s.faults.first = none ∧ (s.bay 0).docket = some 1 ∧ s.docket 1 = some (docket .seated)
       ∧ (docket .seated).place = some .bay ∧ (docket .seated).state ≠ .reserved ∧ (docket .seated).state ≠ .inbound
       ∧ (docket .seated).cause = .none)
    ∧ (let s := waits .resetting .reset .normal (docket .seated)
       (s.bay 0).reqs.find? (fun x => x.req == .reset) = some { req := .reset, purpose := .normal, left := 0 }
       ∧ (s.bay 0).state = .resetting)
    ∧ (let s := waits .discovering .identify .completion (docket .seated)
       (s.bay 0).reqs.find? (fun x => x.req == .identify) = some { req := .identify, purpose := .completion, left := 0 }
       ∧ (s.bay 0).state = .discovering)
    ∧ (let s := waits .absent .trayOpen .absent (docket .rejectWait)
       (s.bay 0).reqs.find? (fun x => x.req == .trayOpen) = some { req := .trayOpen, purpose := .absent, left := 0 }
       ∧ (s.bay 0).state ≠ .retired ∧ (s.bay 0).state ≠ .idle ∧ (s.bay 0).state ≠ .spare ∧ (s.bay 0).docket = some 1
       ∧ s.docket 1 = some (docket .rejectWait) ∧ (docket .rejectWait).bay = 0) := by
  decide +kernel

/-- Bay 0 DISCOVERING with an ordinary IDENTIFY and with that of a takeover, probed after a reset, probed by the sweep, and opening for a move of the sweep. -/
theorem test_RequestsTimeOut_sweep_met :
    (∀ x ∈ [(BayState.discovering, Request.identify, Purpose.normal), (.discovering, .identify, .takeover), (.probing, .probe, .completion), (.probing, .probe, .sweep),
        (.opening, .trayOpen, .sweep), (.absent, .trayOpen, .absent)],
      let s := bay0 fun r => { r with state := x.1, reqs := [{ req := x.2.1, purpose := x.2.2, left := 0 }] }
      (s.bay 0).reqs.find? (fun o => o.req == x.2.1) = some { req := x.2.1, purpose := x.2.2, left := 0 }
      ∧ (s.bay 0).state = x.1 ∧ (s.bay 0).docket = none ∧ (s.bay 0).hard < 15)
    ∧ (let s : State := { base with transport := { base.transport with
         state := .sweeping, errand := some (sweepErrand (some (.bay 0)) false) } }
       s.transport.state = .sweeping ∧ s.transport.errand = some (sweepErrand (some (.bay 0)) false)
       ∧ (sweepErrand (some (.bay 0)) false).work = .sweep ∧ (sweepErrand (some (.bay 0)) false).source = some (.bay 0)
       ∧ (sweepErrand (some (.bay 0)) false).held = false) := by
  decide +kernel

/-! ### Start-up and resets -/

theorem test_LoadedHomedAndSwept_met :
    (field image 0 2 = 0x5B3C ∧ 1 ≤ field image 2 1 ∧ (parseGeometry image).plausible = true)
    ∧ State.reset.tower.loader = .whole ∧ State.reset.tower.state = .loading ∧ State.reset.faults = FaultRecord.clear
    ∧ ({ State.reset with tower := { State.reset.tower with loader := .geometry } } : State).tower.loader = .geometry
    ∧ base.tower.loader = .idle ∧ State.reset.sensor .liftHome = false
    ∧ (State.reset.setFilter .liftHome { on := true, agree := 0 }).sensor .liftHome = true := by
  decide +kernel

/-- The image with some bytes replaced. -/
def imageWith (l : List (Nat × Byte)) : List Byte := l.foldl (fun m p => m.set p.1 p.2) image

/-- A wrong signature, a count of 0, duties of 0; and a spare of 12, a class of 3, capacities of 0 and 301, a limit of 16, a drain of 1,441. -/
theorem test_LoadedHomedAndSwept_bad_met :
    field (imageWith [(0, 0#8)]) 0 2 ≠ 0x5B3C ∧ field (imageWith [(2, 0#8)]) 2 1 = 0
    ∧ (parseGeometry (imageWith [(80, 0#8)])).plausible = false
    ∧ (field (imageWith [(94, 12#8)]) 94 1 ≠ 255 ∧ ¬ field (imageWith [(94, 12#8)]) 94 1 < 12)
    ∧ mediaClassOf (field (imageWith [(96, 3#8)]) 96 1) = none
    ∧ (¬ 1 ≤ field (imageWith [(98, 0#8), (99, 0#8)]) 98 2 ∧ ¬ field (imageWith [(98, 0x2D#8), (99, 1#8)]) 98 2 ≤ 300)
    ∧ 15 < field (imageWith [(104, 16#8)]) 104 1 ∧ ¬ field (imageWith [(106, 0xA1#8), (107, 5#8)]) 106 2 ≤ 1440
    ∧ (2 ≤ field image 2 1 ∧ 3 ≤ field image 2 1 ∧ 4 ≤ field image 2 1 ∧ field (imageWith [(2, 1#8)]) 2 1 < 2)
    ∧ (∀ b : BayNo, (State.reset.bay b).soft = 0 ∧ (State.reset.bay b).hard = 0) := by
  decide +kernel

/-- A transport at the end of its homing, with a tower state and the work in hand. -/
def homed (st : TowerState) (e : Option Errand := none) : State :=
  let s := held { docket .outbound with place := some .arm }
  { s with tower := { s.tower with state := st }
           transport := { s.transport with state := .homing, phase := .homeSwing, errand := e } }

theorem test_LoadedHomedAndSwept_homed_met :
    (homed .homing).tower.reachedRunning = false
    ∧ (let s := homed .homing
       ({ s with tower := { s.tower with reachedRunning := true } } : State).tower.reachedRunning = true)
    ∧ ((homed .discovering).transport.errand = none ∧ (homed .sweeping).transport.errand = none ∧ (homed .running).tower.state ≠ .homing)
    ∧ ((base.bay 0).installed = true ∧ (base.bay 0).identified = false ∧ (base.bay 0).state ≠ .resetting)
    ∧ ((bay0 fun r => { r with state := .resetting }).bay 0).state = .resetting
    ∧ (let e : Errand := errand (task .unload (.bay 0) .printer)
       let h : Errand := { e with held := true }
       (homed .running (some e)).transport.errand = some e ∧ e.held = false ∧ h.held = true ∧ h.source = some (.bay 0)
       ∧ (homed .running (some h)).docket 1 = some { docket .outbound with place := some .arm }
       ∧ (homed .running (some h)).sensor .discPresent = false
       ∧ ((homed .running (some h)).setFilter .discPresent { on := true, agree := 0 }).sensor .discPresent = true) := by
  decide +kernel

/-- The transport in SWEEPING at a stage of the sweep, with a list of bays. -/
def sweeping (stage : SweepStage) (list : List BayNo) (st : BayState := .idle) : State :=
  let s := bay0 fun r => { r with state := st }
  { s with tower := { s.tower with state := .sweeping }
           transport := { s.transport with state := .sweeping, stage := stage, sweepList := list } }

theorem test_LoadedHomedAndSwept_swept_met :
    (let s : State := { base with tower := { base.tower with state := .discovering } }
     ∀ b : BayNo, (s.bay b).installed = true → (s.bay b).state ≠ .discovering ∧ (s.bay b).state ≠ .resetting)
    ∧ (let s := bay0 fun r => { r with state := .probing, reqs := [{ req := .probe, purpose := .sweep, left := 9 }], sweepProbe := some .spare }
       s.hasReq 0 .probe = true ∧ (s.bay 0).docket = none ∧ (s.bay 0).sweepProbe = some .spare ∧ (s.bay 0).failing = false)
    ∧ (∀ g ∈ [SweepStage.arm, .printer, .bays], (sweeping g []).tower.state = .sweeping ∧ (sweeping g []).transport.state = .sweeping
        ∧ (sweeping g []).transport.errand = none ∧ (sweeping g []).transport.stage = g)
    ∧ base.transport.armDisc = false ∧ ({ base.transport with armDisc := true } : Transport).armDisc = true
    ∧ (sweeping .printer []).sensor .trayPresent = false
    ∧ ((sweeping .printer []).setFilter .trayPresent { on := true, agree := 0 }).sensor .trayPresent = true
    ∧ ¬ (∃ b : BayNo, ((sweeping .bays []).bay b).sweepProbe ≠ none) ∧ (sweeping .bays []).transport.sweepList = []
    ∧ (∀ st ∈ [BayState.retired, .resetting, .discovering, .idle, .absent],
        (sweeping .bays [0] st).transport.sweepList = 0 :: [] ∧ ((sweeping .bays [0] st).bay 0).state = st)
    ∧ ((base.bay 0).tray ≠ .open ∧ ((bay0 fun r => { r with tray := .open }).bay 0).tray = .open ∧ base.hasReq 0 .trayClose = false) := by
  decide +kernel

theorem test_TowerAndLinkReset_met :
    State.reset.tower.state = .loading ∧ base.tower.state ≠ .loading ∧ base.tower.calibration ≠ none
    ∧ ({ base with tower := { base.tower with calibration := none } } : State).tower.calibration = none
    ∧ ((bay0 fun r => { r with state := .retired }).bay 0).state = .retired
    ∧ ((base.bay 0).installed = true ∧ (base.bay 0).state ≠ .retired)
    ∧ ((bay0 fun r => { r with installed := false }).bay 0).installed = false := by
  decide +kernel

/-! ### Host memory -/

theorem test_FetchesBurnsAndPages_met :
    (fetching (fetch (.image 0) (.image 2 0) true)).fetch 3 = some (fetch (.image 0) (.image 2 0) true)
    ∧ (fetch (.image 0) (.image 2 0) true).orphan = true ∧ [0#8, 1#8, 2#8, 3#8].length = (fetch (.image 0) (.image 2 0) true).len
    ∧ (let s := fetching (fetch (.image 0) (.image 2 0) false) (burning id .burning [])
       s.fetch 3 = some (fetch (.image 0) (.image 2 0) false) ∧ s.burnOf 0 = some (newBurn 1 job true)
       ∧ s.docket 1 = some (docket .burning) ∧ s.job 0 = some { job with inFlight := 1, nextOrdinal := 2 } ∧ job.state = .active
       ∧ (docket .burning).cause = .none ∧ s.faults.first = none ∧ (docket .burning).state ≠ .reserved)
    ∧ (let q : FetchReq := { addr := 0x1000, len := 64, target := .board 0, stamp := 0, aged := false, ageTimer := some 0 }
       ({ base with engine := { base.engine with board := some q } } : State).line .board = some q
       ∧ (bay0 fun r => { r with extent := some q }).line (.extent 0) = some q) := by
  decide +kernel

/-- A compare that agrees and one that differs, the docket burning and asked no HALT. -/
theorem test_FetchesBurnsAndPages_compares_met :
    let e : Compare := { group := 1, crc := 0x04030201#32, phase := .granted }
    let c : Burn := { newBurn 1 job true with compares := [e] }
    let s := fetching (fetch (.compare 0) (.compare 1) false) (burning (fun _ => c) .burning [])
    s.fetch 3 = some (fetch (.compare 0) (.compare 1) false) ∧ (fetch (.compare 0) (.compare 1) false).len = 4
    ∧ s.burnOf 0 = some c ∧ c.compares.find? (fun x => x.group == 1) = some e
    ∧ field [1#8, 2#8, 3#8, 4#8] 0 4 = e.crc.toNat ∧ field [1#8, 2#8, 3#8, 5#8] 0 4 ≠ e.crc.toNat
    ∧ s.docket c.docket = some (docket .burning) ∧ s.job (docket .burning).slot = some { job with inFlight := 1, nextOrdinal := 2 }
    ∧ (docket .burning).cause = .none ∧ (docket .burning).bay = 0 ∧ s.unasked 0 .halt ∧ (s.bay 0).driveStopped = false
    ∧ job.state = .active := by
  unfold State.unasked
  decide +kernel

/-- An extent record and an anchor, the last 4 bytes of each missing and then there, and the records a channel asks for. -/
theorem test_FetchesBurnsAndPages_pieces_met :
    let rd : Reading := { base := 0x4000, len := 8, cut := 8, got := [(0, [1#8, 2#8, 3#8, 4#8])] }
    (rd.place 4 [5#8, 6#8, 7#8, 8#8]).data = some [1#8, 2#8, 3#8, 4#8, 5#8, 6#8, 7#8, 8#8]
    ∧ (({ rd with len := 16 } : Reading).place 4 [5#8, 6#8, 7#8, 8#8]).data = none
    ∧ (let c : Burn := { newBurn 1 job true with extReads := [(0, { rd with cut := 4 })] }
       let s := burning (fun _ => c) .burning []
       s.burnOf 0 = some c ∧ c.state = .opening ∧ (s.bay 0).extent = none ∧ c.extReads = [] ++ (0, { rd with cut := 4 }) :: []
       ∧ c.extReads.find? (fun x => x.1 == 0) = some (0, { rd with cut := 4 }))
    ∧ ((newBurn 1 job true).extAsk ≤ (newBurn 1 job true).extIndex + 1 ∧ (newBurn 1 job true).extAsk < job.extentCount
      ∧ (newBurn 1 job true).extReads = [])
    ∧ (let sc : Scan := { scanning with phase := .anchor rd }
       let s := fetching (fetch .board (.board 4) false) { base with board := { base.board with scan := some sc } }
       s.fetch 3 = some (fetch .board (.board 4) false) ∧ s.board.scan = some sc)
    ∧ ({ fetch .print (.band .record 0) false with stale := true } : Fetch).stale = true
    ∧ (fetch .print (.band .record 0) false).stale = false := by
  decide +kernel

/-- A channel whose cursor stands 4 bytes before the end of its group, one at the end of its extent, and one with its group whole. -/
theorem test_FetchesBurnsAndPages_burns_met :
    (let c : Burn := { newBurn 1 job true with
       state := .streaming, cur := some { addr := 0x20000, sectors := 40 }, extOffset := 32764, cutBytes := 32764
       pages := [{ group := 0, full := false, got := [] }] }
     let s := burning (fun _ => c) .burning []
     s.burnOf 0 = some c ∧ s.docket c.docket = some (docket .burning) ∧ s.job 0 = some { job with inFlight := 1, nextOrdinal := 2 }
     ∧ c.cutGroup < c.groups ∧ (s.bay 0).image = none ∧ c.extOffset ≠ 40 * 2048 ∧ (∃ p ∈ c.pages, p.group = c.cutGroup)
     ∧ c.cutBytes + 4 = 2048 * min 16 (job.totalSectors - 16 * 0) ∧ c.extIndex + 1 = job.extentCount)
    ∧ (let c : Burn := { newBurn 1 job true with
         cur := some { addr := 0x20000, sectors := 16 }, extOffset := 32768, nxt := some { addr := 0x40000, sectors := 24 } }
       c.cur = some { addr := 0x20000, sectors := 16 } ∧ c.extOffset = 16 * 2048 ∧ c.nxt = some { addr := 0x40000, sectors := 24 })
    ∧ (field (List.replicate 8 0#8 ++ [1#8, 0#8, 0#8, 0#8]) 0 8 % 4 = 0 ∧ field (List.replicate 8 0#8 ++ [1#8, 0#8, 0#8, 0#8]) 8 4 ≠ 0)
    ∧ (field ([2#8] ++ List.replicate 15 0#8) 0 8 % 4 ≠ 0 ∧ field (List.replicate 16 0#8) 8 4 = 0) := by
  decide +kernel

/-- A whole last group: 8 sectors of bytes in its page. -/
theorem test_FetchesBurnsAndPages_group_met :
    let p : Page := { group := 2, full := false, got := [(0, List.replicate 16384 0#8)] }
    let c : Burn := { newBurn 1 job true with state := .streaming, complete := 2, pages := [p] }
    c.pages.find? (fun q => q.group == c.complete) = some p ∧ c.complete < c.groups ∧ c.held = [] ∧ c.compares.length < 8
    ∧ (p.got.flatMap fun q => q.2).length = 2048 * min 16 (job.totalSectors - 16 * 2) := by
  refine ⟨rfl, by decide, rfl, by decide, ?_⟩
  rw [List.flatMap_cons, List.flatMap_nil, List.append_nil, List.length_replicate]
  decide

/-- A failed compare and a failed read of a verify channel, a stale band fetch, and a page for the second of two waiting bays. -/
theorem test_FetchesBurnsAndPages_pages_met :
    ({ fetch .print (.band .record 0) false with stale := true } : Fetch).stale = true
    ∧ (let s := fetching (fetch (.compare 0) (.compare 1) false)
         (burning (fun c => { c with compares := [{ group := 1, crc := 0, phase := .granted }] }) .burning [])
       s.fetch 3 = some (fetch (.compare 0) (.compare 1) false) ∧ s.docket 1 = some (docket .burning))
    ∧ (let s := fetching (fetch (.compare 0) (.block 0 0) false) (verifying id)
       s.fetch 3 = some (fetch (.compare 0) (.block 0 0) false) ∧ s.docket 1 = some (docket .verifying) ∧ s.faults.first = none)
    ∧ (fetch .board (.board 0) false).orphan = false
    ∧ (let s : State := { burning id .burning [] with pageWaiters := [5, 0] }
       s.pageWaiters = [5] ++ 0 :: [] ∧ (0 : BayNo) ∉ [(5 : BayNo)] ∧ s.canTakePage 0 = true ∧ (s.bay 0).channel.pages.length < 2)
    ∧ base.canTakePage 5 = false := by
  decide +kernel

/-- A write that ends at a 4 KiB boundary, and one that passes it by a byte. -/
theorem test_WritesDrainAndGrants_met :
    (let w : PostedWrite := { addr := 0x1FFC, data := .bytes [1#8, 2#8, 3#8, 4#8], docket := some 1 }
     ({ base with engine := { base.engine with posted := [w] } } : State).engine.posted = w :: []
     ∧ [1#8, 2#8, 3#8, 4#8].length ≤ 4096 - 0x1FFC % 4096 ∧ ¬ [1#8, 2#8, 3#8, 4#8].length ≤ 4096 - 0x1FFD % 4096
     ∧ ({ base with engine := { base.engine with issued := [w] } } : State).engine.issued[0]? = some w)
    ∧ (let w : PostedWrite := { addr := 0x3000, data := .status, docket := none }
       ({ base with regs := { base.regs with irqEn := true }, engine := { base.engine with posted := [w] } } : State).engine.posted
         = w :: [] ∧ w.addr % 4096 = 0 ∧ base.regs.statusNew = false
       ∧ ({ base with regs := { base.regs with irqEn := true } } : State).regs.irqEn = true)
    ∧ base.engine.posted = []
    ∧ ({ base with health := { base.health with drainTimer := some 0 } } : State).health.drainTimer ≠ none
    ∧ ((bay0 fun r => { r with state := .retired }).bay 0).state = .retired ∧ (base.bay 0).state ≠ .retired := by
  decide +kernel

/-- A write of result fields, an even count, a request presented with a free slot, one held back, and a burst of 7 that goes on. -/
theorem test_WritesDrainAndGrants_grants_met :
    (let w : PostedWrite := { addr := 0x10F0, data := .fields [1#8, 0#8, 0#8] [3#8, 0#8, 0#8, 0#8], docket := none }
     ({ base with engine := { base.engine with posted := [w] } } : State).engine.posted = w :: [])
    ∧ base.generationEven
    ∧ (let q : FetchReq := { addr := 0x1000, len := 64, target := .board 0, stamp := 0, aged := false, ageTimer := some 0 }
       let s : State := { base with engine := { base.engine with board := some q } }
       let w : PostedWrite := { addr := 0x103F, data := .bytes [1#8], docket := none }
       s.line .board = some q ∧ s.heldBack q = false ∧ s.fetch 0 = none ∧ (grantFetch s).isSome = true
       ∧ ({ s with engine := { s.engine with posted := [w] } } : State).heldBack q = true
       ∧ ({ s with engine := { s.engine with posted := [{ w with addr := 0x1040 }] } } : State).heldBack q = false
       ∧ ({ s with engine := { s.engine with waiting := [[.write { w with addr := 0x1040 }, .write w]] } } : State).heldBack q = true)
    ∧ (let q : FetchReq := { addr := 0x1000, len := 64, target := .image 1 0, stamp := 0, aged := false, ageTimer := none }
       let s := bay0 (fun r => { r with image := some q }) (burning (fun c => { c with cutGroup := 3 }) .burning [])
       let u : State := { s with engine := { s.engine with burst := some { bay := 0, group := 1, count := 7, high := [] } } }
       u.engine.burst = some { bay := 0, group := 1, count := 7, high := [] } ∧ u.line (.image 0) = some q ∧ u.heldBack q = false
       ∧ u.classOf (.image 0) q = .burn ∧ targetGroup q.target = 1
       ∧ s.engine.burst = none ∧ (burning id .burning []).classOf (.image 0) q = .urgent) := by
  unfold State.generationEven
  decide +kernel

/-! ### Printing -/

/-- The printer with docket 1 in a state, all its timers running. -/
def timed (st : PrinterState) : State :=
  prn (fun p => { p with clampTimer := some 0, spinupTimer := some 0, settleTimer := some 0, spindownTimer := some 0, quietTimer := some 0 })
    (printing st true)

theorem test_PrinterTimers_met :
    ((timed .seating).printer.clampTimer ≠ none ∧ (timed .seating).printer.state = .seating)
    ∧ (base.printer.clampTimer = none ∧ base.printer.spinupTimer = none ∧ base.printer.settleTimer = none
      ∧ base.printer.quietTimer = none ∧ base.printer.spindownTimer = none)
    ∧ ((timed .spinup).printer.docket = some 1 ∧ (timed .spinup).docket 1 = some { docket .printing with place := some .printer }
      ∧ (docket .printing).cause = .none ∧ (timed .spinup).printer.spinupTimer ≠ none ∧ (timed .settling).printer.settleTimer ≠ none
      ∧ (timed .spinup).faults.first = none)
    ∧ ((timed .fault).printer.quietTimer ≠ none ∧ (timed .fault).printer.state = .fault ∧ (timed .spindown).printer.state = .spindown)
    ∧ (timed .spindown).printer.spindownTimer ≠ none
    ∧ (let s := prn fun p => { p with state := .readyOut }
       s.printer.state = .readyOut ∧ s.printer.docket = none ∧ s.sensor .trayPresent = false)
    ∧ (timed .readyOut).printer.docket ≠ none := by
  decide +kernel

/-- The record of a band at ring 3, its lane 0 with 2 dots. -/
def bandRecord : BandRecord :=
  { ring := 3, lanes := Vector.ofFn fun l : Fin 8 => { enabled := l == 0, dots := 2, phase := 100, addr := 0x8000 } }

/-- The spindle at edge 2047 at time 1,000, the shadow store holding band 0 in a state. -/
def turning (st : PrinterState) (f : Printer → Printer) : State :=
  prn (fun p => f { p with
    edge := some 2047, edgeTime := some 1000#32, position := 3, shadow := some { band := 0, record := some bandRecord, dots := [] } })
    (printing st true)

/-- Intervals of 2,000 and 50,000 are clean, 1,999 and 50,001 are not. -/
theorem test_SpindleEvents_met :
    (∀ st ∈ [PrinterState.spinup, .seating, .empty, .readyOut, .spindown, .fault, .settling, .stepping, .printing],
      (turning st id).printer.state = st ∧ (turning st id).printer.edge = some 2047 ∧ (turning st id).printer.edgeTime = some 1000#32)
    ∧ (2000 ≤ (3000#32 - 1000#32).toNat ∧ (3000#32 - 1000#32).toNat ≤ 50000) ∧ (51000#32 - 1000#32).toNat ≤ 50000
    ∧ ¬ 2000 ≤ (2999#32 - 1000#32).toNat ∧ ¬ (51001#32 - 1000#32).toNat ≤ 50000
    ∧ (turning .settling fun p => { p with edge := some 5 }).printer.edge ≠ some 2047
    ∧ ((turning .settling id).printer.breached = false ∧ (turning .settling id).printer.clean = 0)
    ∧ (let s := turning .settling fun p => { p with edge := some 2048, breached := true }
       s.printer.breached = true ∧ ¬ ∃ n, s.printer.edge = some n ∧ n < 2047)
    ∧ (let s := turning .settling fun p => { p with clean := 1, position := 2 }
       s.printer.clean = 1 ∧ s.printer.nextRecord = some bandRecord ∧ s.printer.position ≠ bandRecord.ring)
    ∧ base.printer.edgeTime = none
    ∧ (∃ n, (turning .printing fun p => { p with edge := some 2046 }).printer.edge = some n ∧ n < 2047)
    ∧ (turning .printing id).printer.docket = some 1
    ∧ (turning .printing id).docket 1 = some { docket .printing with place := some .printer }
    ∧ (docket .printing).cause = .none ∧ (turning .printing id).faults.first = none := by
  decide +kernel

theorem test_BandsAndRevolutions_met :
    (∀ n ∈ [0, 3, 4], let p : PrintCounters := { fired := 0, crowded := 0, dropped := 0, clipped := 0, slips := n }
      let s := (turning .stepping id).setDocket 1 (some { docket .printing with print := some p })
      s.printer.docket = some 1 ∧ s.docket 1 = some { docket .printing with print := some p } ∧ (docket .printing).cause = .none
      ∧ s.printer.nextRecord = some bandRecord ∧ s.printer.position = bandRecord.ring ∧ s.printer.carriageTarget = none
      ∧ s.printer.load = [])
    ∧ (turning .stepping fun p => { p with shadow := none }).printer.nextRecord = none
    ∧ (let s := turning .stepping fun p => { p with position := 2 }
       s.printer.nextRecord = some bandRecord ∧ s.printer.position ≠ bandRecord.ring)
    ∧ (let s := turning .stepping fun p => { p with load := [(.dots 0, Reading.start 0x8000 1)] }
       s.printer.nextRecord = some bandRecord ∧ s.printer.position = bandRecord.ring ∧ s.printer.load ≠ []) := by
  decide +kernel

/-- The end of band 0 of a label of two bands and of one, an edge in PRINTING with a late dot, and dots that are due, not set, and not due. -/
theorem test_BandsAndRevolutions_edges_met :
    (let s := turning .printing fun p => { p with active := p.shadow, shadow := none }
     s.job 0 = some { job with inFlight := 1, nextOrdinal := 2 } ∧ s.printer.nextBand + 1 ≠ job.bandCount
     ∧ (s.setJob 0 (some { job with bandCount := 1 })).job 0 = some { job with bandCount := 1 }
     ∧ s.printer.nextBand + 1 = ({ job with bandCount := 1 } : Job).bandCount ∧ s.printer.state = .printing
     ∧ (∀ t ∈ s.transport.queue, t.docket ≠ 1) ∧ (s.taskInFlight.map (·.docket)) ≠ some 1)
    ∧ (let s := turning .printing fun p => { p with
         edge := some 0, active := p.shadow, lanes := p.lanes.set 0 { p.lanes.get 0 with
           enabled := true, waiting := [{ edge := 0, own := 3001#32, clipped := false }] } }
       s.printer.edge = some 0 ∧ (0 : Nat) ≠ 2047 ∧ s.printer.edgeTime = some 1000#32
       ∧ (2000 ≤ (3000#32 - 1000#32).toNat ∧ (3000#32 - 1000#32).toNat ≤ 50000) ∧ (3001#32 - 3000#32).toNat < 2 ^ 31
       ∧ s.printer.docket = some 1 ∧ s.docket 1 = some { docket .printing with place := some .printer }
       ∧ (docket .printing).print = some { fired := 0, crowded := 0, dropped := 0, clipped := 0, slips := 0 })
    ∧ (let e := bandRecord.lanes.get 0
       let l := Lane.begin Lane.reset e
       (l.k < e.dots ∧ l.target / 256 = 0) ∧ dotBit [1#8] 0 = true ∧ dotBit [0#8] 0 = false ∧ l.target / 256 ≠ 1
       ∧ l.waiting.length < 16 ∧ 16 ≤ (List.replicate 16 ({ edge := 0, own := 0, clipped := false } : Dot)).length
       ∧ l.k + 2 = e.dots) := by
  decide +kernel

/-- A band record whole, one whose lane 0 is enabled at address 2, a piece of dots, and parts not yet cut. -/
theorem test_BandsAndRevolutions_load_met :
    let rd : Reading := Reading.start 0x6000 144
    let s := turning .settling fun p => { p with load := [(.record, rd)] }
    s.printer.load = [(.record, rd)]
    ∧ (rd.place 0 (List.replicate 144 0#8)).data = some (List.replicate 144 0#8) ∧ (rd.place 0 [0#8, 0#8, 0#8, 0#8]).data = none
    ∧ (let b := ((List.replicate 144 0#8).set 16 1#8).set 24 2#8
       field b 16 1 % 2 = 1 ∧ field b 24 8 % 4 ≠ 0 ∧ field (List.replicate 144 0#8) 16 1 % 2 = 0)
    ∧ (s.printer.docket = some 1 ∧ s.docket 1 = some { docket .printing with place := some .printer }
      ∧ (docket .printing).cause = .none ∧ s.faults.first = none)
    ∧ ([(BandPart.dots 1, rd)].find? (fun x => x.1 == .dots 1) = some (.dots 1, rd))
    ∧ (s.engine.print = none ∧ s.printer.load = [] ++ (.record, rd) :: [] ∧ rd.cut < rd.len) := by
  decide +kernel

/-- The extremes of a ring, and a lane of PRINTING at the index that starts its revolution. -/
theorem test_DotTargets_met :
    1 ≤ ({ enabled := true, dots := 1, phase := 524287, addr := 0 } : RingEntry).dots
    ∧ (let e := bandRecord.lanes.get 0
       let s := turning .printing fun p => { p with
         active := some { band := 0, record := some bandRecord, dots := [(0, [1#8, 0#8, 0#8, 0#8])] }
         lanes := p.lanes.set 0 (Lane.begin Lane.reset e) }
       let l := s.printer.lanes.get 0
       (s.printer.ring 0).map (·.2) = some e ∧ l.enabled = true ∧ 1 ≤ e.dots ∧ l.k ≤ e.dots
       ∧ l.target = e.phase + l.k * 2 ^ 19 / e.dots ∧ l.err = l.k * e.r % e.dots ∧ (∀ x, ¬ x < l.k)
       ∧ ∃ p, (docket .printing).print = some p) := by
  refine ⟨by decide, by decide +kernel, by decide +kernel, by decide +kernel, by decide +kernel, by decide +kernel, by decide +kernel,
    fun x => Nat.not_lt_zero x, _, rfl⟩

/-- Lane 2 with a waiting dot and a last fire, recovering or not. -/
def firing (own : PrintTime) (recovering : Bool) : State :=
  prn (fun p => { p with lanes := p.lanes.set 2 { p.lanes.get 2 with
      waiting := [{ edge := 0, own := own, clipped := false }], lastFire := some 5000#32, recovering := recovering } })
    ((printing .printing true).setDocket 1 (some { docket .printing with
      print := some { fired := 16777214, crowded := 0, dropped := 0, clipped := 0, slips := 0 } }))

theorem test_DotsFire_met :
    (base.printer.lanes.get 2).waiting = []
    ∧ (let s := firing 5999#32 true
       (s.printer.lanes.get 2).waiting = { edge := 0, own := 5999#32, clipped := false } :: [] ∧ s.printer.docket = some 1
       ∧ s.docket 1 = some { docket .printing with print := some { fired := 16777214, crowded := 0, dropped := 0, clipped := 0, slips := 0 } }
       ∧ (s.printer.lanes.get 2).lastFire = some 5000#32 ∧ (s.printer.lanes.get 2).recovering = true
       ∧ (5000#32 + 1000#32 - 5999#32).toNat < 2 ^ 31 ∧ 5000#32 + 1000#32 ≠ 5999#32)
    ∧ ((firing 6000#32 false).printer.lanes.get 2).recovering = false
    ∧ (let p : Printer := { base.printer with carriageTarget := some 3 }
       p.homingSteps = 0 ∧ p.carriageTarget = some 3 ∧ p.position ≠ 3)
    ∧ base.printer.carriageTarget = none ∧ ({ base.printer with homingSteps := 1 } : Printer).homingSteps = 1
    ∧ (let s := turning .settling fun p => { p with position := 2 }
       s.printer.state = .settling ∧ s.printer.carriageTarget = none ∧ s.printer.homingSteps = 0
       ∧ s.printer.shadow = some { band := 0, record := some bandRecord, dots := [] } ∧ s.printer.nextBand = 0
       ∧ bandRecord.ring ≠ s.printer.position) := by
  decide +kernel

/-- A lane whose crowded dot is due at the end of its recovery, one whose older recovery is still to end, and one that is not recovering. -/
theorem test_DotsFire_ends_met :
    (let s := firing 5999#32 true
     (s.printer.lanes.get 2).stale = false ∧ (s.printer.lanes.get 2).recovering = true
     ∧ ((s.printer.lanes.get 2).recovered).due = true)
    ∧ ({ (firing 5999#32 true).printer.lanes.get 2 with stale := true } : Lane).stale = true
    ∧ ((firing 6000#32 false).printer.lanes.get 2).stale = false
    ∧ ((firing 5999#32 false).printer.lanes.get 2).due = false := by
  decide +kernel

/-! ### Signatures -/

theorem test_GroupsSigned_met :
    base.engine.posted.length < 32 ∧ (2 : Nat) = ({ job with frontier := 2 } : Job).frontier
    ∧ (1 ≠ ({ job with frontier := 2, openEntries := [1] } : Job).frontier ∧ 1 ∈ ({ job with frontier := 2, openEntries := [1] } : Job).openEntries)
    ∧ (0 ≠ ({ job with frontier := 2, openEntries := [1] } : Job).frontier ∧ 0 ∉ ({ job with frontier := 2, openEntries := [1] } : Job).openEntries)
    ∧ (burning id .burning []).burnOf 0 = some (newBurn 1 job true)
    ∧ (verifying id).verifyOf 0 = some { newVerify 1 job with pages := [{ group := 2, full := false, got := [] }] }
    ∧ (verifying id).docket 1 = some (docket .verifying) ∧ ((verifying id).bay 0).state = .verifying
    ∧ ((docket .verifying).state = .verifying ∧ (docket .verifying).bay = 0 ∧ (docket .verifying).cause = .none
      ∧ (docket .verifying).rereads < 255)
    ∧ (((verifying id).bay 0).soft < 15 ∧ ((verifying id).bay 0).hard < 15)
    ∧ ((newVerify 1 job).check ∉ (newVerify 1 job).marks ∧ (newVerify 1 job).check + 1 < (newVerify 1 job).groups)
    ∧ (({ newVerify 1 job with check := 2, marks := [2] } : Verify).check + 1 = (newVerify 1 job).groups
      ∧ 2 ∈ ({ newVerify 1 job with check := 2, marks := [2] } : Verify).marks) := by
  decide +kernel

/-- A listed compare behind one that is presented, the compare line empty. -/
theorem test_GroupsSigned_presents_met :
    let e : Compare := { group := 1, crc := 0, phase := .listed }
    let c : Burn := { newBurn 1 job true with compares := [{ e with group := 0, phase := .granted }, e] }
    let s := burning (fun _ => c) .burning []
    s.burnOf 0 = some c ∧ s.docket c.docket = some (docket .burning) ∧ s.job 0 = some { job with inFlight := 1, nextOrdinal := 2 }
    ∧ c.state = .opening ∧ (s.bay 0).compare = none ∧ c.compares = [{ e with group := 0, phase := .granted }] ++ e :: []
    ∧ (∀ x ∈ [{ e with group := 0, phase := .granted }], x.phase ≠ .listed) := by
  decide +kernel

/-- A command that is no power-up answers a next state. -/
theorem test_EveryCommandCompletes_met :
    exec (.registerWriteOther 16 7#32) base = .next base ∧ Instr.registerWriteOther 16 7#32 ≠ .powerUp :=
  ⟨rfl, by decide⟩

end Sys2Proof.Tests
end

section
/-! PROOFS. Which task is eligible, and which one is granted (R60, R61). -/

namespace Sys2Proof.Machine

/-! ### Eligibility, kind by kind (R60) -/

@[simp] theorem destReady_printer (s : State) : s.destReady .printer = true ↔ s.printer.state = .empty := beq_iff_eq

@[simp] theorem destReady_output (s : State) (o : OutputBin) : s.destReady (.output o) = true ↔ s.outBin o = .available :=
  beq_iff_eq

@[simp] theorem destReady_bay (s : State) (b : BayNo) : s.destReady (.bay b) = false := rfl

theorem eligible_load {t : Task} {i : InputBin} {b : BayNo} (s : State) (kind : t.kind = .load) (source : t.source = .input i)
    (dest : t.dest = .bay b) :
    s.eligible t = true ↔ (s.bins.input i).state ≠ .open ∧ (s.bay b).state = .reserved := by
  simp [State.eligible, kind, source, dest]

theorem eligible_unload {t : Task} {b : BayNo} (s : State) (kind : t.kind = .unload) (source : t.source = .bay b) :
    s.eligible t = true ↔ ((s.bay b).state = .holding ∨ ((s.bay b).state = .absent ∧ (s.bay b).tray = .open))
      ∧ s.destReady t.dest = true := by
  simp [State.eligible, kind, source]

theorem eligible_printerOut {t : Task} (s : State) (kind : t.kind = .printerOut) (source : t.source = .printer) :
    s.eligible t = true ↔ s.printer.state = .readyOut ∧ s.destReady t.dest = true := by
  simp [State.eligible, kind, source]

/-- The stations of an eligible task: it has at most one bay, the destination of a LOAD or the source of an UNLOAD. -/
theorem stations_of_eligible {s : State} {t : Task} (h : s.eligible t = true) :
    (∃ i b, t.source = .input i ∧ t.dest = .bay b)
    ∨ (∃ b, t.source = .bay b ∧ ∀ x, t.dest ≠ .bay x)
    ∨ (t.source = .printer ∧ ∀ x, t.dest ≠ .bay x) := by
  have noBay (ready : s.destReady t.dest = true) (x : BayNo) : t.dest ≠ .bay x := by
    intro e; simp [e] at ready
  unfold State.eligible at h
  split at h
  next i b _ source dest => exact .inl ⟨i, b, source, dest⟩
  next b _ source => exact .inr (.inl ⟨b, source, noBay (by simp_all)⟩)
  next source => exact .inr (.inr ⟨source, noBay (by simp_all)⟩)
  next => cases h

/-! ### The task to grant (R61) -/

theorem oldestEligible_none {s : State} {k : TaskKind} (h : s.oldestEligible k = none) :
    ∀ v ∈ s.transport.queue, s.eligible v = true → v.kind ≠ k := by
  have spec := oldestEligible_spec s k
  rw [h] at spec
  intro v waits able kind
  simp [spec v waits kind] at able

theorem oldestEligible_some {s : State} {k : TaskKind} {u : Task} (h : s.oldestEligible k = some u) :
    u ∈ s.transport.queue ∧ u.kind = k ∧ s.eligible u = true
      ∧ ∀ v ∈ s.transport.queue, v.kind = k → s.eligible v = true → u.age ≤ v.age := by
  have spec := oldestEligible_spec s k
  rwa [h] at spec

/-- The task to grant is the oldest eligible one of its kind, and no eligible task is of a higher class. -/
theorem nextTask_some {s : State} {u : Task} (h : s.nextTask = some u) :
    s.oldestEligible u.kind = some u
    ∧ (u.kind ≠ .printerOut → s.oldestEligible .printerOut = none)
    ∧ (u.kind = .load → s.oldestEligible .unload = none) := by
  unfold State.nextTask at h
  split at h
  next out =>
    cases h
    have kind := (oldestEligible_some out).2.1
    simp [kind, out]
  next noOut =>
    split at h
    next unload =>
      cases h
      have kind := (oldestEligible_some unload).2.1
      simp [kind, noOut, unload]
    next noUnload =>
      have kind := (oldestEligible_some h).2.1
      simp [kind, noOut, noUnload, h]

theorem nextTask_mem {s : State} {u : Task} (h : s.nextTask = some u) : s.eligible u = true ∧ u ∈ s.transport.queue := by
  obtain ⟨waits, -, able, -⟩ := oldestEligible_some (nextTask_some h).1
  exact ⟨able, waits⟩

theorem nextTask_eq_none_iff (s : State) : s.nextTask = none ↔ ∀ v ∈ s.transport.queue, s.eligible v = false := by
  constructor
  · intro h v waits
    unfold State.nextTask at h
    split at h
    next => cases h
    next noOut =>
      split at h
      next => cases h
      next noUnload =>
        by_contra able
        rw [Bool.not_eq_false] at able
        cases kind : v.kind with
        | load => exact oldestEligible_none h v waits able kind
        | unload => exact oldestEligible_none noUnload v waits able kind
        | printerOut => exact oldestEligible_none noOut v waits able kind
  · intro none_able
    by_contra some_next
    obtain ⟨u, next⟩ := Option.ne_none_iff_exists'.mp some_next
    obtain ⟨able, waits⟩ := nextTask_mem next
    simp [none_able u waits] at able

theorem nextTask_of_waits {s : State} (waits : ∃ t ∈ s.transport.queue, s.eligible t = true) : s.nextTask ≠ none := by
  obtain ⟨t, queued, able⟩ := waits
  intro none_next
  simp [(nextTask_eq_none_iff s).mp none_next t queued] at able

/-- The task to grant comes first: of the highest class among the eligible tasks, and the oldest of its class. -/
theorem nextTask_first {s : State} {u v : Task} (next : s.nextTask = some u) (waits : v ∈ s.transport.queue)
    (able : s.eligible v = true) :
    (v.kind = .printerOut → u.kind = .printerOut) ∧ (v.kind = .unload → u.kind ≠ .load) ∧ (v.kind = u.kind → u.age ≤ v.age) := by
  obtain ⟨first, noOut, noUnload⟩ := nextTask_some next
  obtain ⟨-, -, -, oldest⟩ := oldestEligible_some first
  refine ⟨fun kind => ?_, fun kind load => ?_, fun kind => oldest v waits kind able⟩
  · by_contra lower
    exact oldestEligible_none (noOut lower) v waits able kind
  · exact oldestEligible_none (noUnload load) v waits able kind

@[simp] theorem unqueueTask_queue (d : DocketNo) (s : State) :
    (unqueueTask d s).transport.queue = s.transport.queue.filter fun t => t.docket != d := rfl

/-- Settles O28, each kind by its own condition: an ineligible task stays where it is while another is taken. -/
theorem taskEligible : Obligations.TaskEligible := by
  intro t s
  refine ⟨fun _ _ kind source dest => eligible_load s kind source dest, fun b kind source dest => ?_,
    fun b o kind source dest => ?_, fun o kind source dest => ?_, nextTask_of_waits, fun _ => nextTask_mem,
    fun u v _ queued _ other => ?_⟩
  · rw [eligible_unload s kind source, dest, destReady_printer]
  · rw [eligible_unload s kind source, dest, destReady_output]
  · rw [eligible_printerOut s kind source, dest, destReady_output]
  · simpa [queued] using other

end Sys2Proof.Machine
end

section
/-! PROOFS. What a grant does: a task taken up, and a LOAD of an EMPTY bin ended (R61). -/

namespace Sys2Proof.Machine

/-! ### What TRAY_OPEN asked of a bay does (R75) -/

theorem State.hasReq_of_reqs {s t : State} {b : BayNo} (h : (t.bay b).reqs = (s.bay b).reqs) (q : Request) :
    t.hasReq b q = s.hasReq b q := congrArg (fun l => l.any fun o => o.req == q) h

@[simp] theorem setBayState_hasReq (b x : BayNo) (st : BayState) (s : State) (q : Request) :
    (setBayState b st s).hasReq x q = s.hasReq x q :=
  State.hasReq_of_reqs (by rw [setBayState_bay]; split <;> simp_all) q

theorem askTrayOpen_bay_other {b x : BayNo} (p : Purpose) (s : State) (h : x ≠ b) : (askTrayOpen b p s).bay x = s.bay x := by
  unfold askTrayOpen
  dsimp only
  split <;> split <;> simp [setBayState_bay, sendReq_bay, h]

theorem askTrayOpen_of_open {b : BayNo} (p : Purpose) {s : State} (h : (s.bay b).tray = .open ∧ s.hasReq b .trayClose = false) :
    (askTrayOpen b p s).out = s.out ∧ (askTrayOpen b p s).bay b =
      { s.bay b with state := if (s.bay b).state = .absent then .absent else .open } := by
  unfold askTrayOpen
  rw [if_pos h]
  dsimp only
  split
  next absent => rw [← absent]; exact ⟨rfl, rfl⟩
  next => simp [setBayState_bay]

theorem askTrayOpen_of_not_open {b : BayNo} (p : Purpose) {s : State}
    (h : ¬ ((s.bay b).tray = .open ∧ s.hasReq b .trayClose = false)) :
    (askTrayOpen b p s).hasReq b .trayOpen = true
    ∧ ((askTrayOpen b p s).bay b).state = if (s.bay b).state = .absent then .absent else .opening := by
  unfold askTrayOpen
  rw [if_neg h]
  dsimp only
  split
  next absent => exact ⟨sendReq_hasReq .., by simp [sendReq_bay, absent]⟩
  next => exact ⟨by rw [setBayState_hasReq]; exact sendReq_hasReq .., by simp [setBayState_bay]⟩

/-! ### A task taken up -/

@[simp] theorem setTransport_transport (st : TransportState) (s : State) :
    (setTransport st s).transport = { s.transport with state := st } := by
  unfold setTransport
  split
  next same => rw [← same]
  next => simp

/-- Equal towers hold the same geometry. -/
theorem State.position_congr {s t : State} (h : t.tower = s.tower) (st : Station) : t.position st = s.position st :=
  congrArg (fun tower => State.position { s with tower := tower } st) h

theorem State.cal_congr {s t : State} (h : t.tower = s.tower) : t.cal = s.cal :=
  congrArg (fun tower => State.cal { s with tower := tower }) h

/-- A leg with a station begins with the lift's move to it. -/
theorem beginLeg_transport {leg : Leg} {s : State} {e : Errand} {st : Station} (errand : s.transport.errand = some e)
    (station : e.station leg = some st) :
    (beginLeg leg s).transport =
      { s.transport with phase := .lift leg, lift := s.transport.lift.moveTo s.cal (s.position st) } := by
  have moved : beginLeg leg s = startMove (s.position st) (setPhase (.lift leg) s) := by simp [beginLeg, errand, station]
  rw [moved]
  rfl

theorem emptyLoad_iff (s : State) (t : Task) :
    s.emptyLoad t = true ↔ t.kind = .load ∧ ∃ i, t.source = .input i ∧ (s.bins.input i).state = .empty := by
  unfold State.emptyLoad
  split
  next i kind source => simp [kind, source]
  next other =>
    refine ⟨fun h => (nomatch h), fun ⟨kind, i, source, _⟩ => (other i kind source).elim⟩

/-- A task at its grant, before its tray is asked for: out of the queue and in hand, the transport BUSY (R61). -/
def takeUp (u : Task) (s : State) : State :=
  setErrand (some { work := .task u, source := some u.source, dest := u.dest, held := false, misses := 0 })
    (setTransport .busy (unqueueTask u.docket s))

theorem grantTask_of_not_emptyLoad {u : Task} {s : State} (h : s.emptyLoad u = false) :
    grantTask u s = beginLeg .pick (askAt u.source .normal (askAt u.dest .normal (takeUp u s))) := by
  simp [grantTask, h, takeUp]

theorem takeUp_frame (u : Task) (s : State) :
    (takeUp u s).tower = s.tower ∧ (takeUp u s).faults = s.faults ∧ (takeUp u s).jobs = s.jobs
    ∧ (takeUp u s).dockets = s.dockets ∧ (takeUp u s).out = s.out := by
  simp [takeUp]

@[simp] theorem takeUp_bay (u : Task) (s : State) (b : BayNo) : (takeUp u s).bay b = s.bay b := by simp [takeUp]

@[simp] theorem takeUp_transport (u : Task) (s : State) :
    (takeUp u s).transport = { s.transport with
      state := .busy, queue := s.transport.queue.filter fun t => t.docket != u.docket
      errand := some { work := .task u, source := some u.source, dest := u.dest, held := false, misses := 0 } } := by
  simp [takeUp, setErrand, unqueueTask, setQueue]

/-- The arm at a grant. -/
theorem grantTask_transport {u : Task} {s : State} (h : s.emptyLoad u = false) :
    (grantTask u s).transport = { s.transport with
      state := .busy, queue := s.transport.queue.filter fun t => t.docket != u.docket, phase := .lift .pick
      lift := s.transport.lift.moveTo s.cal (s.position u.source)
      errand := some { work := .task u, source := some u.source, dest := u.dest, held := false, misses := 0 } } := by
  have tower : (askAt u.source .normal (askAt u.dest .normal (takeUp u s))).tower = s.tower := by simp [takeUp_frame]
  rw [grantTask_of_not_emptyLoad h, beginLeg_transport (by simp; rfl) rfl, State.cal_congr tower, State.position_congr tower]
  simp

theorem grantTask_frame_of_not_emptyLoad {u : Task} {s : State} (h : s.emptyLoad u = false) :
    (grantTask u s).jobs = s.jobs ∧ (grantTask u s).dockets = s.dockets ∧ (grantTask u s).faults = s.faults := by
  rw [grantTask_of_not_emptyLoad h]
  simp [takeUp_frame]

/-! ### The tray asked for at a grant -/

theorem askAt_bay_other {st : Station} {b : BayNo} (p : Purpose) (s : State) (h : st ≠ .bay b) :
    (askAt st p s).bay b = s.bay b := by
  unfold askAt
  split
  next x => exact askTrayOpen_bay_other p s fun e => h (e ▸ rfl)
  next => rfl

theorem askAt_of_no_bay {st : Station} (p : Purpose) (s : State) (h : ∀ b, st ≠ .bay b) : askAt st p s = s := by
  cases st with
  | bay b => exact (h b rfl).elim
  | _ => rfl

theorem grantTask_bay_other {u : Task} {s : State} {b : BayNo} (h : s.emptyLoad u = false) (source : u.source ≠ .bay b)
    (dest : u.dest ≠ .bay b) : (grantTask u s).bay b = s.bay b := by
  rw [grantTask_of_not_emptyLoad h, beginLeg_bay, askAt_bay_other _ _ source, askAt_bay_other _ _ dest, takeUp_bay]

/-- An eligible task asks for the one tray of the bay it has. -/
theorem grantTask_asks {u : Task} {s : State} {b : BayNo} (able : s.eligible u = true) (h : s.emptyLoad u = false)
    (here : u.source = .bay b ∨ u.dest = .bay b) :
    grantTask u s = beginLeg .pick (askTrayOpen b .normal (takeUp u s)) := by
  rw [grantTask_of_not_emptyLoad h]
  congr 1
  obtain ⟨i, x, source, dest⟩ | ⟨x, source, dest⟩ | ⟨source, dest⟩ := stations_of_eligible able
  · obtain rfl : x = b := by simpa [source, dest] using here
    simp [source, dest, askAt]
  · obtain rfl : x = b := by simpa [source, dest] using here
    rw [askAt_of_no_bay _ _ dest, source, askAt]
  · simp [source, dest] at here

theorem grantTask_tray_of_open {u : Task} {s : State} {b : BayNo} (able : s.eligible u = true) (h : s.emptyLoad u = false)
    (here : u.source = .bay b ∨ u.dest = .bay b) (tray : (s.bay b).tray = .open ∧ s.hasReq b .trayClose = false) :
    (grantTask u s).out = s.out ∧ (grantTask u s).bay b =
      { s.bay b with state := if (s.bay b).state = .absent then .absent else .open } := by
  obtain ⟨asked_out, asked_bay⟩ := askTrayOpen_of_open .normal (s := takeUp u s) (b := b)
    (by rwa [State.hasReq_congr (takeUp_bay u s b), takeUp_bay])
  rw [grantTask_asks able h here]
  simp [asked_out, asked_bay, takeUp_frame]

theorem grantTask_tray_of_not_open {u : Task} {s : State} {b : BayNo} (able : s.eligible u = true) (h : s.emptyLoad u = false)
    (here : u.source = .bay b ∨ u.dest = .bay b) (tray : ¬ ((s.bay b).tray = .open ∧ s.hasReq b .trayClose = false)) :
    (grantTask u s).hasReq b .trayOpen = true
    ∧ ((grantTask u s).bay b).state = if (s.bay b).state = .absent then .absent else .opening := by
  obtain ⟨asked, state⟩ := askTrayOpen_of_not_open .normal (s := takeUp u s) (b := b)
    (by rwa [State.hasReq_congr (takeUp_bay u s b), takeUp_bay])
  rw [grantTask_asks able h here, State.hasReq_congr (beginLeg_bay ..), beginLeg_bay]
  exact ⟨asked, by rw [state, takeUp_bay]⟩

/-! ### A docket dissolved while the arm is not BUSY (R16, R61) -/

theorem sendReq_hasReq_other {q r : Request} (b x : BayNo) (p : Purpose) (m : DriveMsg) (s : State) (h : q ≠ r) :
    (sendReq b q p m s).hasReq x r = s.hasReq x r := by
  unfold State.hasReq
  rw [sendReq_bay]
  split
  next e =>
    subst e
    dsimp only
    split
    · rfl
    · simp [h]
  next => rfl

@[simp] theorem setLogical_hasReq (b x : BayNo) (n : Option BayNo) (s : State) (q : Request) :
    (setLogical b n s).hasReq x q = s.hasReq x q :=
  State.hasReq_of_reqs (by rw [setLogical_bay]; split <;> simp_all) q

theorem takeover_hasReq_trayOpen (n : Option BayNo) (x : BayNo) (s : State) :
    (takeover n s).hasReq x .trayOpen = s.hasReq x .trayOpen := by
  unfold takeover
  split
  next m sp _ _ =>
    split
    · rw [setBayState_hasReq, sendReq_hasReq_other _ _ _ _ _ (by decide), State.hasReq_congr (setSpare_bay ..),
        setLogical_hasReq]
    · rfl
  next => rfl

theorem retire_hasReq_trayOpen (b x : BayNo) (s : State) : (retire b s).hasReq x .trayOpen = s.hasReq x .trayOpen := by
  unfold retire
  rw [State.hasReq_congr (reportFault_bay ..), takeover_hasReq_trayOpen, setLogical_hasReq, setBayState_hasReq]

theorem enterIdle_hasReq_trayOpen (b x : BayNo) (s : State) : (enterIdle b s).hasReq x .trayOpen = s.hasReq x .trayOpen := by
  unfold enterIdle
  split
  · exact retire_hasReq_trayOpen b x s
  · rw [State.hasReq_congr (triggerRound_bay ..), setBayState_hasReq]

theorem setBay_hasReq {b : BayNo} {r : Bay} {s : State} (h : r.reqs = (s.bay b).reqs) (x : BayNo) (q : Request) :
    (s.setBay b r).hasReq x q = s.hasReq x q :=
  State.hasReq_of_reqs (by rw [State.bay_setBay]; split <;> simp_all) q

theorem askTrayClose_hasReq_trayOpen (b x : BayNo) (s : State) :
    (askTrayClose b s).hasReq x .trayOpen = s.hasReq x .trayOpen := by
  unfold askTrayClose
  split
  · rw [setBayState_hasReq, sendReq_hasReq_other _ _ _ _ _ (by decide)]
  · exact setBay_hasReq (by rfl) x _
  · rfl

theorem stopPick_of_not_busy {s : State} (h : s.transport.state ≠ .busy) : stopPick s = setErrand none s := by
  simp [stopPick, h]

/-- The release of a bay asks for no tray to open. -/
theorem releaseBay_hasReq_trayOpen (b x : BayNo) (s : State) :
    (releaseBay b s).hasReq x .trayOpen = s.hasReq x .trayOpen := by
  have freed : (s.setBay b { s.bay b with docket := none }).hasReq x .trayOpen = s.hasReq x .trayOpen := setBay_hasReq (by rfl) x _
  unfold releaseBay
  dsimp only
  split
  · rw [enterIdle_hasReq_trayOpen, freed]
  · rw [askTrayClose_hasReq_trayOpen, freed]
  · rw [askTrayClose_hasReq_trayOpen, freed]
  · exact freed

/-- A bay that was RESERVED and is not failing is IDLE once it is released, with no docket. -/
theorem releaseBay_of_reserved {b : BayNo} {s : State} (reserved : (s.bay b).state = .reserved)
    (sound : (s.bay b).failing = false) (x : BayNo) :
    (releaseBay b s).bay x = if x = b then { s.bay b with docket := none, state := .idle } else s.bay x := by
  simp [releaseBay, reserved, enterIdle, sound, setBayState_bay, State.bay_setBay]
  split <;> simp

/-- The end of a stopping job changes its state alone. -/
theorem endIfStopped_job (k : SlotNo) (s : State) :
    (endIfStopped k s).job k = s.job k ∨ (endIfStopped k s).job k = (s.job k).map fun j => { j with state := .ended } := by
  have ended : (endJob k s).job k = (s.job k).map fun j => { j with state := .ended } := by
    unfold endJob
    dsimp only
    split <;> simp [updJob_job]
  unfold endIfStopped
  split
  next =>
    split
    · exact .inr ended
    · exact .inl rfl
  next => exact .inl rfl

/-- The job a dissolve tells has one docket fewer in flight. -/
theorem forgetDissolved_inFlight {d : DocketNo} {k : SlotNo} {s : State} {j j' : Job} (before : s.job k = some j)
    (after : (forgetDissolved d k s).job k = some j') : j'.inFlight = j.inFlight - 1 := by
  unfold forgetDissolved at after
  obtain same | ended := endIfStopped_job k
      (triggerRound ((s.setDocket d none).updJob k fun job => { job with inFlight := job.inFlight - 1 }))
  · rw [same] at after
    simp [updJob_job, before] at after
    simp [← after]
  · rw [ended] at after
    simp [updJob_job, before] at after
    simp [← after]

theorem forgetDissolved_docket (d : DocketNo) (k : SlotNo) (s : State) : (forgetDissolved d k s).docket d = none := by
  simp [forgetDissolved]

/-- The bay's part of a dissolve: a bay that has the docket is released. -/
def releaseOf (d : DocketNo) (b : BayNo) (s : State) : State := if (s.bay b).docket = some d then releaseBay b s else s

theorem releaseOf_frame (d : DocketNo) (b : BayNo) (s : State) :
    (releaseOf d b s).transport = s.transport ∧ (releaseOf d b s).jobs = s.jobs := by
  unfold releaseOf
  split <;> simp

theorem releaseOf_hasReq_trayOpen (d : DocketNo) (b x : BayNo) (s : State) :
    (releaseOf d b s).hasReq x .trayOpen = s.hasReq x .trayOpen := by
  unfold releaseOf
  split
  · exact releaseBay_hasReq_trayOpen b x s
  · rfl

@[simp] theorem unqueueTask_unqueueTask (d : DocketNo) (s : State) : unqueueTask d (unqueueTask d s) = unqueueTask d s := by
  simp [unqueueTask, setQueue]

/-- A dissolve while the arm is not BUSY: the task leaves the queue, the bay is released and the job told; of the arm's state
nothing but the work in hand can change. -/
theorem dissolve_of_not_busy {d : DocketNo} {s : State} {r : Docket} (docket : s.docket d = some r)
    (still : s.transport.state ≠ .busy) :
    ∃ e, dissolve d s = forgetDissolved d r.slot (releaseOf d r.bay (setErrand e (unqueueTask d s))) := by
  simp only [dissolve, docket]
  split
  next => exact ⟨none, by rw [stopPick_of_not_busy (s := unqueueTask d s) still]; rfl⟩
  next => exact ⟨s.transport.errand, rfl⟩

/-- A bay that was RESERVED for a dissolved docket and is not failing is IDLE with no docket, and the other bays are as they were. -/
theorem releaseOf_of_reserved {d : DocketNo} {b : BayNo} {s : State} (docket : (s.bay b).docket = some d)
    (reserved : (s.bay b).state = .reserved) (sound : (s.bay b).failing = false) (x : BayNo) :
    (releaseOf d b s).bay x = if x = b then { s.bay b with docket := none, state := .idle } else s.bay x := by
  rw [releaseOf, if_pos docket, releaseBay_of_reserved reserved sound]

/-! ### A LOAD of an EMPTY bin (R61) -/

section EmptyLoad

variable {u : Task} {s : State} {r : Docket} (h : s.emptyLoad u = true) (docket : s.docket u.docket = some r)
  (still : s.transport.state ≠ .busy)

include h docket still

theorem grantTask_of_emptyLoad :
    ∃ e, grantTask u s =
      forgetDissolved u.docket r.slot (releaseOf u.docket r.bay (setErrand e (unqueueTask u.docket s))) := by
  obtain ⟨e, dissolved⟩ := dissolve_of_not_busy (d := u.docket) (s := unqueueTask u.docket s) (by simpa using docket) still
  rw [unqueueTask_unqueueTask] at dissolved
  exact ⟨e, by simp [grantTask, h, dissolved]⟩

theorem grantTask_emptyLoad_docket : (grantTask u s).docket u.docket = none := by
  obtain ⟨e, ended⟩ := grantTask_of_emptyLoad h docket still
  rw [ended, forgetDissolved_docket]

theorem grantTask_emptyLoad_transport : ∃ e, (grantTask u s).transport =
    { s.transport with queue := s.transport.queue.filter fun t => t.docket != u.docket, errand := e } := by
  obtain ⟨e, ended⟩ := grantTask_of_emptyLoad h docket still
  refine ⟨e, ?_⟩
  calc (grantTask u s).transport
      = (releaseOf u.docket r.bay (setErrand e (unqueueTask u.docket s))).transport := by rw [ended]; simp
    _ = (setErrand e (unqueueTask u.docket s)).transport := (releaseOf_frame ..).1

theorem grantTask_emptyLoad_hasReq_trayOpen (b : BayNo) : (grantTask u s).hasReq b .trayOpen = s.hasReq b .trayOpen := by
  obtain ⟨e, ended⟩ := grantTask_of_emptyLoad h docket still
  rw [ended, State.hasReq_congr (forgetDissolved_bay ..), releaseOf_hasReq_trayOpen]
  exact State.hasReq_congr (by simp) _

theorem grantTask_emptyLoad_bay (held : (s.bay r.bay).docket = some u.docket) (reserved : (s.bay r.bay).state = .reserved)
    (sound : (s.bay r.bay).failing = false) (x : BayNo) :
    (grantTask u s).bay x = if x = r.bay then { s.bay r.bay with docket := none, state := .idle } else s.bay x := by
  obtain ⟨e, ended⟩ := grantTask_of_emptyLoad h docket still
  rw [ended, forgetDissolved_bay, releaseOf_of_reserved] <;> simp [held, reserved, sound]

theorem grantTask_emptyLoad_inFlight {j j' : Job} (before : s.job r.slot = some j)
    (after : (grantTask u s).job r.slot = some j') : j'.inFlight = j.inFlight - 1 := by
  obtain ⟨e, ended⟩ := grantTask_of_emptyLoad h docket still
  rw [ended] at after
  refine forgetDissolved_inFlight ?_ after
  rw [State.job_congr (releaseOf_frame ..).2]
  simpa using before

end EmptyLoad

/-! ### The grant -/

theorem settleStep_of_rule {r : State → Option State} {s : State} (rule : r ∈ rules) (acts : r s ≠ none) : settleStep s ≠ none :=
  fun stuck => acts (List.findSome?_eq_none_iff.mp stuck r rule)

theorem grant_eq {u : Task} {s : State} (free : s.transport.state = .free) (next : s.nextTask = some u) :
    grant s = some (grantTask u s) := by
  simp [grant, free, next]

theorem grant_none {s : State} (h : ¬ (s.transport.state = .free ∧ ∃ t ∈ s.transport.queue, s.eligible t = true)) :
    grant s = none := by
  unfold grant
  split
  next free =>
    have none_next : s.nextTask = none := (nextTask_eq_none_iff s).mpr fun v queued => by
      by_contra able
      exact h ⟨free, v, queued, by simpa using able⟩
    rw [none_next]
    rfl
  next => rfl

theorem grant_acts {s : State} (free : s.transport.state = .free) (waits : ∃ t ∈ s.transport.queue, s.eligible t = true) :
    settleStep s ≠ none ∧ ∃ u t, s.nextTask = some u ∧ grant s = some t := by
  obtain ⟨u, next⟩ := Option.ne_none_iff_exists'.mp (nextTask_of_waits waits)
  have granted := grant_eq free next
  exact ⟨settleStep_of_rule (r := grant) (by simp [rules]) (by simp [granted]), u, _, next, granted⟩

/-- Settles O29: the order of the grants, the arm and the tray of a task taken up, and the docket a LOAD of an EMPTY bin dissolves. -/
theorem grantOrder : Obligations.GrantOrder := by
  intro s waits
  refine ⟨grant_none, grant_acts, fun _ _ => nextTask_first, ?_⟩
  intro u free next empty left
  have granted := grant_eq free next
  refine ⟨fun notEmpty => ⟨grantTask u s, granted, ?_⟩, fun r isEmpty docket => ⟨grantTask u s, granted, ?_⟩⟩
  · have able := (nextTask_mem next).1
    have notLoad : s.emptyLoad u = false := by rwa [← Bool.not_eq_true, emptyLoad_iff]
    obtain ⟨jobs, dockets, faults⟩ := grantTask_frame_of_not_emptyLoad notLoad
    refine ⟨grantTask_transport notLoad, by simp [State.sameHost], ⟨jobs, dockets⟩, by simp [State.samePlant], faults, fun b => ?_⟩
    exact ⟨grantTask_bay_other notLoad, fun here =>
      ⟨grantTask_tray_of_open able notLoad here, grantTask_tray_of_not_open able notLoad here⟩⟩
  · have load : s.emptyLoad u = true := (emptyLoad_iff s u).mpr isEmpty
    have still : s.transport.state ≠ .busy := by simp [free]
    obtain ⟨e, arm⟩ := grantTask_emptyLoad_transport load docket still
    refine ⟨grantTask_emptyLoad_docket load docket still, by rw [arm], by rw [arm]; exact free, by rw [arm], by rw [arm],
      by rw [arm], grantTask_emptyLoad_hasReq_trayOpen load docket still, fun held reserved sound => ?_,
      fun _ before _ => grantTask_emptyLoad_inFlight load docket still before⟩
    have bay := grantTask_emptyLoad_bay load docket still held reserved sound
    exact ⟨by simp [bay], by simp [bay], fun x other => by simp [bay, other]⟩

end Sys2Proof.Machine
end

section
/-! PROOFS. Where the dots of a ring fall, and which of them an edge takes (R154). -/

namespace Sys2Proof.Machine

/-! ### The exact target of a dot (R154) -/

/-- The exact target T_k of dot `k`, in sub-counts from the index. -/
def RingEntry.dotTarget (e : RingEntry) (k : Nat) : Nat := e.phase + k * 2 ^ 19 / e.dots

theorem RingEntry.spacing (e : RingEntry) : e.dots * e.q + e.r = 2 ^ 19 := by
  have fits : e.q * e.dots ≤ 2 ^ 19 := Nat.div_mul_le_self ..
  rw [RingEntry.r, Nat.mul_comm e.dots]
  exact Nat.add_sub_cancel' fits

theorem RingEntry.r_lt_dots {e : RingEntry} (pos : 1 ≤ e.dots) : e.r < e.dots := by
  have rest : e.r = 2 ^ 19 % e.dots := by rw [RingEntry.r, RingEntry.q, Nat.mod_eq_sub_div_mul]
  rw [rest]
  exact Nat.mod_lt _ pos

/-- The target without a division of 2^19: whole parts of the spacing, and a correction for each whole `D` of remainders. -/
theorem RingEntry.dotTarget_eq {e : RingEntry} (pos : 1 ≤ e.dots) (k : Nat) :
    e.dotTarget k = e.phase + k * e.q + k * e.r / e.dots := by
  have expand : k * 2 ^ 19 = k * e.r + e.dots * (k * e.q) := by rw [← e.spacing]; ring
  rw [RingEntry.dotTarget, expand, Nat.add_mul_div_left _ _ pos]
  omega

theorem RingEntry.dotTarget_mono (e : RingEntry) : Monotone e.dotTarget := fun _ _ le =>
  Nat.add_le_add_left (Nat.div_le_div_right (Nat.mul_le_mul_right _ le)) _

/-- The phase of a ring record is below q, and the last dot stands at least q before the end of the revolution. -/
theorem dotTarget_parseRing_lt {bytes : List Byte} {k : Nat} (h : k < (parseRing bytes).dots) :
    (parseRing bytes).dotTarget k < 2 ^ 19 := by
  have most : (parseRing bytes).dots ≤ 16384 := Nat.min_le_left ..
  have phase : (parseRing bytes).phase ≤ (parseRing bytes).q - 1 := Nat.min_le_right ..
  generalize parseRing bytes = e at *
  have q_pos : 0 < e.q := Nat.div_pos (by omega) (by omega)
  have last : k * 2 ^ 19 / e.dots + e.q ≤ 2 ^ 19 :=
    calc k * 2 ^ 19 / e.dots + e.q
        ≤ (k * 2 ^ 19 + 2 ^ 19) / e.dots := Nat.div_add_div_le_add_div ..
      _ = (k + 1) * 2 ^ 19 / e.dots := by rw [Nat.succ_mul]
      _ ≤ e.dots * 2 ^ 19 / e.dots := Nat.div_le_div_right (Nat.mul_le_mul_right _ h)
      _ = 2 ^ 19 := Nat.mul_div_cancel_left _ (by omega)
  rw [RingEntry.dotTarget]
  omega

/-! ### The accumulator of a lane (R154) -/

/-- The lane with its accumulator at dot `k`. -/
def Lane.atDot (l : Lane) (e : RingEntry) (k : Nat) : Lane :=
  { l with k := k, target := e.dotTarget k, err := k * e.r % e.dots }

theorem Lane.eq_atDot {l : Lane} {e : RingEntry} (target : l.target = e.dotTarget l.k) (err : l.err = l.k * e.r % e.dots) :
    l = l.atDot e l.k := by
  rw [Lane.atDot, ← target, ← err]

theorem Lane.nextDot_of_lt {l : Lane} {e : RingEntry} (h : l.err + e.r < e.dots) :
    l.nextDot e = { l with k := l.k + 1, target := l.target + e.q, err := l.err + e.r } := by
  rw [Lane.nextDot, if_neg (by omega)]

theorem Lane.nextDot_of_le {l : Lane} {e : RingEntry} (h : e.dots ≤ l.err + e.r) :
    l.nextDot e = { l with k := l.k + 1, target := l.target + e.q + 1, err := l.err + e.r - e.dots } := by
  rw [Lane.nextDot, if_pos h]

/-- The three steps keep the accumulator exact: since r is below D, at most one correction falls on a dot. -/
theorem Lane.nextDot_atDot {e : RingEntry} (pos : 1 ≤ e.dots) (l : Lane) (k : Nat) :
    (l.atDot e k).nextDot e = l.atDot e (k + 1) := by
  have r_lt := RingEntry.r_lt_dots pos
  have err_lt : k * e.r % e.dots < e.dots := Nat.mod_lt _ pos
  have whole : (k + 1) * e.r / e.dots = k * e.r / e.dots + (k * e.r % e.dots + e.r) / e.dots := by
    rw [Nat.succ_mul]
    conv_lhs => rw [← Nat.div_add_mod (k * e.r) e.dots, Nat.add_assoc, Nat.mul_add_div pos]
  have rest : (k + 1) * e.r % e.dots = (k * e.r % e.dots + e.r) % e.dots := by rw [Nat.succ_mul, Nat.mod_add_mod]
  have target : e.dotTarget (k + 1) = e.dotTarget k + e.q + (k * e.r % e.dots + e.r) / e.dots := by
    rw [RingEntry.dotTarget_eq pos, RingEntry.dotTarget_eq pos, whole, Nat.succ_mul]
    omega
  obtain small | carries := Nat.lt_or_ge (k * e.r % e.dots + e.r) e.dots
  · rw [Lane.nextDot_of_lt small]
    simp only [Lane.atDot, target, rest, Nat.div_eq_of_lt small, Nat.mod_eq_of_lt small, Nat.add_zero]
  · have one : (k * e.r % e.dots + e.r) / e.dots = 1 := Nat.div_eq_of_lt_le (by omega) (by omega)
    have less : (k * e.r % e.dots + e.r) % e.dots = k * e.r % e.dots + e.r - e.dots := by
      rw [Nat.mod_eq_sub_mod carries, Nat.mod_eq_of_lt (by omega)]
    rw [Lane.nextDot_of_le carries]
    simp only [Lane.atDot, target, rest, one, less]

/-- From the index, dot after dot, the accumulator stands at every dot in turn. -/
theorem repeat_nextDot_begin {e : RingEntry} (pos : 1 ≤ e.dots) (l : Lane) (k : Nat) :
    Nat.repeat (fun x => Lane.nextDot x e) k (l.begin e) = (l.begin e).atDot e k := by
  induction k with
  | zero => simp [Nat.repeat, Lane.atDot, Lane.begin, RingEntry.dotTarget]
  | succ k ih => rw [Nat.repeat, ih, Lane.nextDot_atDot pos]

/-! ### The waiting list (R156) -/

/-- Dots join the waiting list in order while it has room. -/
def Lane.join (l : Lane) (dots : List Dot) : Lane :=
  { l with waiting := l.waiting ++ dots.take (16 - l.waiting.length) }

/-- The number of the dots that find the list full. -/
def Lane.overflow (l : Lane) (dots : List Dot) : Nat := dots.length - (16 - l.waiting.length)

@[simp] theorem Lane.join_nil (l : Lane) : l.join [] = l := by simp [Lane.join]

@[simp] theorem Lane.overflow_nil (l : Lane) : l.overflow [] = 0 := by simp [Lane.overflow]

theorem Lane.join_append (l : Lane) (xs ys : List Dot) : l.join (xs ++ ys) = (l.join xs).join ys := by
  simp only [Lane.join, List.take_append, List.append_assoc, List.length_append, List.length_take]
  congr 4
  omega

theorem Lane.overflow_append (l : Lane) (xs ys : List Dot) :
    l.overflow (xs ++ ys) = l.overflow xs + (l.join xs).overflow ys := by
  simp only [Lane.overflow, Lane.join, List.length_append, List.length_take]
  omega

/-! ### The dots an edge takes (R154) -/

/-- Dot `k` of the lane where it is set, due at edge `n`. -/
def RingEntry.setDot (e : RingEntry) (data : List Byte) (n i : Nat) (t : PrintTime) (k : Nat) : Option Dot :=
  if dotBit data k = true then some { edge := n, own := ownTime t i (e.dotTarget k), clipped := false } else none

/-- The set dots among the `m` dots from dot `k`. -/
def RingEntry.setDots (e : RingEntry) (data : List Byte) (n i : Nat) (t : PrintTime) (k m : Nat) : List Dot :=
  (List.range m).filterMap fun x => e.setDot data n i t (k + x)

theorem RingEntry.setDots_succ (e : RingEntry) (data : List Byte) (n i : Nat) (t : PrintTime) (k m : Nat) :
    e.setDots data n i t k (m + 1) = (e.setDot data n i t k).toList ++ e.setDots data n i t (k + 1) m := by
  have shift : (fun x => e.setDot data n i t (k + x)) ∘ Nat.succ = fun x => e.setDot data n i t (k + 1 + x) := by
    funext x
    rw [Function.comp_apply, Nat.add_succ, Nat.add_right_comm, Nat.add_succ]
  rw [RingEntry.setDots, List.range_succ_eq_map, List.filterMap_cons, List.filterMap_map, shift, Nat.add_zero]
  cases e.setDot data n i t k <;> rfl

section Due

variable {e : RingEntry} {data : List Byte} {n i : Nat} {t : PrintTime}

theorem takeDue_of_not_due {l : Lane} (h : ¬ (l.k < e.dots ∧ l.target / 256 = n)) (fuel dropped : Nat) :
    takeDue e data n i t fuel l dropped = (l, dropped) := by
  cases fuel with
  | zero => rfl
  | succ fuel => rw [takeDue, if_neg h]

/-- A due dot joins the list or overflows it where it is set, and the lane goes on to the next dot. -/
theorem takeDue_of_due (pos : 1 ≤ e.dots) {k : Nat} (lt : k < e.dots) (due : e.dotTarget k / 256 = n) (l : Lane)
    (fuel dropped : Nat) :
    takeDue e data n i t (fuel + 1) (l.atDot e k) dropped =
      takeDue e data n i t fuel ((l.join (e.setDot data n i t k).toList).atDot e (k + 1))
        (dropped + l.overflow (e.setDot data n i t k).toList) := by
  have isDue : (l.atDot e k).k < e.dots ∧ (l.atDot e k).target / 256 = n := ⟨lt, due⟩
  rw [takeDue, if_pos isDue, ← Lane.nextDot_atDot pos]
  by_cases set : dotBit data (l.atDot e k).k = true
  · have dot : e.setDot data n i t k = some { edge := n, own := ownTime t i (e.dotTarget k), clipped := false } := if_pos set
    rw [if_pos set, dot]
    split
    next room =>
      have free : 1 ≤ 16 - l.waiting.length := Nat.le_sub_of_add_le' room
      simp [Lane.join, Lane.overflow, Lane.atDot, List.take_of_length_le, free]
    next full =>
      have none_free : 16 - l.waiting.length = 0 := Nat.sub_eq_zero_of_le (Nat.le_of_not_lt full)
      simp [Lane.join, Lane.overflow, none_free]
  · have dot : e.setDot data n i t k = none := if_neg set
    rw [if_neg set, dot]
    simp

/-- With fuel for the dots left, an edge takes the dots that are due in order, up to the first that is not. -/
theorem takeDue_atDot (pos : 1 ≤ e.dots) (fuel : Nat) {k : Nat} (l : Lane) (dropped : Nat) (le : k ≤ e.dots)
    (fueled : e.dots ≤ k + fuel) :
    ∃ m, k + m ≤ e.dots ∧ (∀ x, k ≤ x → x < k + m → e.dotTarget x / 256 = n)
      ∧ (k + m < e.dots → e.dotTarget (k + m) / 256 ≠ n)
      ∧ takeDue e data n i t fuel (l.atDot e k) dropped =
        ((l.join (e.setDots data n i t k m)).atDot e (k + m), dropped + l.overflow (e.setDots data n i t k m)) := by
  induction fuel generalizing k l dropped with
  | zero =>
    refine ⟨0, le, by omega, by omega, ?_⟩
    simp [takeDue, RingEntry.setDots]
  | succ fuel ih =>
    by_cases due : k < e.dots ∧ e.dotTarget k / 256 = n
    · obtain ⟨lt, here⟩ := due
      obtain ⟨m, top, taken, stop, result⟩ := ih (k := k + 1) (l.join (e.setDot data n i t k).toList)
        (dropped + l.overflow (e.setDot data n i t k).toList) lt (by omega)
      rw [Nat.add_right_comm] at top stop taken result
      refine ⟨m + 1, top, fun x from_k below => ?_, stop, ?_⟩
      · obtain rfl | after := Nat.eq_or_lt_of_le from_k
        · exact here
        · exact taken x after below
      · rw [takeDue_of_due pos lt here, result, RingEntry.setDots_succ, Lane.join_append, Lane.overflow_append,
          Nat.add_assoc dropped, Nat.add_assoc k]
    · refine ⟨0, le, by omega, fun lt here => due ⟨lt, here⟩, ?_⟩
      rw [takeDue_of_not_due due]
      simp [RingEntry.setDots]

end Due

/-! ### A lane at an edge (R154, R156) -/

theorem laneDue_of_disabled {lane : LaneNo} {s : State} {x : BandStore × RingEntry} (ring : s.printer.ring lane = some x)
    (off : (s.printer.lanes.get lane).enabled = false) (n i : Nat) (t : PrintTime) : laneDue n i t lane s = s := by
  simp [laneDue, ring, off]

theorem updPrint_docket (d : DocketNo) (f : PrintCounters → PrintCounters) (s : State) :
    (updPrint (some d) f s).docket d = (s.docket d).map fun r => { r with print := r.print.map f } := by
  simp [updPrint, updDocket_docket]

section Enabled

variable {lane : LaneNo} {s : State} {st : BandStore} {e : RingEntry} {n i dropped : Nat} {t : PrintTime} {l : Lane}
  (ring : s.printer.ring lane = some (st, e)) (on : (s.printer.lanes.get lane).enabled = true)
  (taken : takeDue e (st.dotsOf lane) n i t e.dots (s.printer.lanes.get lane) 0 = (l, dropped))

include ring on taken

theorem laneDue_of_enabled :
    laneDue n i t lane s =
      updPrint s.printer.docket (fun c => { c with dropped := dotsUp dropped c.dropped })
        (setPrinterRec { s.printer with lanes := s.printer.lanes.set lane l } s) := by
  simp [laneDue, ring, on, taken, setPrinterRec]

theorem laneDue_lanes : (laneDue n i t lane s).printer.lanes = s.printer.lanes.set lane l := by
  rw [laneDue_of_enabled ring on taken]
  simp [setPrinterRec]

theorem laneDue_docket {d : DocketNo} {r : Docket} {p : PrintCounters} (holds : s.printer.docket = some d)
    (docket : s.docket d = some r) (print : r.print = some p) :
    (laneDue n i t lane s).docket d = some { r with print := some { p with dropped := dotsUp dropped p.dropped } } := by
  simp [laneDue_of_enabled ring on taken, holds, updPrint_docket, docket, print]

end Enabled

/-- Settles O58: the accumulator stands at the exact target of every dot, an edge takes the dots due at it in their order, and the
dots of a ring record fall within the revolution. -/
theorem dotTargets : Obligations.DotTargets := by
  refine ⟨fun l e => ⟨rfl, rfl, rfl, Lane.nextDot_of_lt, Lane.nextDot_of_le, fun k pos => ?_⟩, fun bytes k lt => ?_,
    fun lane st e n i time s => ?_⟩
  · intro at_
    have stands : at_ = (l.begin e).atDot e k := repeat_nextDot_begin pos l k
    rw [stands]
    exact ⟨rfl, RingEntry.dotTarget_eq pos k, rfl, rfl⟩
  · have below := dotTarget_parseRing_lt lt
    exact ⟨below, Nat.le_of_lt_succ (Nat.div_lt_of_lt_mul below)⟩
  · intro l target ring
    refine ⟨fun off => laneDue_of_disabled ring off n i time, ?_⟩
    intro on pos le exact_target exact_err before after
    obtain ⟨m, top, taken, stop, result⟩ := takeDue_atDot (e := e) (data := st.dotsOf lane) (n := n) (i := i) (t := time)
      pos e.dots l 0 le (Nat.le_add_left ..)
    rw [← Lane.eq_atDot exact_target exact_err, Nat.zero_add] at result
    refine ⟨m, top, fun x lt => ?_, fun x ge lt => ?_, laneDue_lanes ring on result,
      fun d r p holds docket print => laneDue_docket ring on result holds docket print⟩
    · obtain earlier | here := Nat.lt_or_ge x l.k
      · exact Nat.lt_succ_of_lt (before x earlier)
      · exact Nat.lt_succ_of_le (taken x here lt).le
    · have next : n < target (l.k + m) / 256 :=
        lt_of_le_of_ne (after _ (Nat.le_add_right ..) (by omega)) (Ne.symm (stop (by omega)))
      exact Nat.le_trans next (Nat.div_le_div_right (e.dotTarget_mono ge))

end Sys2Proof.Machine
end

section
/-! PROOFS. What one command keeps, and the invariants of every step (O6, O8, O4 and O7). -/

namespace Sys2Proof.Machine

/-- What stays the same through a command: all that is not its own to change. -/
def commandFollow : Instr → Follow
  | .powerUp => ⟨false, false, false, false, false, true⟩
  | .linkReset => ⟨false, true, true, true, false, true⟩
  | .run _ | .irqEn _ | .boardLow _ | .boardHigh _ => ⟨false, true, true, true, true, true⟩
  | .configLoadEnd _ => ⟨true, false, true, true, true, true⟩
  | .identity .. => ⟨true, true, false, true, true, true⟩
  | .carriageStep => ⟨true, true, true, false, true, true⟩
  | .postedWriteIssue => ⟨true, true, true, true, false, true⟩
  | _ => ⟨true, true, true, true, true, true⟩

variable {fw : Follow} {s0 s : State}

theorem serveOnBay_steady (i : Fin 64) (n : Nat) (run : BayNo → State → Answer)
    (k : ∀ b u, Steady fw s u → Steady fw s (run b u).2) : Steady fw s (serve i (onBay n run) s) :=
  serve_steady i _ (fun _ => onBay_steady n run k) (Steady.refl s)

/-- A write to the window keeps all but the window. -/
theorem Steady.window {r : Regs} (h : Steady fw s0 s) (off : fw.window = false) : Steady fw s0 { s with regs := r } :=
  { h with
    boardLow := fun e => by simp [off] at e
    boardHigh := fun e => by simp [off] at e
    run := fun e => by simp [off] at e
    irqEn := fun e => by simp [off] at e }

/-- The carriage's own step keeps all but its position. -/
theorem setPrinterRec_steady_carriage (p : Printer) (off : fw.carriage = false) (h : Steady fw s0 s) :
    Steady fw s0 (setPrinterRec p s) :=
  { h with position := fun e => by simp [off] at e }

/-- A motion's limit is reported only while its timer runs. -/
theorem guarded_steady {p : Prop} [Decidable p] {f : State → State} (k : Steady fw s (f s)) :
    ∃ t, (if p then Host.Outcome.next (conclude (f s)) else .next s : Result) = .next t ∧ Steady fw s t := by
  split
  · exact ⟨_, rfl, conclude_steady k⟩
  · exact ⟨_, rfl, Steady.refl s⟩

theorem execRun_steady (on : Bool) : ∃ t, execRun on s = .next t ∧ Steady (commandFollow (.run on)) s t := by
  refine ⟨_, rfl, ?_⟩
  split
  · exact triggerRound_steady ((Steady.refl s).window rfl)
  · exact (Steady.refl s).window rfl

theorem execIrqEn_steady (on : Bool) : ∃ t, execIrqEn on s = .next t ∧ Steady (commandFollow (.irqEn on)) s t := by
  refine ⟨_, rfl, ?_⟩
  split
  · exact emit_steady _ ((Steady.refl s).window rfl)
  · exact (Steady.refl s).window rfl

theorem execBoardLow_steady (v : BitVec 32) : ∃ t, execBoardLow v s = .next t ∧ Steady (commandFollow (.boardLow v)) s t := by
  refine ⟨_, rfl, ?_⟩
  split
  · exact (Steady.refl s).window rfl
  · exact Steady.refl s

theorem execBoardHigh_steady (v : BitVec 32) : ∃ t, execBoardHigh v s = .next t ∧ Steady (commandFollow (.boardHigh v)) s t := by
  refine ⟨_, rfl, ?_⟩
  split
  · exact (Steady.refl s).window rfl
  · exact Steady.refl s

/-- A sample or a change of a sensor. -/
theorem execSensorChange_steady (x : Sensor) (on : Bool) : ∃ t, execSensorChange x on s = .next t ∧ Steady fw s t := by
  unfold execSensorChange; split
  · exact ⟨_, rfl, Steady.refl s⟩
  · exact ⟨_, rfl, conclude_steady (changeSensor_steady x on (Steady.refl s))⟩

theorem execSensorSample_steady (x : Sensor) (on : Bool) : ∃ t, execSensorSample x on s = .next t ∧ Steady fw s t := by
  unfold execSensorSample; dsimp only; (repeat' split)
  · exact ⟨_, rfl, State.setFilter_steady _ _ (Steady.refl s)⟩
  · exact ⟨_, rfl, State.setFilter_steady _ _ (Steady.refl s)⟩
  · exact ⟨_, rfl, conclude_steady (changeSensor_steady x on (Steady.refl s))⟩

/-- Every command but a power-up answers a state that has come from the one before by operations of the part. -/
theorem exec_steady (c : Instr) (s : State) (p : c ≠ .powerUp) : ∃ t, exec c s = .next t ∧ Steady (commandFollow c) s t := by
  have r {fw} : Steady fw s s := Steady.refl s
  cases c with
  | powerUp => exact absurd rfl p
  | configLoadEnd mem => exact ⟨_, rfl, conclude_steady (configEnds_steady mem rfl r)⟩
  | towerReset => exact ⟨_, rfl, conclude_steady (towerReset_steady r)⟩
  | linkReset => exact ⟨_, rfl, conclude_steady (linkReset_steady rfl rfl r)⟩
  | run on => exact execRun_steady on
  | irqEn on => exact execIrqEn_steady on
  | boardLow v => exact execBoardLow_steady v
  | boardHigh v => exact execBoardHigh_steady v
  | scan v => exact ⟨_, rfl, conclude_steady (requestScan_steady r)⟩
  | attentionClear v => exact ⟨_, rfl, Steady.same r rfl rfl rfl rfl rfl rfl rfl rfl rfl rfl rfl rfl rfl rfl rfl rfl⟩
  | registerWriteOther o v => exact ⟨_, rfl, r⟩
  | scanTimerExpiry => exact ⟨_, rfl, conclude_steady (scanTimerEnds_steady r)⟩
  | snapshotComplete => exact ⟨_, rfl, conclude_steady (snapshotEnds_steady r)⟩
  | copyCard i card => exact ⟨_, rfl, conclude_steady (copyCommand_steady i card r)⟩
  | setTimers i a b => exact ⟨_, rfl, conclude_steady (serve_steady i _ (fun _ => svcSetTimers_steady a b) r)⟩
  | setLimits i a b => exact ⟨_, rfl, conclude_steady (serve_steady i _ (fun _ => svcSetLimits_steady a b) r)⟩
  | designateSpare i b => exact ⟨_, rfl, conclude_steady (serveOnBay_steady i b _ fun b _ => svcDesignate_steady b)⟩
  | designateSpareNone i => exact ⟨_, rfl, conclude_steady (serve_steady i _ (fun _ => svcDesignateNone_steady) r)⟩
  | reinstateBay i b => exact ⟨_, rfl, conclude_steady (serveOnBay_steady i b _ fun b _ => svcReinstate_steady b)⟩
  | resetBay i b => exact ⟨_, rfl, conclude_steady (serveOnBay_steady i b _ fun b _ => svcResetBay_steady b)⟩
  | resumeTransport i => exact ⟨_, rfl, conclude_steady (serve_steady i _ (fun _ => svcResume_steady) r)⟩
  | clearFaults i => exact ⟨_, rfl, conclude_steady (serve_steady i _ (fun _ => svcClearFaults_steady) r)⟩
  | calibrate i => exact ⟨_, rfl, conclude_steady (serve_steady i _ (fun _ => svcCalibrate_steady) r)⟩
  | dispatchRound => exact ⟨_, rfl, conclude_steady (dispatchRound_steady r)⟩
  | sensorChange x on => exact execSensorChange_steady x on
  | sensorSample x on => exact execSensorSample_steady x on
  | liftEncoderEdge up => exact ⟨_, rfl, conclude_steady (setLift_steady _ r)⟩
  | dutyUpdate => exact ⟨_, rfl, setLift_steady _ r⟩
  | settleExpiry => exact ⟨_, rfl, conclude_steady (settleLift_steady r)⟩
  | stallTimeout => exact guarded_steady (f := transportFault .jam) (transportFault_steady _ r)
  | moveTimeout => exact guarded_steady (f := transportFault .jam) (transportFault_steady _ r)
  | homeTravelLimit => exact guarded_steady (f := transportFault .home) (transportFault_steady _ r)
  | homeTimeout => exact guarded_steady (f := transportFault .home) (transportFault_steady _ r)
  | swingTimeout => exact guarded_steady (f := transportFault .swing) (transportFault_steady _ r)
  | gripComplete => exact guarded_steady (f := endGrip) (endGrip_steady r)
  | releaseComplete => exact guarded_steady (f := endRelease) (endRelease_steady r)
  | printerPlaceTimeout => exact guarded_steady (f := dropFault (some .arm)) (dropFault_steady _ r)
  | badFrame b => exact ⟨_, rfl, linkError_steady b r⟩
  | identity b cls x y l => exact ⟨_, rfl, conclude_steady (onIdentity_steady b _ rfl r)⟩
  | trayDoneOpen b => exact ⟨_, rfl, conclude_steady (onTrayOpen_steady b r)⟩
  | trayDoneClosed b => exact ⟨_, rfl, conclude_steady (onTrayClosed_steady b r)⟩
  | media b k cls n => exact ⟨_, rfl, conclude_steady (onMedia_steady b k cls n r)⟩
  | credit b n => exact ⟨_, rfl, conclude_steady (onCredit_steady b n r)⟩
  | written b g => exact ⟨_, rfl, conclude_steady (onWritten_steady b g r)⟩
  | starvedLinked b => exact ⟨_, rfl, conclude_steady (onStarvedLinked_steady b r)⟩
  | starvedFailed b => exact ⟨_, rfl, conclude_steady (onStarvedFailed_steady b r)⟩
  | closed b => exact ⟨_, rfl, conclude_steady (onClosed_steady b r)⟩
  | readData b g data => exact ⟨_, rfl, conclude_steady (onReadData_steady b g data r)⟩
  | readFail b g => exact ⟨_, rfl, conclude_steady (onReadFail_steady b g r)⟩
  | fault b code => exact ⟨_, rfl, conclude_steady (onFault_steady b r)⟩
  | halted b => exact ⟨_, rfl, conclude_steady (onHalted_steady b r)⟩
  | resetDone b => exact ⟨_, rfl, conclude_steady (onResetDone_steady b r)⟩
  | requestTimeout b q => exact ⟨_, rfl, conclude_steady (onTimeout_steady b q r)⟩
  | fetchComplete k data => exact ⟨_, rfl, conclude_steady (fetchEnds_steady k data r)⟩
  | fetchError k => exact ⟨_, rfl, conclude_steady (fetchFails_steady _ k r)⟩
  | fetchTimeout k => exact ⟨_, rfl, conclude_steady (fetchFails_steady _ k r)⟩
  | fetchLateData k => exact ⟨_, rfl, r⟩
  | requestAged line => exact ⟨_, rfl, conclude_steady (ageLine_steady line r)⟩
  | postedWriteIssue => exact ⟨_, rfl, conclude_steady (issueOldest_steady rfl r)⟩
  | postedWriteFailed n => exact ⟨_, rfl, conclude_steady (writeFails_steady n r)⟩
  | drainTimerExpiry => exact ⟨_, rfl, conclude_steady (drain_steady r)⟩
  | clampTimerExpiry => exact guarded_steady (f := enterSpinup) (enterSpinup_steady r)
  | spindleEdge time => exact ⟨_, rfl, conclude_steady (onEdge_steady time r)⟩
  | spindleIndex time => exact ⟨_, rfl, conclude_steady (onIndex_steady time r)⟩
  | missingEdge => exact guarded_steady (f := breach false) (breach_steady _ r)
  | spinupTimeout =>
    exact guarded_steady (f := abortPrint .printSpindle (some .spindle)) (abortPrint_steady _ _ r)
  | settleTimeout =>
    exact guarded_steady (f := abortPrint .printSpindle (some .spindle)) (abortPrint_steady _ _ r)
  | carriageStep => exact ⟨_, rfl, conclude_steady (setPrinterRec_steady_carriage _ rfl r)⟩
  | dotFire lane => exact ⟨_, rfl, fireDot_steady lane r⟩
  | laneRecoveryEnd lane => exact ⟨_, rfl, endRecovery_steady lane r⟩
  | spindleStopped =>
    exact guarded_steady (f := fun s => setPrinter .readyOut
        { s with printer := { s.printer with spindownTimer := none, quietTimer := none } })
      (setPrinter_steady _ (Steady.same r rfl rfl rfl rfl rfl rfl rfl rfl rfl rfl rfl rfl rfl rfl rfl rfl))
  | spindownTimeout =>
    exact guarded_steady (f := fun s => reportFault .spindown none s.printer.docket
        (setPrinter .fault { s with printer := { s.printer with spindownTimer := none } }))
      (reportFault_steady _ _ _
        (setPrinter_steady _ (Steady.same r rfl rfl rfl rfl rfl rfl rfl rfl rfl rfl rfl rfl rfl rfl rfl rfl)))

/-- The same, for the answer of a command that is known. -/
theorem Steady.of_exec {c : Instr} {t : State} (e : exec c s = .next t) (p : c ≠ .powerUp) : Steady (commandFollow c) s t := by
  obtain ⟨t', e', h⟩ := exec_steady c s p
  cases e.symm.trans e'
  exact h

end Sys2Proof.Machine
end

section
/-! PROOFS. The invariants of every step (O6, O7), what only its own command changes (O8), and that every command completes (O4). -/

namespace Sys2Proof.Machine

variable {s t : State}

/-! ### The steps of a run -/

/-- A step is one command, or a millisecond. -/
theorem step_cases (e : step s = .next t) :
    t = s.tick ∨ ∃ (c : Instr) (rest : List Instr), s.pending = c :: rest ∧ exec c { s with pending := rest } = .next t := by
  unfold step at e
  split at e
  · exact .inl (Host.Outcome.next.inj e).symm
  · exact .inr ⟨_, _, by assumption, e⟩

/-- What every step keeps: what the passing of a millisecond keeps, what holds after power-up, and what every other command keeps. -/
theorem step_keeps (P : State → Prop) (wait : ∀ u l, P u → P { u with pending := l }) (tick : ∀ u, P u → P u.tick)
    (power : ∀ u, P (powerUp u)) (command : ∀ c u v, c ≠ .powerUp → exec c u = .next v → P u → P v)
    (h : P s) (e : step s = .next t) : P t := by
  rcases step_cases e with rfl | ⟨c, rest, -, e⟩
  · exact tick s h
  · by_cases p : c = .powerUp
    · subst p
      cases Host.Outcome.next.inj e
      exact power _
    · exact command c _ t p e (wait s rest h)

/-! ### The board address -/

/-- The board address is a multiple of 4 as its low half is. -/
theorem boardAligned_iff (s : State) : s.boardAligned ↔ s.regs.boardLow.toNat % 4 = 0 := by
  unfold State.boardAligned State.boardAddr
  omega

theorem boardAligned_of_low (e : t.regs.boardLow = s.regs.boardLow) (h : s.boardAligned) : t.boardAligned := by
  rw [boardAligned_iff] at h ⊢
  rwa [e]

/-- A word with its two lowest bits cleared. -/
theorem toNat_and_low_mask (v : BitVec 32) : (v &&& 0xFFFFFFFC#32).toNat = v.toNat - v.toNat % 4 := by
  have shifted : v &&& 0xFFFFFFFC#32 = (v >>> 2) <<< 2 := by
    apply BitVec.eq_of_getLsbD_eq
    intro i hi
    interval_cases i <;> simp
  rw [shifted]
  simp only [BitVec.toNat_shiftLeft, BitVec.toNat_ushiftRight, Nat.shiftLeft_eq, Nat.shiftRight_eq_div_pow]
  have := v.isLt
  omega

theorem Regs.reset_aligned : Regs.reset.boardLow.toNat % 4 = 0 := rfl

/-! ### The registers, each by its own command alone -/

theorem execRun_keeps (on : Bool) (e : execRun on s = .next t) :
    t.regs.boardLow = s.regs.boardLow ∧ t.regs.boardHigh = s.regs.boardHigh ∧ t.regs.irqEn = s.regs.irqEn := by
  cases Host.Outcome.next.inj e
  split <;> simp

theorem execIrqEn_keeps (on : Bool) (e : execIrqEn on s = .next t) :
    t.regs.boardLow = s.regs.boardLow ∧ t.regs.boardHigh = s.regs.boardHigh ∧ t.regs.run = s.regs.run := by
  cases Host.Outcome.next.inj e
  split <;> simp

theorem execBoardLow_keeps (v : BitVec 32) (e : execBoardLow v s = .next t) :
    t.regs.boardHigh = s.regs.boardHigh ∧ t.regs.run = s.regs.run ∧ t.regs.irqEn = s.regs.irqEn := by
  cases Host.Outcome.next.inj e
  split <;> simp

theorem execBoardHigh_keeps (v : BitVec 32) (e : execBoardHigh v s = .next t) :
    t.regs.boardLow = s.regs.boardLow ∧ t.regs.run = s.regs.run ∧ t.regs.irqEn = s.regs.irqEn := by
  cases Host.Outcome.next.inj e
  split <;> simp

theorem execBoardLow_aligned (v : BitVec 32) (e : execBoardLow v s = .next t) (h : s.boardAligned) : t.boardAligned := by
  cases Host.Outcome.next.inj e
  split
  · rw [boardAligned_iff]
    show (v &&& 0xFFFFFFFC#32).toNat % 4 = 0
    rw [toNat_and_low_mask]
    omega
  · exact h

theorem linkReset_regs (s : State) : (linkReset s).regs = Regs.reset := by
  simp [linkReset, clearWindow]

theorem conclude_boardLow (s : State) : (conclude s).regs.boardLow = s.regs.boardLow :=
  (conclude_steady (fw := ⟨true, true, true, true, true, true⟩) (Steady.refl s)).boardLow rfl

/-- Every command but a power-up keeps the board address a multiple of 4. -/
theorem exec_boardAligned {c : Instr} (e : exec c s = .next t) (p : c ≠ .powerUp) (h : s.boardAligned) : t.boardAligned := by
  have k := Steady.of_exec e p
  cases c with
  | powerUp => exact absurd rfl p
  | boardLow v => exact execBoardLow_aligned v e h
  | boardHigh v => exact boardAligned_of_low (execBoardHigh_keeps v e).1 h
  | run on => exact boardAligned_of_low (execRun_keeps on e).1 h
  | irqEn on => exact boardAligned_of_low (execIrqEn_keeps on e).1 h
  | linkReset =>
    cases Host.Outcome.next.inj e
    rw [boardAligned_iff, conclude_boardLow, linkReset_regs]
    exact Regs.reset_aligned
  | _ => exact boardAligned_of_low (k.boardLow rfl) h

/-! ### The bounds (O6, O7) -/

theorem reset_bay : ∀ b : BayNo, State.reset.bay b = Bay.reset := by decide

theorem withinBounds_reset : State.reset.withinBounds := by
  exact ⟨by rfl, Nat.zero_le 32, ⟨Nat.zero_le _, Nat.zero_le _, Nat.zero_le _, Nat.zero_le _, Nat.zero_le _⟩, fun b => by rw [reset_bay]; decide, fun b => by rw [reset_bay]; decide⟩

theorem withinBounds_tick (h : s.withinBounds) : s.tick.withinBounds := by
  obtain ⟨aligned, posted, faults, health, links⟩ := h
  exact ⟨boardAligned_of_low rfl aligned, posted, faults, fun b => by rw [State.bay_tick]; exact health b,
    fun b => by rw [State.bay_tick]; exact links b⟩

theorem withinBounds_exec {c : Instr} (p : c ≠ .powerUp) (e : exec c s = .next t) (h : s.withinBounds) : t.withinBounds := by
  obtain ⟨aligned, posted, faults, health, links⟩ := h
  have k := Steady.of_exec e p
  exact ⟨exec_boardAligned e p aligned, k.posted posted, k.faults faults,
    fun b => ⟨(k.bays b).soft (health b).1, (k.bays b).hard (health b).2⟩, fun b => (k.bays b).linkErrors (links b)⟩

/-- Settles O6: what every operation keeps, for each command; the board address by its two low bits. -/
theorem stepKeepsBounds : Obligations.StepKeepsBounds := fun _ _ h e =>
  step_keeps State.withinBounds (fun _ _ => id) (fun _ => withinBounds_tick) (fun _ => withinBounds_reset)
    (fun _ _ _ p => withinBounds_exec p) h e

/-- Settles O7. -/
theorem resetWithinBounds : Obligations.ResetWithinBounds := withinBounds_reset

/-! ### What only its own command changes (O8) -/

theorem conclude_sensors (e : t.sensors = s.sensors) : (conclude t).sensors = s.sensors := (conclude_frame t).2.1.trans e

theorem guarded_sensors {p : Prop} [Decidable p] {f : State → State} (e : (f s).sensors = s.sensors) :
    ∃ t, (if p then Host.Outcome.next (conclude (f s)) else .next s : Result) = .next t ∧ t.sensors = s.sensors := by
  split
  · exact ⟨_, rfl, conclude_sensors e⟩
  · exact ⟨_, rfl, rfl⟩

/-- A command that is not a sensor's leaves the sensors, whatever follows in its event. -/
theorem exec_sensors (c : Instr) (s : State) (p : c ≠ .powerUp) (change : ∀ x v, c ≠ .sensorChange x v)
    (sample : ∀ x v, c ≠ .sensorSample x v) : ∃ t, exec c s = .next t ∧ t.sensors = s.sensors := by
  cases c
  case powerUp => exact absurd rfl p
  case sensorChange x v => exact absurd rfl (change x v)
  case sensorSample x v => exact absurd rfl (sample x v)
  case run on | irqEn on | boardLow v | boardHigh v => exact ⟨_, rfl, by split <;> simp⟩
  case attentionClear | registerWriteOther | fetchLateData => exact ⟨_, rfl, rfl⟩
  case dutyUpdate | badFrame | dotFire | laneRecoveryEnd => exact ⟨_, rfl, by simp⟩
  case stallTimeout | moveTimeout => exact guarded_sensors (f := transportFault .jam) (by simp)
  case homeTravelLimit | homeTimeout => exact guarded_sensors (f := transportFault .home) (by simp)
  case swingTimeout => exact guarded_sensors (f := transportFault .swing) (by simp)
  case gripComplete => exact guarded_sensors (f := endGrip) (by simp)
  case releaseComplete => exact guarded_sensors (f := endRelease) (by simp)
  case printerPlaceTimeout => exact guarded_sensors (f := dropFault (some .arm)) (by simp)
  case clampTimerExpiry => exact guarded_sensors (f := enterSpinup) (by simp)
  case missingEdge => exact guarded_sensors (f := breach false) (by simp)
  case spinupTimeout | settleTimeout => exact guarded_sensors (f := abortPrint .printSpindle (some .spindle)) (by simp)
  case spindleStopped =>
    exact guarded_sensors (f := fun s => setPrinter .readyOut
      { s with printer := { s.printer with spindownTimer := none, quietTimer := none } }) (by simp)
  case spindownTimeout =>
    exact guarded_sensors (f := fun s => reportFault .spindown none s.printer.docket
      (setPrinter .fault { s with printer := { s.printer with spindownTimer := none } })) (by simp)
  case designateSpare | reinstateBay | resetBay => exact ⟨_, rfl, conclude_sensors (by unfold serve onBay; split <;> simp)⟩
  all_goals exact ⟨_, rfl, conclude_sensors (by simp [serve])⟩

end Sys2Proof.Machine
end

section
/-! PROOFS. What only its own command changes (O8), and that every command completes (O4). -/

namespace Sys2Proof.Machine

variable {s t : State}

/-- All that is followed. -/
def Follow.all : Follow := ⟨true, true, true, true, true, true⟩

/-- IDENTITY replaces the drive record of its own bay alone. -/
theorem onIdentity_drive_other (b x : BayNo) (drive : Drive) (s : State) (h : x ≠ b) :
    ((conclude (onIdentity b drive s)).bay x).drive = (s.bay x).drive := by
  have k {u v : State} (k : Steady Follow.all u v) : ((conclude v).bay x).drive = (u.bay x).drive :=
    ((conclude_steady k).bays x).drive rfl
  unfold onIdentity
  dsimp only
  split
  · have written : (((dropReq b .identify s).setBay b { (dropReq b .identify s).bay b with drive := some drive }).bay x).drive
        = (s.bay x).drive := by
      rw [State.bay_setBay, if_neg h, dropReq_bay, if_neg h]
    split
    · exact (k (leaveDiscovering_steady _ b (Steady.refl _))).trans written
    · exact (k (Steady.refl _)).trans written
  · exact k (discardMsg_steady b (Steady.refl s))

theorem exec_drive {c : Instr} (e : exec c s = .next t) (p : c ≠ .powerUp) (b : BayNo)
    (other : ∀ cls x y l, c ≠ .identity b cls x y l) : (t.bay b).drive = (s.bay b).drive := by
  have k := (Steady.of_exec e p).bays b
  cases c with
  | powerUp => exact absurd rfl p
  | identity a cls x y l =>
    cases Host.Outcome.next.inj e
    exact onIdentity_drive_other a b _ s (fun h => other cls x y l (h ▸ rfl))
  | _ => exact k.drive rfl

/-- The plant and the carriage change by the configuration load and the carriage's step alone. -/
theorem commandFollow_plant {c : Instr} (p : c ≠ .powerUp) (load : ∀ m, c ≠ .configLoadEnd m) : (commandFollow c).plant = true := by
  cases c with
  | powerUp => exact absurd rfl p
  | configLoadEnd m => exact absurd rfl (load m)
  | _ => rfl

theorem commandFollow_carriage {c : Instr} (p : c ≠ .powerUp) (step : c ≠ .carriageStep) : (commandFollow c).carriage = true := by
  cases c with
  | powerUp => exact absurd rfl p
  | carriageStep => exact absurd rfl step
  | _ => rfl

theorem commandFollow_generation {c : Instr} (p : c ≠ .powerUp) (reset : c ≠ .linkReset) (issue : c ≠ .postedWriteIssue) :
    (commandFollow c).generation = true := by
  cases c with
  | powerUp => exact absurd rfl p
  | linkReset => exact absurd rfl reset
  | postedWriteIssue => exact absurd rfl issue
  | _ => rfl

/-- What the register window keeps through a command. -/
theorem exec_window {c : Instr} (e : exec c s = .next t) (p : c ≠ .powerUp) (reset : c ≠ .linkReset) :
    ((∀ v, c ≠ .boardLow v) → t.regs.boardLow = s.regs.boardLow)
    ∧ ((∀ v, c ≠ .boardHigh v) → t.regs.boardHigh = s.regs.boardHigh)
    ∧ ((∀ v, c ≠ .run v) → t.regs.run = s.regs.run)
    ∧ ((∀ v, c ≠ .irqEn v) → t.regs.irqEn = s.regs.irqEn) := by
  have k := Steady.of_exec e p
  cases c with
  | powerUp => exact absurd rfl p
  | linkReset => exact absurd rfl reset
  | boardLow v =>
    obtain ⟨high, run, irq⟩ := execBoardLow_keeps v e
    exact ⟨fun h => absurd rfl (h v), fun _ => high, fun _ => run, fun _ => irq⟩
  | boardHigh v =>
    obtain ⟨low, run, irq⟩ := execBoardHigh_keeps v e
    exact ⟨fun _ => low, fun h => absurd rfl (h v), fun _ => run, fun _ => irq⟩
  | run v =>
    obtain ⟨low, high, irq⟩ := execRun_keeps v e
    exact ⟨fun _ => low, fun _ => high, fun h => absurd rfl (h v), fun _ => irq⟩
  | irqEn v =>
    obtain ⟨low, high, run⟩ := execIrqEn_keeps v e
    exact ⟨fun _ => low, fun _ => high, fun _ => run, fun h => absurd rfl (h v)⟩
  | _ => exact ⟨fun _ => k.boardLow rfl, fun _ => k.boardHigh rfl, fun _ => k.run rfl, fun _ => k.irqEn rfl⟩

/-- Settles O8: what every operation keeps, for each command, with the registers, the sensors and the drive record command by
command. -/
theorem onlyTheirCommandsChange : Obligations.OnlyTheirCommandsChange := by
  intro c s t e p reset
  have k := Steady.of_exec e p
  obtain ⟨low, high, run, irq⟩ := exec_window e p reset
  refine ⟨low, high, run, irq, fun change sample => ?_, fun load => ?_, exec_drive e p, fun step => ?_, fun issue => ?_⟩
  · obtain ⟨t', e', same⟩ := exec_sensors c s p change sample
    cases e.symm.trans e'
    exact same
  · have plant := commandFollow_plant p load
    exact ⟨k.calibration plant, k.clsA plant, k.clsB plant, k.good plant, k.reject plant, fun b => (k.bays b).installed plant⟩
  · exact k.position (commandFollow_carriage p step)
  · exact k.generation (commandFollow_generation p reset issue)

/-- Settles O4: a power-up by itself, every other command by what its operations keep. -/
theorem everyCommandCompletes : Obligations.EveryCommandCompletes := by
  constructor
  · intro c s
    by_cases p : c = .powerUp
    · subst p; exact ⟨powerUp s, rfl, rfl⟩
    · obtain ⟨t, e, k⟩ := exec_steady c s p
      exact ⟨t, e, k.pending⟩
  · intro c s t e
    by_cases p : c = .powerUp
    · subst p
      cases Host.Outcome.next.inj e
      exact ⟨⟨[], (List.append_nil _).symm⟩, fun h => absurd rfl h⟩
    · have k := Steady.of_exec e p
      exact ⟨k.out, fun _ => k.time⟩

/-! ### Invariants of every step that other statements name -/

theorem numbersDistinct_reset : State.reset.numbersDistinct := by
  intro x y n hx
  rw [reset_bay] at hx
  cases hx

theorem requestsBounded_reset : State.reset.requestsBounded := by
  intro b
  rw [reset_bay]
  exact ⟨fun _ _ _ => Nat.zero_le 1, Nat.zero_le 8⟩

/-- A logical number is held once at most, after every step. -/
theorem step_numbersDistinct (h : s.numbersDistinct) (e : step s = .next t) : t.numbersDistinct := by
  refine step_keeps State.numbersDistinct (fun _ _ => id) (fun u h x y n => ?_) (fun u x y n hx => ?_) (fun c u v p e h => ?_) h e
  · rw [State.bay_tick, State.bay_tick]; exact h x y n
  · exact numbersDistinct_reset x y n hx
  · refine (Steady.of_exec e p).numbers ?_ h
    cases c with
    | _ => rfl

theorem Bay.requestsBounded_tick {r : Bay} (h : r.requestsBounded) : r.tick.requestsBounded := by
  obtain ⟨once, groups⟩ := h
  refine ⟨fun q g k => ?_, ?_⟩
  · simpa [Bay.tick, List.filter_map, Function.comp_def] using once q g k
  · simpa [Bay.tick, Bay.groupsOut, List.filter_map, Function.comp_def] using groups

/-- The sizes of the outstanding request lists, after every step. -/
theorem step_requestsBounded (h : s.requestsBounded) (e : step s = .next t) : t.requestsBounded := by
  refine step_keeps State.requestsBounded (fun _ _ => id) (fun u h b => ?_) (fun u b => ?_)
    (fun c u v p e h b => ((Steady.of_exec e p).bays b).reqs (h b)) h e
  · rw [State.bay_tick]; exact Bay.requestsBounded_tick (h b)
  · exact requestsBounded_reset b

end Sys2Proof.Machine
end

section
/-! PROOFS. The queue, power and time (O1, O2, O3, O5), the register window (O9, O10) and the requests for a scan (O11). -/

namespace Sys2Proof.Machine

variable {s t : State}

/-- Settles O1. -/
theorem stepTakesFrontCommand : Obligations.StepTakesFrontCommand := fun _ _ _ => rfl

/-- An outstanding fetch after a millisecond. -/
theorem State.fetch_tick (s : State) (k : FetchNo) : s.tick.fetch k = (s.fetch k).map Fetch.tick := by
  show (s.engine.slots.map (·.map Fetch.tick))[k.val] = (s.engine.slots[k.val]).map Fetch.tick
  exact Vector.getElem_map ..

/-- Settles O2: the state after a millisecond, with the fetches and the bays read one by one. -/
theorem emptyQueueIsOneMillisecond : Obligations.EmptyQueueIsOneMillisecond := by
  intro s empty
  refine ⟨s.tick, ?_, rfl, State.fetch_tick s, State.bay_tick s⟩
  unfold step
  rw [empty]

/-- Settles O3: each block at its power-up state. -/
theorem powerUpState : Obligations.PowerUpState := by
  intro s
  have job : ∀ j : SlotNo, State.reset.job j = none := by decide
  have docket : ∀ d : DocketNo, State.reset.docket d = none := by decide
  have sensor : ∀ x : Sensor, State.reset.sensor x = false := by intro x; cases x <;> rfl
  have fetch : ∀ k : FetchNo, State.reset.fetch k = none := by decide
  have free : State.reset.freePages = 64 := by decide
  have count : ∀ c : FaultClass, State.reset.faults.count c = 0 := by intro c; cases c <;> rfl
  have bay (b : BayNo) : (powerUp s).bay b = Bay.reset := reset_bay b
  refine ⟨powerUp s, rfl, rfl, rfl, rfl, rfl, rfl, rfl, rfl, rfl, rfl, rfl, rfl, rfl, rfl, rfl, rfl, job, docket, rfl, count, rfl, rfl,
    rfl, rfl, rfl, rfl, sensor, rfl, rfl, fun b => ?_, rfl, rfl, rfl, rfl, rfl, fetch, free, rfl⟩
  rw [bay]
  exact ⟨rfl, rfl, rfl, rfl, rfl, rfl, rfl, rfl, rfl⟩

/-! ### The end of an event (O5) -/

theorem settle_of_quiet (quiet : settleStep s = none) (n : Nat) : settle n s = s := by
  cases n with
  | zero => rfl
  | succ n => simp [settle, quiet]

theorem settle_of_act (act : settleStep s = some t) (n : Nat) : settle (n + 1) s = settle n t := by
  simp [settle, act]

theorem conclude_of_quiet (quiet : settleStep s = none) : conclude s = { s with event := s.event + 1 } := by
  unfold conclude
  rw [settle_of_quiet quiet]

/-- Settles O5: the first rule of the list that can act. -/
theorem quietEventEnds : Obligations.QuietEventEnds := by
  intro s
  refine ⟨fun quiet => ⟨conclude_of_quiet quiet, List.findSome?_eq_none_iff.mp quiet⟩, fun t act => ⟨settle_of_act act, ?_⟩⟩
  obtain ⟨before, r, after, split, acts, earlier⟩ := List.findSome?_eq_some_iff.mp act
  exact ⟨before, r, after, split, acts, earlier⟩

/-! ### The register window (O9, O10) -/

/-- No slot counts as occupied exactly when each is FREE. -/
theorem State.occupied_eq_zero_iff (s : State) : s.occupied = 0 ↔ ∀ j : SlotNo, s.job j = none := by
  have all (j : SlotNo) : j ∈ Config.allSlots := by revert j; decide
  simp [State.occupied, List.filter_eq_nil_iff, all]

theorem execRun_starts (starts : s.regs.run = false ∧ (s.tower.state = .running ∨ s.tower.state = .halted)) :
    execRun true s = .next { s with regs := { s.regs with run := true }, roundDue := true } := by
  simp [execRun, triggerRound, starts.1, starts.2]

theorem execRun_else (on : Bool)
    (no : ¬ (on = true ∧ s.regs.run = false ∧ (s.tower.state = .running ∨ s.tower.state = .halted))) :
    execRun on s = .next { s with regs := { s.regs with run := on } } := by
  unfold execRun
  dsimp only
  split
  · rename_i rises
    simp only [Bool.and_eq_true, Bool.not_eq_true'] at rises
    have idle : ¬ (s.tower.state = .running ∨ s.tower.state = .halted) := fun h => no ⟨rises.1, rises.2, h⟩
    simp [triggerRound, idle]
  · rfl

/-- Settles O9. -/
theorem registerWrites : Obligations.RegisterWrites := by
  refine ⟨fun on s => ⟨fun ⟨set, starts⟩ => ?_, execRun_else on⟩, fun v s => ⟨fun free => ?_, fun taken => ?_⟩, fun v s => ?_,
    fun _ _ _ _ => ⟨rfl, rfl⟩⟩
  · subst set; exact execRun_starts starts
  · have zero := s.occupied_eq_zero_iff.mpr free
    refine ⟨⟨v &&& 0xFFFFFFFC#32, ?_, toNat_and_low_mask v⟩, ?_⟩
    · show execBoardLow v s = _
      simp [execBoardLow, zero]
    · show execBoardHigh v s = _
      simp [execBoardHigh, zero]
  · have some_slot : s.occupied ≠ 0 := fun zero => by
      obtain ⟨j, job⟩ := taken
      exact job (s.occupied_eq_zero_iff.mp zero j)
    exact ⟨congrArg Host.Outcome.next (if_neg some_slot), congrArg Host.Outcome.next (if_neg some_slot)⟩
  · refine ⟨_, rfl, ?_, ?_, ?_, rfl⟩
    · cases v.getLsbD 0 <;> simp
    · cases v.getLsbD 1 <;> simp
    · cases v.getLsbD 2 <;> simp

theorem Regs.anyAttention_iff (r : Regs) : r.anyAttention = true ↔ r.cardDone = true ∨ r.statusNew = true ∨ r.halted = true := by
  simp [Regs.anyAttention, or_assoc]

theorem Regs.attention_setAttention (r : Regs) (a x : Attention) :
    (r.setAttention true a).attention x = if x = a then true else r.attention x := by
  cases a <;> cases x <;> rfl

/-- What a setting event does to a cause, and the MSI it sends. -/
theorem raiseAttention_of_clear {a : Attention} (clear : s.regs.attention a = false) :
    raiseAttention a s =
      { s with regs := s.regs.setAttention true a, out := s.out ++ (if s.regs.irqEn = true then [.msi] else []) } := by
  unfold raiseAttention
  rw [clear]
  cases s.regs.irqEn <;> simp [emit]

/-- Settles O10. -/
theorem interruptsSent : Obligations.InterruptsSent := by
  refine ⟨fun on s => ⟨fun ⟨set, clear, cause⟩ => ?_, fun no => ?_⟩, fun a s => ⟨fun set => ?_, fun clear => ?_⟩⟩
  · subst set
    show execIrqEn true s = _
    have any := s.regs.anyAttention_iff.mpr cause
    simp only [Regs.anyAttention] at any
    simp [execIrqEn, clear, Regs.anyAttention, any, emit]
  · show execIrqEn on s = _
    rw [← Regs.anyAttention_iff] at no
    unfold execIrqEn
    dsimp only
    rw [if_neg]
    simpa [Regs.anyAttention, and_assoc] using no
  · simp [raiseAttention, set]
  · rw [raiseAttention_of_clear clear]
    exact ⟨by simp [Regs.attention_setAttention], fun x other => by simp [Regs.attention_setAttention, other], rfl⟩

/-! ### Scans requested (O11) -/

theorem requestScan_of_zero (zero : s.boardAddr = 0) : requestScan s = s := by simp [requestScan, zero]

theorem requestScan_of_idle (addr : s.boardAddr ≠ 0) (idle : s.board.scan = none) : requestScan s = beginScan s := by
  simp [requestScan, addr, idle]

theorem requestScan_of_busy (addr : s.boardAddr ≠ 0) (busy : s.board.scan ≠ none) :
    requestScan s = { s with board := { s.board with scanPending := true } } := by
  obtain ⟨c, scan⟩ := Option.ne_none_iff_exists'.mp busy
  simp [requestScan, addr, scan]

theorem scanTimerEnds_of_running (running : s.board.scanTimer ≠ none) :
    scanTimerEnds s = requestScan { s with board := { s.board with scanTimer := scanStart s.board.scanInterval } } := by
  obtain ⟨n, timer⟩ := Option.ne_none_iff_exists'.mp running
  simp [scanTimerEnds, timer]

/-- Settles O11: the three cases of a request, of which the timer's is one after its restart. -/
theorem scansRequested : Obligations.ScansRequested := by
  refine ⟨fun v s => ⟨fun zero => ?_, fun ⟨addr, idle⟩ => ?_, fun ⟨addr, busy⟩ => ?_⟩,
    fun s running => ⟨fun zero => ?_, fun ⟨addr, idle⟩ => ?_, fun ⟨addr, busy⟩ => ?_⟩⟩
  · show Host.Outcome.next (conclude (requestScan s)) = _
    rw [requestScan_of_zero zero]
  · show Host.Outcome.next (conclude (requestScan s)) = _
    rw [requestScan_of_idle addr idle]
    rfl
  · show Host.Outcome.next (conclude (requestScan s)) = _
    rw [requestScan_of_busy addr busy]
  · show Host.Outcome.next (conclude (scanTimerEnds s)) = _
    rw [scanTimerEnds_of_running running, requestScan_of_zero (by exact zero)]
    rfl
  · show Host.Outcome.next (conclude (scanTimerEnds s)) = _
    rw [scanTimerEnds_of_running running, requestScan_of_idle (by exact addr) (by exact idle)]
    rfl
  · show Host.Outcome.next (conclude (scanTimerEnds s)) = _
    rw [scanTimerEnds_of_running running, requestScan_of_busy (by exact addr) (by exact busy)]
    rfl

end Sys2Proof.Machine
end

section
/-! PROOFS. What the shared operations leave in the field they write: the tower, the printer, the bins and the fault record. -/

namespace Sys2Proof.Machine

variable {s t : State}

@[simp] theorem setTower_state (st : TowerState) (s : State) : (setTower st s).tower.state = st := by
  unfold setTower
  dsimp only
  (repeat' split) <;> simp_all

@[simp] theorem setTower_time (st : TowerState) (s : State) : (setTower st s).tower.time = s.tower.time := by
  unfold setTower
  dsimp only
  (repeat' split) <;> simp

@[simp] theorem setTower_calibration (st : TowerState) (s : State) : (setTower st s).tower.calibration = s.tower.calibration := by
  unfold setTower
  dsimp only
  (repeat' split) <;> simp

@[simp] theorem setTower_loader (st : TowerState) (s : State) : (setTower st s).tower.loader = s.tower.loader := by
  unfold setTower
  dsimp only
  (repeat' split) <;> simp

@[simp] theorem setPrinter_printer (st : PrinterState) (s : State) :
    (setPrinter st s).printer = if s.printer.state = st then s.printer
      else { s.printer with state := st, clamped := if st = .readyOut then false else s.printer.clamped } := by
  unfold setPrinter
  split <;> simp

theorem Regs.setAttention_of_set {r : Regs} {a : Attention} (on : r.attention a = true) : r.setAttention true a = r := by
  obtain ⟨low, high, run, irq, card, status, halt⟩ := r
  cases a <;> simp_all [Regs.setAttention, Regs.attention]

@[simp] theorem raiseAttention_regs (a : Attention) (s : State) : (raiseAttention a s).regs = s.regs.setAttention true a := by
  unfold raiseAttention
  split
  · rename_i on
    exact (Regs.setAttention_of_set on).symm
  · dsimp only
    split <;> simp

@[simp] theorem setAttention_halted (r : Regs) : (r.setAttention true .halted).halted = true := rfl

/-- What is recorded of a fault: the first with its entry, a later one in the count of its class. -/
def FaultRecord.after (f : FaultRecord) (code : FaultCode) (bay : Option BayNo) (docket : Option DocketNo) (time : Nat) : FaultRecord :=
  match f.first with
  | none => { f with first := some { code := code, bay := bay, docket := docket, time := time } }
  | some _ => f.raise code.cls

@[simp] theorem reportFault_faults (code : FaultCode) (bay : Option BayNo) (docket : Option DocketNo) (s : State) :
    (reportFault code bay docket s).faults = s.faults.after code bay docket s.tower.time := by
  unfold reportFault FaultRecord.after
  cases s.faults.first with
  | none => simp
  | some e =>
    dsimp only
    split
    · simp_all
    · simp

theorem FaultRecord.raise_first (f : FaultRecord) (c : FaultClass) : (f.raise c).first = f.first := by
  cases c <;> rfl

theorem FaultRecord.count_raise (f : FaultRecord) (c x : FaultClass) :
    (f.raise c).count x = if x = c then countUp 255 (f.count x) else f.count x := by
  cases c <;> cases x <;> rfl

theorem FaultRecord.after_of_none {f : FaultRecord} (none : f.first = none) (code : FaultCode) (bay : Option BayNo)
    (docket : Option DocketNo) (time : Nat) :
    f.after code bay docket time = { f with first := some { code := code, bay := bay, docket := docket, time := time } } := by
  simp [FaultRecord.after, none]

theorem FaultRecord.after_of_some {f : FaultRecord} (entered : f.first ≠ none) (code : FaultCode) (bay : Option BayNo)
    (docket : Option DocketNo) (time : Nat) : f.after code bay docket time = f.raise code.cls := by
  obtain ⟨e, first⟩ := Option.ne_none_iff_exists'.mp entered
  simp [FaultRecord.after, first]

theorem FaultRecord.count_setFirst (f : FaultRecord) (e : Option FaultEntry) (c : FaultClass) :
    ({ f with first := e } : FaultRecord).count c = f.count c := by
  cases c <;> rfl

/-- What the fault record holds after a report. -/
theorem FaultRecord.after_spec (f : FaultRecord) (code : FaultCode) (bay : Option BayNo) (docket : Option DocketNo) (time : Nat) :
    (f.first = none → (∀ c, (f.after code bay docket time).count c = f.count c)
      ∧ (f.after code bay docket time).first = some { code := code, bay := bay, docket := docket, time := time })
    ∧ (f.first ≠ none → (f.after code bay docket time).first = f.first
      ∧ (f.after code bay docket time).count code.cls = (if f.count code.cls < 255 then f.count code.cls + 1 else 255)
      ∧ ∀ c, c ≠ code.cls → (f.after code bay docket time).count c = f.count c) := by
  refine ⟨fun none => ?_, fun entered => ?_⟩
  · rw [FaultRecord.after_of_none none]
    exact ⟨FaultRecord.count_setFirst f _, rfl⟩
  · rw [FaultRecord.after_of_some entered]
    refine ⟨FaultRecord.raise_first f _, ?_, fun c other => ?_⟩
    · simp [FaultRecord.count_raise, countUp]
    · simp [FaultRecord.count_raise, other]

theorem setInput_input (i x : InputBin) (st : InputBinState) (s : State) :
    ((setInput i st s).bins.input x) = if x = i then { s.bins.input x with state := st } else s.bins.input x := by
  unfold setInput
  split
  · rename_i same
    split
    · subst_vars; rfl
    · rfl
  · cases i <;> cases x <;> simp [Bins.input]

@[simp] theorem binUp_bins (o : OutputBin) (s : State) : (binUp o s).bins = s.bins.setCount ((s.bins.out o).count + 1) o := by
  simp [binUp]

end Sys2Proof.Machine
end

section
/-! PROOFS. The sensors' filter (O30), the lift (O33, O34), the limits of a motion (O35) and a transport fault (O36). -/

namespace Sys2Proof.Machine

variable {s t : State}

/-! ### The filter of a sensor (O30) -/

theorem execSensorSample_of_differs {x : Sensor} {level : Bool} (differs : level ≠ (s.filter x).on)
    (third : 3 ≤ (s.filter x).agree) : execSensorSample x level s = .next (conclude (changeSensor x level s)) := by
  have enough : ¬ (s.filter x).agree + 1 < 4 := by omega
  simp [execSensorSample, differs, enough]

theorem execSensorChange_of_differs {x : Sensor} {on : Bool} (differs : s.sensor x ≠ on) :
    execSensorChange x on s = .next (conclude (changeSensor x on s)) := by
  simp [execSensorChange, differs]

/-- Settles O30. -/
theorem sampleFilter : Obligations.SampleFilter := by
  intro x level s
  refine ⟨fun agrees => ?_, fun differs few => ?_, fun differs third => ?_⟩
  · show execSensorSample x level s = _
    simp [execSensorSample, agrees]
  · show execSensorSample x level s = _
    have held : (s.filter x).on = !level := by cases level <;> simp_all
    simp [execSensorSample, held, few]
  · have sampled := execSensorSample_of_differs differs third
    exact ⟨sampled.trans (execSensorChange_of_differs (Ne.symm differs)).symm, sampled⟩

/-! ### The lift axis (O33, O34) -/

/-- The count after an edge, as a number. -/
theorem Lift.count'_eq (l : Lift) (up : Bool) : l.count' up = if up = true then l.count + 1 else l.count - 1 := rfl

/-- An encoder edge, by the lift's mode. -/
theorem Lift.edge_of_target {l : Lift} {up : Bool} {t : Nat} {near : Bool}
    (n : near = decide (((t : Int) - l.count' up).natAbs ≤ 4)) (travel : l.travel' up = l.travel) :
    (l.mode = .move t → l.edge up =
      if near = true then { l with count := l.count' up, mode := .settling t false, duty := 0, stallTimer := none, settleTimer := some 50 }
      else { l with count := l.count' up, stallTimer := stallStart l.duty })
    ∧ (l.mode = .correct t → l.edge up =
      if near = true then { l with count := l.count' up, mode := .settling t true, duty := 0, stallTimer := none, settleTimer := some 50 }
      else { l with count := l.count' up, stallTimer := stallStart l.duty })
    ∧ (l.mode = .descend t → l.edge up =
      if near = true then { l with count := l.count' up, mode := .still, duty := 0, stallTimer := none, moveTimer := none,
                                   settleTimer := none, homeTimer := none }
      else { l with count := l.count' up, stallTimer := stallStart l.duty }) := by
  subst n
  refine ⟨fun mode => ?_, fun mode => ?_, fun mode => ?_⟩ <;>
    simp [Lift.edge, mode, Lift.distance, Lift.compareStop, Lift.stop, travel]

theorem Lift.travel'_of_no_homing {l : Lift} (up : Bool) (h : l.mode ≠ .homeUp ∧ l.mode ≠ .homeDown) : l.travel' up = l.travel := by
  unfold Lift.travel'
  split <;> simp_all

/-- Settles O33: the edge of the lift, by its mode. -/
theorem encoderEdges : Obligations.EncoderEdges := by
  intro up t s l n near gives stall
  have give {l' : Lift} (e : l.edge up = l') : gives l' := by
    subst e; rfl
  have target (mode : l.mode = .move t ∨ l.mode = .correct t ∨ l.mode = .descend t) : l.travel' up = l.travel :=
    Lift.travel'_of_no_homing up (by rcases mode with m | m | m <;> simp [m])
  have on {p : Prop} [Decidable p] (h : p) : true = decide p := (decide_eq_true h).symm
  have off {p : Prop} [Decidable p] (h : ¬ p) : false = decide p := (decide_eq_false h).symm
  refine ⟨fun mode close => ?_, fun mode close => ?_, fun mode close => ?_, fun mode far => ?_, fun mode => ?_, fun mode => ?_,
    fun mode => ?_⟩
  · exact give ((Lift.edge_of_target (on close) (target (.inl mode))).1 mode)
  · exact give ((Lift.edge_of_target (on close) (target (.inr (.inl mode)))).2.1 mode)
  · exact give ((Lift.edge_of_target (on close) (target (.inr (.inr mode)))).2.2 mode)
  · obtain ⟨move, correct, descend⟩ := Lift.edge_of_target (off far) (target mode)
    rcases mode with m | m | m
    · exact give (move m)
    · exact give (correct m)
    · exact give (descend m)
  · refine give ?_
    rcases mode with m | ⟨x, c, m⟩ <;> simp [Lift.edge, Lift.travel', m] <;> exact ⟨rfl, rfl⟩
  · exact give (by simp [Lift.edge, Lift.travel', mode]; exact ⟨rfl, rfl⟩)
  · exact give (by simp [Lift.edge, Lift.travel', mode]; exact ⟨rfl, rfl⟩)

/-- The duty at a millisecond of a move, by the distance left. -/
theorem laterDuty_cases (c : Calibration) (d duty : Nat) :
    (d ≤ 32 → laterDuty c d duty = c.creepDuty)
    ∧ (32 < d → d ≤ c.braking →
      laterDuty c d duty = if c.creepDuty ≤ duty - c.rampStep then duty - c.rampStep else c.creepDuty)
    ∧ (32 < d → c.braking < d →
      laterDuty c d duty = if duty + c.rampStep ≤ c.cruiseDuty then duty + c.rampStep else c.cruiseDuty) := by
  refine ⟨fun creep => by simp [laterDuty, creep], fun far brake => ?_, fun far cruise => ?_⟩
  · have far' : ¬ d ≤ 32 := by omega
    simp only [laterDuty, far', brake, if_true, if_false]
    split <;> omega
  · have far' : ¬ d ≤ 32 := by omega
    have cruise' : ¬ d ≤ c.braking := by omega
    simp only [laterDuty, far', cruise', if_false]
    split <;> omega

theorem startDuty_eq (c : Calibration) (d : Nat) :
    startDuty c d = if d ≤ 32 then c.creepDuty else if c.startDuty ≤ c.cruiseDuty then c.startDuty else c.cruiseDuty := by
  unfold startDuty
  split
  · rfl
  · split <;> omega

theorem Lift.revise_of_move {l : Lift} {t : Nat} (mode : l.mode = .move t) (c : Calibration) :
    l.revise c = { l with duty := laterDuty c (l.distance t) l.duty } := by
  simp [Lift.revise, mode]

theorem Lift.revise_of_other {l : Lift} (mode : ∀ x, l.mode ≠ .move x) (c : Calibration) : l.revise c = l := by
  unfold Lift.revise
  split
  · exact absurd (by assumption) (mode _)
  · rfl

/-- A move asked for within 4 counts ends at once; another starts. -/
theorem startMove_lift (t : Nat) (s : State) :
    (startMove t s).transport.lift =
      if s.transport.lift.distance t ≤ 4 then s.transport.lift.stop
      else { s.transport.lift.stop with
        mode := .move t, duty := startDuty s.cal (s.transport.lift.distance t), up := decide (s.transport.lift.count < (t : Int))
        stallTimer := stallStart (startDuty s.cal (s.transport.lift.distance t)), moveTimer := some 10000 } := rfl

theorem settleLift_cases {t : Nat} {corrected : Bool} (mode : s.transport.lift.mode = .settling t corrected)
    (timer : s.transport.lift.settleTimer ≠ none) :
    settleLift s =
      if s.transport.lift.distance t ≤ 4 then stopLift s
      else if corrected = true then transportFault .position s
      else setLift (s.transport.lift.creep s.cal (.correct t) (decide (s.transport.lift.count < (t : Int)))) s := by
  obtain ⟨n, timer⟩ := Option.ne_none_iff_exists'.mp timer
  simp [settleLift, mode, timer]

/-- Settles O34: the duty by the distance left, and the end of the settle by the distance and the correction. -/
theorem liftMoves : Obligations.LiftMoves := by
  refine ⟨fun t s => ?_, fun t corrected s => ?_⟩
  · intro l c d duty
    have revised {v : Nat} (mode : l.mode = .move t) (e : laterDuty c d l.duty = v) : duty v := by
      show Host.Outcome.next (setLift (s.transport.lift.revise s.cal) s) = _
      rw [Lift.revise_of_move mode, ← e]
      rfl
    obtain ⟨creep, brake, cruise⟩ := laterDuty_cases c d l.duty
    refine ⟨fun mode near => revised mode (creep near), fun mode far near => revised mode (brake far near),
      fun mode far clear => revised mode (cruise far clear), fun mode => ?_, fun near => ?_, fun far => ?_⟩
    · show Host.Outcome.next (setLift (s.transport.lift.revise s.cal) s) = _
      rw [Lift.revise_of_other mode]
      rfl
    · have lift := (startMove_lift t s).trans (if_pos near)
      rw [lift]
      exact ⟨rfl, rfl⟩
    · have lift := (startMove_lift t s).trans (if_neg (Nat.not_le.mpr far))
      rw [lift]
      exact ⟨rfl, rfl, decide_eq_true_iff, startDuty_eq c d⟩
  · intro l d mode timer
    have gives {u : State} (e : settleLift s = u) : exec .settleExpiry s = .next (conclude u) := by subst e; rfl
    have cases := settleLift_cases mode timer
    refine ⟨fun near => gives (cases.trans (if_pos near)), fun far first => gives (cases.trans ?_),
      fun far second => gives (cases.trans ?_)⟩
    · rw [first]; exact if_neg (Nat.not_le.mpr far)
    · rw [second]; exact if_neg (Nat.not_le.mpr far)

/-! ### The limits of a motion (O35) -/

theorem Lift.homeOverrun_of_limit {l : Lift}
    (limit : (l.mode = .homeUp ∧ 2000 ≤ l.travel) ∨ (l.mode = .homeDown ∧ 210000 ≤ l.travel)) : l.homeOverrun = true := by
  rcases limit with ⟨mode, far⟩ | ⟨mode, far⟩ <;> simp [Lift.homeOverrun, mode, far]

/-- Settles O35: each limit is reported exactly while its timer runs. -/
theorem motionLimits : Obligations.MotionLimits := by
  intro s
  have runs {x : Timer} (h : x ≠ none) : x.isSome := Option.isSome_iff_ne_none.mpr h
  have idles {x : Timer} (h : x = none) : ¬ x.isSome := by simp [h]
  exact ⟨fun timer duty => if_pos ⟨runs timer, duty⟩,
    fun idle => if_neg fun ⟨timer, duty⟩ => idle.elim (fun h => idles h timer) duty,
    fun timer => if_pos (runs timer), fun idle => if_neg (idles idle),
    fun limit => if_pos (Lift.homeOverrun_of_limit limit),
    fun timer => if_pos (runs timer), fun idle => if_neg (idles idle),
    fun timer => if_pos (runs timer), fun idle => if_neg (idles idle)⟩

/-! ### A transport fault (O36) -/

/-- The work in hand through a halt: a task whose docket is gone ends with it. -/
def haltedErrand : Option Errand → Option Errand
  | some { work := .ended, .. } => none
  | e => e

@[simp] theorem haltTransport_transport (code : FaultCode) (bay : Option BayNo) (docket : Option DocketNo) (s : State) :
    (haltTransport code bay docket s).transport = { s.transport with
      state := .halted, lift := s.transport.lift.stop, swing := none, swingTimer := none, gripper := none, gripTimer := none
      phase := .none, placeTimer := none, errand := haltedErrand s.transport.errand } := by
  have errand : (setPhase .none (stopMotors s)).transport.errand = s.transport.errand := rfl
  unfold haltTransport
  dsimp only
  rw [errand]
  rcases work : s.transport.errand with _ | ⟨_ | _ | _, _, _, _, _⟩ <;> dsimp only <;> split <;>
    simp [haltedErrand, work, setErrand, setPhase, stopMotors, stopLift, setLift]

theorem taskInFlight_haltedErrand (s : State) (h : t.transport.errand = haltedErrand s.transport.errand) :
    t.taskInFlight = s.taskInFlight := by
  unfold State.taskInFlight
  rw [h]
  rcases s.transport.errand with _ | ⟨_ | _ | _, _, _, _, _⟩ <;> rfl

@[simp] theorem haltTransport_taskInFlight (code : FaultCode) (bay : Option BayNo) (docket : Option DocketNo) (s : State) :
    (haltTransport code bay docket s).taskInFlight = s.taskInFlight :=
  taskInFlight_haltedErrand s (by simp)

@[simp] theorem haltTransport_faults (code : FaultCode) (bay : Option BayNo) (docket : Option DocketNo) (s : State) :
    (haltTransport code bay docket s).faults = s.faults.after code bay docket s.tower.time := by
  unfold haltTransport
  dsimp only
  (repeat' split) <;> simp

@[simp] theorem haltTransport_regs (code : FaultCode) (bay : Option BayNo) (docket : Option DocketNo) (s : State) :
    (haltTransport code bay docket s).regs = s.regs.setAttention true .halted := by
  unfold haltTransport
  dsimp only
  (repeat' split) <;> simp

theorem haltTransport_towerState (code : FaultCode) (bay : Option BayNo) (docket : Option DocketNo) (s : State) :
    (haltTransport code bay docket s).tower.state = if s.tower.state = .running then .halted else s.tower.state := by
  unfold haltTransport
  dsimp only
  (repeat' split) <;> simp

/-- The bay a transport fault names, by the work in hand. -/
theorem faultBay_eq (s : State) :
    s.faultBay = match s.transport.errand with
      | some e => match e.work, e.source, e.dest with
        | .task _, _, _ => s.taskInFlight.bind Task.bay
        | .ended, some (.bay b), _ => some b
        | .ended, _, .bay b => some b
        | _, _, _ => none
      | none => none := by
  unfold State.faultBay State.taskInFlight
  rcases s.transport.errand with _ | ⟨_ | _ | _, source, dest, _, _⟩
  case some.ended => rcases source with _ | (_ | _ | _ | _) <;> cases dest <;> rfl
  all_goals rfl

/-- Settles O36. -/
theorem faultHaltsTransport : Obligations.FaultHaltsTransport := by
  intro code s t bay
  have halts : t = haltTransport code bay (s.taskInFlight.map (·.docket)) s :=
    congrArg (haltTransport code · _ s) (faultBay_eq s)
  obtain ⟨first, later⟩ := s.faults.after_spec code bay (s.taskInFlight.map (·.docket)) s.tower.time
  have tower := haltTransport_towerState code bay (s.taskInFlight.map (·.docket)) s
  rw [halts]
  clear_value t bay
  simp only [haltTransport_transport, haltTransport_faults, haltTransport_frame, haltTransport_taskInFlight, haltTransport_regs]
  refine ⟨trivial, rfl, rfl, trivial, rfl, fun running => ?_, fun other => ?_, first, later,
    trivial, trivial, trivial, trivial, trivial, trivial, trivial, trivial⟩
  · rw [tower, if_pos running]
  · rw [tower, if_neg other]

end Sys2Proof.Machine
end

section
/-! PROOFS. What befalls a docket, as later proofs use it: what a cause leaves, the end of an errand, a released bay and a disc lost. -/

namespace Sys2Proof.Machine

variable {s t : State}

/-! ### What the work of a bay leaves of its record -/

/-- Of a bay's record only the requests, the credits and the channel with its lines differ. -/
def Bay.keeps (a b : Bay) : Prop :=
  b = { a with reqs := b.reqs, credits := b.credits, withdrawn := b.withdrawn, image := b.image, extent := b.extent
               compare := b.compare, channel := b.channel }

theorem Bay.keeps_refl (a : Bay) : Bay.keeps a a := rfl

theorem Bay.keeps.trans {a b c : Bay} (h : Bay.keeps a b) (k : Bay.keeps b c) : Bay.keeps a c := by
  unfold Bay.keeps at h k ⊢
  rw [k, h]

theorem Bay.keeps.state {a b : Bay} (h : Bay.keeps a b) : b.state = a.state := by
  unfold Bay.keeps at h; rw [h]
theorem Bay.keeps.failing {a b : Bay} (h : Bay.keeps a b) : b.failing = a.failing := by
  unfold Bay.keeps at h; rw [h]
theorem Bay.keeps.docket {a b : Bay} (h : Bay.keeps a b) : b.docket = a.docket := by
  unfold Bay.keeps at h; rw [h]
theorem Bay.keeps.logical {a b : Bay} (h : Bay.keeps a b) : b.logical = a.logical := by
  unfold Bay.keeps at h; rw [h]
theorem Bay.keeps.tray {a b : Bay} (h : Bay.keeps a b) : b.tray = a.tray := by
  unfold Bay.keeps at h; rw [h]
theorem Bay.keeps.installed {a b : Bay} (h : Bay.keeps a b) : b.installed = a.installed := by
  unfold Bay.keeps at h; rw [h]
theorem Bay.keeps.hard {a b : Bay} (h : Bay.keeps a b) : b.hard = a.hard := by
  unfold Bay.keeps at h; rw [h]

/-- One bay's record is replaced by one that keeps what a bay's work keeps. -/
theorem State.setBay_keeps {b : BayNo} {r : Bay} (h : Bay.keeps (s.bay b) r) (x : BayNo) :
    Bay.keeps (s.bay x) ((s.setBay b r).bay x) := by
  rw [State.bay_setBay]
  split
  · subst_vars; exact h
  · exact Bay.keeps_refl _

theorem sendReq_keeps (b x : BayNo) (q : Request) (p : Purpose) (m : DriveMsg) (s : State) :
    Bay.keeps (s.bay x) ((sendReq b q p m s).bay x) := by
  rw [sendReq_bay]
  split
  · subst_vars; rfl
  · rfl

theorem withdrawBurn_keeps (b x : BayNo) (s : State) : Bay.keeps (s.bay x) ((withdrawBurn b s).bay x) :=
  State.setBay_keeps (by rfl) x

theorem abortBurn_keeps (b x : BayNo) (s : State) : Bay.keeps (s.bay x) ((abortBurn b s).bay x) := by
  unfold abortBurn
  (repeat' split)
  · rfl
  · exact State.setBay_keeps (by rfl) x
  · rfl

theorem stopVerify_keeps (b x : BayNo) (s : State) : Bay.keeps (s.bay x) ((stopVerify b s).bay x) := by
  unfold stopVerify
  (repeat' split)
  · rfl
  · exact State.setBay_keeps (b := b) (by rfl) x
  · rfl

theorem sendHalt_keeps (b x : BayNo) (s : State) : Bay.keeps (s.bay x) ((sendHalt b s).bay x) := by
  unfold sendHalt
  split
  · rfl
  · exact ((withdrawBurn_keeps b x s).trans (State.setBay_keeps (by rfl) x)).trans (sendReq_keeps ..)

theorem stopWork_keeps (halt : Bool) (r : Docket) (x : BayNo) (s : State) : Bay.keeps (s.bay x) ((stopWork halt r s).bay x) := by
  unfold stopWork
  (repeat' split)
  · exact (abortBurn_keeps ..).trans (sendHalt_keeps ..)
  · exact abortBurn_keeps ..
  · exact (abortBurn_keeps ..).trans (sendHalt_keeps ..)
  · exact abortBurn_keeps ..
  · exact stopVerify_keeps ..
  · rfl

/-! ### A cause given to a docket (R9) -/

theorem giveCause_of_free {d : DocketNo} (free : s.docket d = none) (halt : Bool) (c : Cause) : giveCause halt d c s = s := by
  simp [giveCause, free]

/-- A docket that has a cause already keeps all it has. -/
theorem giveCause_of_some {d : DocketNo} {r : Docket} (docket : s.docket d = some r) (halt : Bool) (c : Cause) :
    giveCause halt d c s = if r.cause = .none then
        stopWork halt r (rejectQueued d (s.setDocket d (some { r with
          cause := c, verdict := some .reject, verdictTime := some s.tower.time })))
      else s.setDocket d (some r) := by
  simp only [giveCause, docket, Docket.giveCause]
  split <;> rfl

theorem giveCause_docket (halt : Bool) (d : DocketNo) (c : Cause) (s : State) (x : DocketNo) :
    (giveCause halt d c s).docket x = if x = d then (s.docket d).map fun r => r.giveCause c s.tower.time else s.docket x := by
  unfold giveCause
  cases h : s.docket d with
  | none => split <;> simp_all
  | some r =>
    dsimp only
    split <;> simp [State.docket_setDocket]

theorem giveCause_bay_keeps (halt : Bool) (d : DocketNo) (c : Cause) (s : State) (x : BayNo) :
    Bay.keeps (s.bay x) ((giveCause halt d c s).bay x) := by
  unfold giveCause
  split
  · rfl
  · dsimp only
    split
    · refine Bay.keeps.trans ?_ (stopWork_keeps ..)
      simp [Bay.keeps]
    · rfl

/-- Of the transport a cause changes the queue alone. -/
theorem giveCause_transport (halt : Bool) (d : DocketNo) (c : Cause) (s : State) :
    (giveCause halt d c s).transport = { s.transport with queue := (giveCause halt d c s).transport.queue } := by
  unfold giveCause
  split
  · rfl
  · dsimp only
    split
    · simp [rejectQueued, setQueue]
    · rfl

/-! ### The end of an errand (R59) -/

/-- The arm at rest after an errand. -/
def Transport.free (x : Transport) : Transport :=
  if x.state = .homing then { x with errand := none }
  else { x with
    state := if x.state = .busy then .free else x.state, lift := x.lift.stop, swing := none, swingTimer := none
    gripper := none, gripTimer := none, phase := .none, placeTimer := none, errand := none }

@[simp] theorem endErrand_transport (s : State) : (endErrand s).transport = s.transport.free := by
  unfold endErrand Transport.free
  by_cases homing : s.transport.state = .homing
  · simp [homing, setErrand]
  · by_cases busy : s.transport.state = .busy
    · simp [busy, setErrand, setPhase, stopMotors, stopLift, setLift]
    · simp [homing, busy, setErrand, setPhase, stopMotors, stopLift, setLift]

theorem Transport.free_carrying (x : Transport) : x.free.carrying = x.carrying := by
  unfold Transport.free; split <;> rfl

theorem Transport.free_errand (x : Transport) : x.free.errand = none := by
  unfold Transport.free; split <;> rfl

theorem Transport.free_queue (x : Transport) : x.free.queue = x.queue := by
  unfold Transport.free; split <;> rfl

/-- The task of this docket is in flight no more. -/
def endErrandOf (d : DocketNo) (s : State) : State :=
  if (s.taskInFlight.map (·.docket)) = some d then endErrand s else s

theorem endErrandOf_transport (d : DocketNo) (s : State) :
    (endErrandOf d s).transport =
      if (s.taskInFlight.map (·.docket)) = some d then s.transport.free else s.transport := by
  unfold endErrandOf; split <;> simp

@[simp] theorem endErrandOf_frame (d : DocketNo) (s : State) :
    (endErrandOf d s).tower = s.tower ∧ (endErrandOf d s).regs = s.regs ∧ (endErrandOf d s).board = s.board
    ∧ (endErrandOf d s).faults = s.faults ∧ (endErrandOf d s).jobs = s.jobs ∧ (endErrandOf d s).dockets = s.dockets
    ∧ (endErrandOf d s).bays = s.bays ∧ (endErrandOf d s).bins = s.bins ∧ (endErrandOf d s).printer = s.printer
    ∧ (endErrandOf d s).sensors = s.sensors ∧ (endErrandOf d s).pending = s.pending ∧ (endErrandOf d s).health = s.health := by
  unfold endErrandOf; split <;> simp

/-! ### A bay whose tray is asked to close (R76) -/

theorem askTrayClose_of_open {b : BayNo} (h : (s.bay b).state = .open) :
    askTrayClose b s = setBayState b .closing (sendReq b .trayClose .normal .trayClose s) := by
  simp [askTrayClose, h]

theorem askTrayClose_closes {b : BayNo} (h : (s.bay b).state = .open) :
    ((askTrayClose b s).bay b).state = .closing ∧ (askTrayClose b s).hasReq b .trayClose = true := by
  rw [askTrayClose_of_open h]
  exact ⟨by simp [setBayState_bay], by rw [setBayState_hasReq]; exact sendReq_hasReq ..⟩

theorem askTrayClose_bay_other {b x : BayNo} (h : x ≠ b) (s : State) : (askTrayClose b s).bay x = s.bay x := by
  unfold askTrayClose
  split <;> simp [setBayState_bay, sendReq_bay, State.bay_setBay, h]

theorem askTrayClose_docketOf (b x : BayNo) (s : State) : ((askTrayClose b s).bay x).docket = (s.bay x).docket := by
  by_cases own : x = b
  · subst own
    unfold askTrayClose
    split <;> simp [setBayState_bay, sendReq_bay]
  · rw [askTrayClose_bay_other own]

theorem askTrayClose_failing (b x : BayNo) (s : State) : ((askTrayClose b s).bay x).failing = (s.bay x).failing := by
  by_cases own : x = b
  · subst own
    unfold askTrayClose
    split <;> simp [setBayState_bay, sendReq_bay]
  · rw [askTrayClose_bay_other own]

/-! ### A disc lost (R15) -/

/-- The bay's part of a loss: the reservation of an INBOUND docket ends, and the bay of any other forgets it. -/
def leaveBay (d : DocketNo) (r : Docket) (s : State) : State :=
  if (s.bay r.bay).docket = some d then
    if r.state = .inbound then releaseBay r.bay s else s.setBay r.bay { s.bay r.bay with docket := none }
  else s

/-- The printer's part of a loss. -/
def leavePrinter (d : DocketNo) (s : State) : State :=
  if s.printer.docket = some d then { s with printer := { s.printer with docket := none } } else s

/-- The cause of a drop. -/
def dropCause (dropped : Bool) (d : DocketNo) (s : State) : State := if dropped then giveCause false d .dropped s else s

theorem loseDisc_of_some {d : DocketNo} {r : Docket} (docket : s.docket d = some r) (dropped : Bool) (place : Place) :
    loseDisc dropped d place s =
      land d (some place) none (leavePrinter d (leaveBay d r (endErrandOf d (unqueueTask d (dropCause dropped d s))))) := by
  simp only [loseDisc, docket]
  rfl

@[simp] theorem leaveBay_frame (d : DocketNo) (r : Docket) (s : State) :
    (leaveBay d r s).tower = s.tower ∧ (leaveBay d r s).dockets = s.dockets ∧ (leaveBay d r s).transport = s.transport
    ∧ (leaveBay d r s).printer = s.printer ∧ (leaveBay d r s).bins = s.bins ∧ (leaveBay d r s).jobs = s.jobs := by
  unfold leaveBay
  (repeat' split) <;> simp

@[simp] theorem leavePrinter_frame (d : DocketNo) (s : State) :
    (leavePrinter d s).tower = s.tower ∧ (leavePrinter d s).dockets = s.dockets ∧ (leavePrinter d s).transport = s.transport
    ∧ (leavePrinter d s).bays = s.bays ∧ (leavePrinter d s).faults = s.faults ∧ (leavePrinter d s).jobs = s.jobs
    ∧ (leavePrinter d s).bins = s.bins := by
  unfold leavePrinter; split <;> simp

@[simp] theorem dropCause_frame (dropped : Bool) (d : DocketNo) (s : State) :
    (dropCause dropped d s).tower = s.tower ∧ (dropCause dropped d s).faults = s.faults ∧ (dropCause dropped d s).jobs = s.jobs
    ∧ (dropCause dropped d s).printer = s.printer ∧ (dropCause dropped d s).bins = s.bins := by
  unfold dropCause; split <;> simp

theorem dropCause_docket (dropped : Bool) (d : DocketNo) (s : State) :
    (dropCause dropped d s).docket d = (s.docket d).map fun r => if dropped then r.giveCause .dropped s.tower.time else r := by
  unfold dropCause
  split <;> simp_all [giveCause_docket]

theorem dropCause_transport (dropped : Bool) (d : DocketNo) (s : State) :
    (dropCause dropped d s).transport = { s.transport with queue := (dropCause dropped d s).transport.queue } := by
  unfold dropCause
  split
  · exact giveCause_transport ..
  · rfl

theorem dropCause_bay_keeps (dropped : Bool) (d : DocketNo) (s : State) (x : BayNo) :
    Bay.keeps (s.bay x) ((dropCause dropped d s).bay x) := by
  unfold dropCause
  split
  · exact giveCause_bay_keeps ..
  · rfl

/-- The docket of a disc as it lands. -/
theorem land_docket {d : DocketNo} {r : Docket} (docket : s.docket d = some r) (place : Option Place) (bin : Option OutputBin)
    (x : DocketNo) :
    (land d place bin s).docket x = if x = d then
      some { r with state := .landed, place := place, outputBin := bin, landed := some s.tower.time } else s.docket x := by
  simp [land, docket, State.docket_setDocket]

/-- The docket of a lost disc. -/
theorem loseDisc_docket {d : DocketNo} {r : Docket} (docket : s.docket d = some r) (dropped : Bool) (place : Place) :
    (loseDisc dropped d place s).docket d = some { (if dropped then r.giveCause .dropped s.tower.time else r) with
      state := .landed, place := some place, outputBin := none, landed := some s.tower.time } := by
  rw [loseDisc_of_some docket]
  have before : (leavePrinter d (leaveBay d r (endErrandOf d (unqueueTask d (dropCause dropped d s))))).docket d
      = some (if dropped then r.giveCause .dropped s.tower.time else r) := by
    rw [State.docket_congr (s := dropCause dropped d s) (by simp), dropCause_docket, docket]
    rfl
  rw [land_docket before]
  simp

theorem loseDisc_carrying (dropped : Bool) (d : DocketNo) (place : Place) (s : State) :
    (loseDisc dropped d place s).transport.carrying = s.transport.carrying := by
  cases docket : s.docket d with
  | none => simp [loseDisc, docket]
  | some r =>
    have dropped_carrying : (dropCause dropped d s).transport.carrying = s.transport.carrying := by rw [dropCause_transport]
    rw [loseDisc_of_some docket]
    simp only [land_frame, leavePrinter_frame, leaveBay_frame, endErrandOf_transport]
    split
    · rw [Transport.free_carrying]; exact dropped_carrying
    · exact dropped_carrying

/-- A bay that is not failing is released without a fault. -/
theorem releaseBay_faults {b : BayNo} (sound : (s.bay b).failing = false) : (releaseBay b s).faults = s.faults := by
  unfold releaseBay
  dsimp only
  split <;> simp [enterIdle, sound]

/-- While no bay is failing a loss reports no fault of a bay. -/
theorem loseDisc_faults (sound : ∀ b : BayNo, (s.bay b).failing = false) (dropped : Bool) (d : DocketNo) (place : Place) :
    (loseDisc dropped d place s).faults = s.faults := by
  cases docket : s.docket d with
  | none => simp [loseDisc, docket]
  | some r =>
    have kept : (endErrandOf d (unqueueTask d (dropCause dropped d s))).bay r.bay = (dropCause dropped d s).bay r.bay :=
      State.bay_congr (by simp) _
    have left : (leaveBay d r (endErrandOf d (unqueueTask d (dropCause dropped d s)))).faults = s.faults := by
      unfold leaveBay
      split
      · split
        · rw [releaseBay_faults (by rw [kept, (dropCause_bay_keeps ..).failing, sound])]; simp
        · simp
      · simp
    rw [loseDisc_of_some docket]
    simp [left]

end Sys2Proof.Machine
end

section
/-! PROOFS. What a change of each sensor does (O31) and the dropped discs (O32). -/

namespace Sys2Proof.Machine

variable {s t : State}

/-! ### The change of a sensor (O31) -/

/-- A sensor that changes acts with its new value. -/
theorem exec_sensorChange {x : Sensor} {on : Bool} (differs : s.sensor x ≠ on) :
    exec (.sensorChange x on) s = .next (conclude (sensorActs x on (s.setFilter x { on := on, agree := 0 }))) :=
  execSensorChange_of_differs differs

theorem discFalls_of_not_carrying (h : s.transport.carrying = false) : discFalls s = s := by simp [discFalls, h]

theorem discFalls_of_halted (h : s.transport.state = .halted) : discFalls s = s := by simp [discFalls, h]

theorem outputDoor_eq (o : OutputBin) (on : Bool) (s : State) :
    outputDoor o on s = reportStatus (if on = true then s else { s with bins := s.bins.setCount 0 o }) := by
  unfold outputDoor; split <;> rfl

theorem trayOn_of_busy (h : s.printer.state ≠ .empty ∨ s.placingAtPrinter = true) : trayOn s = s := by
  unfold trayOn
  rw [if_neg]
  rintro ⟨empty, idle⟩
  exact h.elim (fun k => k empty) (fun k => by simp [idle] at k)

theorem trayOn_of_free (empty : s.printer.state = .empty) (idle : s.placingAtPrinter = false) :
    trayOn s = if s.tower.state = .running then reportFault .foreignDisc none none (setPrinter .readyOut s)
      else setPrinter .readyOut s := by
  simp [trayOn, empty, idle]

theorem trayOff_of_docket {d : DocketNo} (docket : s.printer.docket = some d) (still : s.grippingAtPrinter = false) :
    trayOff s = reportFault .trayLost none (some d) s := by
  simp [trayOff, docket, still]

theorem trayOff_of_none (h : s.printer.docket = none ∨ s.grippingAtPrinter = true) : trayOff s = s := by
  unfold trayOff
  rcases h with none | gripping
  · rw [none]
  · split
    · rw [gripping]; rfl
    · rfl

/-- Settles O31: a sensor that changes acts with its new value, sensor by sensor. -/
theorem sensorChanges : Obligations.SensorChanges := by
  refine ⟨fun x on s => ?_, fun s => ?_⟩
  · have acts {u : State} (differs : s.sensor x ≠ on) (e : sensorActs x on (s.setFilter x { on := on, agree := 0 }) = u) :
        exec (.sensorChange x on) s = .next (conclude u) := by rw [exec_sensorChange differs, e]
    refine ⟨fun same => if_pos same, fun differs alone => acts differs ?_, fun differs door => ?_, fun differs door => ?_,
      fun differs door => ?_, fun differs door => ?_⟩
    · rcases alone with rfl | rfl | rfl | rfl | rfl | rfl | ⟨rfl, rises | idle | halted⟩
      iterate 6 rfl
      · rw [rises]; rfl
      · cases on
        · exact discFalls_of_not_carrying idle
        · rfl
      · cases on
        · exact discFalls_of_halted halted
        · rfl
    · subst door; exact acts differs rfl
    · subst door; exact acts differs rfl
    · subst door; exact acts differs (outputDoor_eq .good on _)
    · subst door; exact acts differs (outputDoor_eq .reject on _)
  · have rises {u : State} (off : s.sensor .trayPresent = false) (e : trayOn (s.setFilter .trayPresent { on := true, agree := 0 }) = u) :
        exec (.sensorChange .trayPresent true) s = .next (conclude u) := by
      subst e; exact exec_sensorChange (by simp [off])
    have falls {u : State} (on : s.sensor .trayPresent = true) (e : trayOff (s.setFilter .trayPresent { on := false, agree := 0 }) = u) :
        exec (.sensorChange .trayPresent false) s = .next (conclude u) := by
      subst e; exact exec_sensorChange (by simp [on])
    refine ⟨fun off empty idle running => rises off ?_, fun off empty idle other => rises off ?_,
      fun off busy => rises off (trayOn_of_busy busy), fun d on docket still => falls on (trayOff_of_docket docket still),
      fun on none => falls on (trayOff_of_none none)⟩
    · exact (trayOn_of_free (s := s.setFilter .trayPresent { on := true, agree := 0 }) empty idle).trans (if_pos running)
    · exact (trayOn_of_free (s := s.setFilter .trayPresent { on := true, agree := 0 }) empty idle).trans (if_neg other)

/-! ### Dropped discs (O32) -/

theorem taskInFlight_congr (h : t.transport.errand = s.transport.errand) : t.taskInFlight = s.taskInFlight := by
  unfold State.taskInFlight; rw [h]

/-- A drop of the disc of the task in flight: its docket is lost, and then the transport halts. -/
theorem dropFault_of_task {u : Task} (task : s.taskInFlight = some u) (place : Option Place) :
    dropFault place s = haltTransport .drop u.bay (some u.docket)
      (loseDisc true u.docket (place.getD (((s.docket u.docket).bind (·.place)).getD .arm)) (stopMotors s)) := by
  simp [dropFault, task]

/-- What a drop leaves of the docket that is lost. -/
theorem dropFault_docket {u : Task} {r : Docket} (task : s.taskInFlight = some u) (docket : s.docket u.docket = some r)
    (place : Option Place) :
    (dropFault place s).docket u.docket = some { r.giveCause .dropped s.tower.time with
      state := .landed, place := some (place.getD (r.place.getD .arm)), outputBin := none, landed := some s.tower.time } := by
  have stopped : (stopMotors s).docket u.docket = some r := docket
  rw [dropFault_of_task task, haltTransport_docket, loseDisc_docket stopped, docket]
  rfl

/-- What a drop leaves of the arm and the tower. -/
theorem dropFault_halts {u : Task} (task : s.taskInFlight = some u) (place : Option Place) :
    (dropFault place s).transport.state = .halted ∧ (dropFault place s).transport.carrying = s.transport.carrying
    ∧ (dropFault place s).transport.lift.duty = 0 ∧ (dropFault place s).transport.swing = none
    ∧ (dropFault place s).regs.halted = true
    ∧ (s.tower.state = .running → (dropFault place s).tower.state = .halted)
    ∧ (dropFault place s).jobs = s.jobs ∧ (dropFault place s).bins = s.bins ∧ (dropFault place s).board = s.board := by
  rw [dropFault_of_task task]
  refine ⟨by simp, ?_, by simp [Lift.stop], by simp, by simp, fun running => ?_, by simp, by simp, by simp⟩
  · rw [haltTransport_transport]
    exact loseDisc_carrying ..
  · rw [haltTransport_towerState, if_pos]
    simpa using running

/-- The fault entry of a drop, where it is the first and no bay is failing. -/
theorem dropFault_first {u : Task} (task : s.taskInFlight = some u) (first : s.faults.first = none)
    (sound : ∀ b : BayNo, (s.bay b).failing = false) (place : Option Place) :
    (dropFault place s).faults.first =
      some { code := .drop, bay := u.bay, docket := some u.docket, time := s.tower.time } := by
  have same : (loseDisc true u.docket (place.getD (((s.docket u.docket).bind (·.place)).getD .arm)) (stopMotors s)).faults
      = s.faults := by
    rw [loseDisc_faults (by simpa using sound)]
    simp
  rw [dropFault_of_task task, haltTransport_faults, same, FaultRecord.after_of_none first]
  simp

/-- A drop of a disc that belongs to no docket halts the transport. -/
theorem transportFault_halts (code : FaultCode) (s : State) :
    (transportFault code s).transport.state = .halted ∧ (transportFault code s).transport.carrying = s.transport.carrying
    ∧ (transportFault code s).transport.lift.duty = 0 ∧ (transportFault code s).transport.swing = none
    ∧ (transportFault code s).transport.errand = haltedErrand s.transport.errand
    ∧ (transportFault code s).transport.queue = s.transport.queue
    ∧ (transportFault code s).regs.halted = true
    ∧ (s.tower.state = .running → (transportFault code s).tower.state = .halted)
    ∧ (transportFault code s).faults = s.faults.after code s.faultBay (s.taskInFlight.map (·.docket)) s.tower.time := by
  unfold transportFault
  exact ⟨by simp, by simp, by simp [Lift.stop], by simp, by simp, by simp, by simp,
    fun running => by rw [haltTransport_towerState, if_pos running], by simp⟩

/-- The disc is off the arm, and disc-present reads so. -/
def discGone (s : State) : State :=
  { s.setFilter .discPresent { on := false, agree := 0 } with transport := { s.transport with carrying := false } }

@[simp] theorem discGone_frame (s : State) :
    (discGone s).transport = { s.transport with carrying := false } ∧ (discGone s).tower = s.tower ∧ (discGone s).faults = s.faults
    ∧ (discGone s).jobs = s.jobs ∧ (discGone s).dockets = s.dockets ∧ (discGone s).bays = s.bays ∧ (discGone s).bins = s.bins
    ∧ (discGone s).board = s.board ∧ (discGone s).printer = s.printer ∧ (discGone s).regs = s.regs := by
  simp [discGone]

/-- Disc-present falls under the disc that the arm carries. -/
theorem exec_discFalls (on : s.sensor .discPresent = true) (carrying : s.transport.carrying = true)
    (state : s.transport.state = .busy ∨ s.transport.state = .homing ∨ s.transport.state = .sweeping ∨ s.transport.state = .free) :
    exec (.sensorChange .discPresent false) s = .next (conclude
      (if s.carriesForErrand = true then dropFault none (discGone s) else transportFault .drop (discGone s))) := by
  rw [exec_sensorChange (by simp [on])]
  have falls : discFalls (s.setFilter .discPresent { on := false, agree := 0 }) =
      if s.carriesForErrand = true then dropFault none (discGone s) else transportFault .drop (discGone s) := by
    unfold discFalls
    rw [if_pos (by simpa using carrying)]
    split
    next halted => simp [show s.transport.state = .halted from halted] at state
    next stopped => simp [show s.transport.state = .stopped from stopped] at state
    next => rfl
  exact congrArg (fun u => Host.Outcome.next (conclude u)) falls

theorem haltedErrand_of_task {e : Errand} {u : Task} (work : e.work = .task u) : haltedErrand (some e) = some e := by
  obtain ⟨_, _, _, _, _⟩ := e; cases work; rfl

theorem haltedErrand_of_sweep {e : Errand} (work : e.work = .sweep) : haltedErrand (some e) = some e := by
  obtain ⟨_, _, _, _, _⟩ := e; cases work; rfl

theorem taskInFlight_some {u : Task} (task : s.taskInFlight = some u) :
    ∃ (e : Errand) (v : Task), s.transport.errand = some e ∧ e.work = .task v ∧ u = { v with dest := e.dest } := by
  unfold State.taskInFlight at task
  split at task
  · cases task
    exact ⟨_, _, by assumption, rfl, rfl⟩
  · cases task

theorem faultBay_of_task {u : Task} (task : s.taskInFlight = some u) : s.faultBay = u.bay := by
  obtain ⟨e, v, errand, work, -⟩ := taskInFlight_some task
  rw [faultBay_eq, errand]
  simp only [work, task, Option.bind_some]

/-- The giving of a cause to a docket, by what it had. -/
theorem giveCause_cases (r : Docket) (c : Cause) (now : Nat) :
    (r.cause = .none → (r.giveCause c now).cause = c ∧ (r.giveCause c now).verdict = some .reject)
    ∧ (r.cause ≠ .none → r.giveCause c now = r) :=
  ⟨fun none => by simp [Docket.giveCause, none], fun some => by simp [Docket.giveCause, some]⟩

/-- The drop of the disc of the task in flight. -/
theorem discFalls_task {u : Task} {e : Errand} {r : Docket} (on : s.sensor .discPresent = true)
    (carrying : s.transport.carrying = true) (task : s.taskInFlight = some u) (docket : s.docket u.docket = some r)
    (errand : s.transport.errand = some e) (held : e.held = true)
    (state : s.transport.state = .busy ∨ s.transport.state = .homing ∨ s.transport.state = .sweeping ∨ s.transport.state = .free) :
    exec (.sensorChange .discPresent false) s = .next (conclude (dropFault none (discGone s)))
    ∧ (discGone s).taskInFlight = some u ∧ (discGone s).docket u.docket = some r := by
  rw [exec_discFalls on carrying state, if_pos (by simp [State.carriesForErrand, errand, held])]
  exact ⟨rfl, task, docket⟩

/-- A drop with no docket lost: the transport halts, and of the rest only the tower and the fault record change. -/
theorem transportFault_discGone (s : State) :
    (transportFault .drop (discGone s)).transport.state = .halted ∧ (transportFault .drop (discGone s)).transport.carrying = false
    ∧ (transportFault .drop (discGone s)).transport.lift.duty = 0 ∧ (transportFault .drop (discGone s)).transport.swing = none
    ∧ (transportFault .drop (discGone s)).transport.errand = haltedErrand s.transport.errand
    ∧ (transportFault .drop (discGone s)).transport.queue = s.transport.queue
    ∧ (transportFault .drop (discGone s)).regs.halted = true
    ∧ (s.tower.state = .running → (transportFault .drop (discGone s)).tower.state = .halted)
    ∧ s.sameWork (transportFault .drop (discGone s)) ∧ (transportFault .drop (discGone s)).bays = s.bays
    ∧ (transportFault .drop (discGone s)).bins = s.bins ∧ (transportFault .drop (discGone s)).printer = s.printer
    ∧ (s.faults.first = none → (transportFault .drop (discGone s)).faults.first = some
        { code := .drop, bay := s.faultBay, docket := s.taskInFlight.map (·.docket), time := s.tower.time }) := by
  obtain ⟨halted, empty, duty, swing, work, queue, cause, tower, faults⟩ := transportFault_halts .drop (discGone s)
  refine ⟨halted, by rw [empty]; simp, duty, swing, by rw [work]; simp, by rw [queue]; simp, cause,
    fun running => tower (by simpa using running), ⟨by simp, by simp⟩, by simp, by simp, by simp, fun first => ?_⟩
  rw [faults, FaultRecord.after_of_none (by simpa using first)]
  rfl

/-- With no task in hand, a move of the sweep or nothing is. -/
theorem noTask_of_sweep (sweep : ∀ e, s.transport.errand = some e → e.work = .sweep) :
    s.taskInFlight = none ∧ s.faultBay = none ∧ haltedErrand s.transport.errand = s.transport.errand := by
  unfold State.faultBay State.taskInFlight haltedErrand
  rcases errand : s.transport.errand with _ | ⟨_ | _ | _, _, _, _, _⟩
  case some.task => exact absurd (sweep _ errand) (by simp)
  case some.ended => exact absurd (sweep _ errand) (by simp)
  all_goals exact ⟨rfl, rfl, rfl⟩

theorem dropFault_of_no_task (none : s.taskInFlight = none) (place : Option Place) :
    dropFault place s = transportFault .drop s := by
  simp [dropFault, none]

/-- Settles O32: the drop of the disc in hand, of one that belongs to no docket, of one with no task, and at the printer. -/
theorem discsDropped : Obligations.DiscsDropped := by
  refine ⟨fun u e r s on carrying task docket errand held state first sound => ?_,
    fun u e s on carrying task errand held state => ?_, fun s on carrying sweep state => ?_,
    fun u r s timer phase task docket => ?_⟩
  · obtain ⟨falls, task', docket'⟩ := discFalls_task on carrying task docket errand held state
    obtain ⟨halted, empty, duty, swing, cause, tower, jobs, bins, board⟩ := dropFault_halts task' none
    have lost := dropFault_docket task' docket' none
    have entry := dropFault_first task' first sound none
    refine ⟨_, falls, jobs, bins, board, halted, empty, duty, swing, cause, tower, ⟨_, entry, rfl, rfl, rfl⟩,
      _, lost, rfl, rfl, rfl, rfl, fun none => (giveCause_cases r .dropped _).1 none, fun some => ?_⟩
    rw [(giveCause_cases r .dropped _).2 some]
  · have kept : haltedErrand s.transport.errand = s.transport.errand := by
      obtain ⟨e', v, errand', work, -⟩ := taskInFlight_some task
      rw [errand', haltedErrand_of_task work]
    obtain ⟨halted, empty, duty, swing, work, queue, cause, tower, same, bays, bins, printer, first⟩ := transportFault_discGone s
    refine ⟨_, ?_, halted, empty, duty, swing, work.trans kept, queue, cause, tower, same, bays, bins, printer, fun none => ?_⟩
    · rw [exec_discFalls on carrying state, if_neg (by simp [State.carriesForErrand, errand, held])]
    · rw [first none, faultBay_of_task task, task]; rfl
  · obtain ⟨noTask, noBay, kept⟩ := noTask_of_sweep sweep
    obtain ⟨halted, empty, duty, swing, work, queue, cause, tower, same, bays, bins, printer, first⟩ := transportFault_discGone s
    refine ⟨_, ?_, halted, empty, duty, swing, work.trans kept, cause, tower, same, bays, bins, printer, fun none => ?_⟩
    · rw [exec_discFalls on carrying state, dropFault_of_no_task (by exact noTask), ite_self]
    · rw [first none, noBay, noTask]; rfl
  · obtain ⟨halted, -, -, -, cause, -⟩ := dropFault_halts task (some .arm)
    have lost := dropFault_docket task docket (some .arm)
    refine ⟨_, if_pos ⟨Option.isSome_iff_ne_none.mpr timer, phase⟩, halted, cause, _, lost, rfl, rfl, rfl, ?_⟩
    by_cases none : r.cause = .none
    · rw [if_pos none]; exact ((giveCause_cases r .dropped _).1 none).1
    · rw [if_neg none, (giveCause_cases r .dropped _).2 none]

end Sys2Proof.Machine
end

section
/-! PROOFS. What a GRIP does that holds (O37). -/

namespace Sys2Proof.Machine

variable {s t : State}

/-- The arm once a GRIP has read a hold. -/
def gripped (s : State) : State :=
  { s with transport := { s.transport with
      gripper := none, gripTimer := none, gripperClosed := true, carrying := true
      errand := s.transport.errand.map fun e => { e with held := true } } }

/-- A GRIP in its phase ends, with a hold or a miss. -/
theorem exec_gripComplete (gripper : s.transport.gripper = some .grip) (phase : s.transport.phase = .grip) :
    exec .gripComplete s = .next (conclude (
      if s.sensor .discPresent = true then
        gripHold { s with transport := { s.transport with gripper := none, gripTimer := none, gripperClosed := true } }
      else gripMiss { s with transport := { s.transport with gripper := none, gripTimer := none, gripperClosed := true } })) := by
  have ends : exec .gripComplete s = .next (conclude (endGrip s)) := if_pos gripper
  rw [ends]
  simp only [endGrip, phase]

theorem gripHold_of_input {u : Task} {e : Errand} {i : InputBin} (errand : s.transport.errand = some e) (work : e.work = .task u)
    (source : e.source = some (.input i)) :
    gripHold { s with transport := { s.transport with gripper := none, gripTimer := none, gripperClosed := true } }
      = startMove (s.position (.input i)) (setPhase .raise (pickSuccess u (gripped s))) := by
  obtain ⟨_, _, _, _, _⟩ := e
  cases work; cases source
  simp only [gripHold, gripped, errand]
  rfl

theorem gripHold_of_other {u : Task} {e : Errand} (errand : s.transport.errand = some e) (work : e.work = .task u)
    (source : ∀ i, e.source ≠ some (.input i)) :
    gripHold { s with transport := { s.transport with gripper := none, gripTimer := none, gripperClosed := true } }
      = beginLeg .place (gripOut u (gripped s)) := by
  obtain ⟨_, src, _, _, _⟩ := e
  cases work
  rcases src with _ | (i | _ | _ | _)
  case some.input => exact absurd rfl (source i)
  all_goals
    simp only [gripHold, gripped, errand]
    rfl

theorem pickSuccess_of_some {u : Task} {r : Docket} {j : Job} (docket : s.docket u.docket = some r) (job : s.job r.slot = some j) :
    pickSuccess u s =
      (s.setDocket u.docket (some { r with
        state := .inbound, ordinal := some j.nextOrdinal, place := some .arm, picked := some s.tower.time })).setJob r.slot
          (some { j with nextOrdinal := j.nextOrdinal + 1 }) := by
  simp [pickSuccess, docket, job]

/-- The docket of a disc that the arm has taken out of a bay or off the printer. -/
def takenOut (d : DocketNo) (s : State) : State :=
  s.updDocket d fun r => { r with place := some .arm, state := match r.state with | .rejectWait => .rejectOutbound | _ => .outbound }

@[simp] theorem takenOut_frame (d : DocketNo) (s : State) :
    (takenOut d s).jobs = s.jobs ∧ (takenOut d s).bays = s.bays ∧ (takenOut d s).printer = s.printer
    ∧ (takenOut d s).transport = s.transport ∧ (takenOut d s).tower = s.tower := by
  simp [takenOut]

@[simp] theorem takenOut_bay (d : DocketNo) (s : State) (b : BayNo) : (takenOut d s).bay b = s.bay b := State.bay_congr (by simp) b

theorem takenOut_docket {d : DocketNo} {r : Docket} (docket : s.docket d = some r) :
    (takenOut d s).docket d = some { r with
      place := some .arm, state := if r.state = .rejectWait then .rejectOutbound else .outbound } := by
  rw [takenOut, updDocket_docket, if_pos rfl, docket]
  cases state : r.state <;> simp [state]

theorem gripOut_of_bay {u : Task} {b : BayNo} (source : u.source = .bay b) (s : State) :
    gripOut u s = askTrayClose b ((takenOut u.docket s).setBay b { (takenOut u.docket s).bay b with docket := none }) := by
  unfold gripOut
  rw [source]
  rfl

theorem gripOut_of_printer {u : Task} (source : u.source = .printer) (s : State) :
    gripOut u s = { takenOut u.docket s with printer := { (takenOut u.docket s).printer with docket := none } } := by
  unfold gripOut
  rw [source]
  rfl

theorem gripOut_dockets (u : Task) (s : State) : (gripOut u s).dockets = (takenOut u.docket s).dockets := by
  cases source : u.source with
  | bay b => rw [gripOut_of_bay source]; simp
  | printer => rw [gripOut_of_printer source]
  | input i => simp [gripOut, source, takenOut] <;> rfl
  | output o => simp [gripOut, source, takenOut] <;> rfl

/-- What a hold leaves whatever the station. -/
theorem gripHold_keeps {u v : State} (h : v.pending = u.pending ∧ v.tower = u.tower ∧ v.regs = u.regs ∧ v.board = u.board
      ∧ v.bins = u.bins ∧ v.sensors = u.sensors ∧ v.faults = u.faults) :
    u.sameHost v ∧ v.bins = u.bins ∧ v.sensors = u.sensors ∧ v.faults = u.faults := by
  obtain ⟨pending, tower, regs, board, bins, sensors, faults⟩ := h
  exact ⟨⟨pending, tower, regs, board⟩, bins, sensors, faults⟩

/-- The place leg of the task whose disc has been gripped. -/
theorem beginLeg_gripOut_transport {u : Task} {e : Errand} (errand : s.transport.errand = some e) :
    (beginLeg .place (gripOut u (gripped s))).transport = { (gripped s).transport with
      phase := .lift .place, lift := s.transport.lift.moveTo s.cal (s.position e.dest) } := by
  have held : (gripOut u (gripped s)).transport.errand = some { e with held := true } := by simp [gripped, errand]
  have tower : (gripOut u (gripped s)).tower = s.tower := by simp [gripped]
  rw [beginLeg_transport held rfl, State.cal_congr tower, State.position_congr tower]
  simp [gripped]

/-- Settles O37: the hold at an input bin, at a bay and at the printer. -/
theorem gripHolds : Obligations.GripHolds := by
  intro u e r s gripper phase on errand work source docket
  by_cases input : ∃ i, u.source = .input i
  · obtain ⟨i, input⟩ := input
    have held := gripHold_of_input errand work (source.trans (congrArg some input))
    refine ⟨_, exec_gripComplete gripper phase, ?_⟩
    rw [if_pos on, held]
    obtain ⟨host, bins, sensors, faults⟩ := gripHold_keeps
      (u := s) (v := startMove (s.position (.input i)) (setPhase .raise (pickSuccess u (gripped s)))) (by simp [gripped])
    refine ⟨host, bins, sensors, faults, by simp [startMove, setLift, setPhase, gripped],
      by simp [startMove, setLift, setPhase, gripped], by simp [startMove, setLift, setPhase, gripped], fun k j here job => ?_,
      fun b here => ?_, fun here => ?_⟩
    · have success := pickSuccess_of_some (s := gripped s) docket job
      refine ⟨?_, ?_, rfl, by simp [gripped], by simp [gripped]⟩
      · rw [startMove_docket, setPhase_docket, success, State.docket_setJob, State.docket_setDocket_self]
        rfl
      · rw [startMove_job, setPhase_job, success, State.job_setJob_self]
    · simp [input] at here
    · simp [input] at here
  · have held := gripHold_of_other errand work (u := u) (fun i h => input ⟨i, by simpa [source] using h⟩)
    have arm := beginLeg_gripOut_transport (u := u) errand
    have out : (beginLeg .place (gripOut u (gripped s))).docket u.docket = some { r with
        place := some .arm, state := if r.state = .rejectWait then .rejectOutbound else .outbound } := by
      rw [beginLeg_docket, State.docket_congr (gripOut_dockets ..)]
      exact takenOut_docket docket
    refine ⟨_, exec_gripComplete gripper phase, ?_⟩
    rw [if_pos on, held]
    obtain ⟨host, bins, sensors, faults⟩ := gripHold_keeps (u := s) (v := beginLeg .place (gripOut u (gripped s))) (by simp [gripped])
    refine ⟨host, bins, sensors, faults, by rw [arm]; rfl, by rw [arm]; rfl, by rw [arm]; rfl, fun i j here => (input ⟨i, here⟩).elim,
      fun b here => ⟨out, ?_, fun x other => ?_, ?_, ?_, by rw [arm], fun opened => ?_⟩,
      fun here => ⟨out, ?_, ?_, ?_, by rw [arm]⟩⟩
    · rw [beginLeg_bay, gripOut_of_bay here, askTrayClose_docketOf]; simp
    · rw [beginLeg_bay, gripOut_of_bay here, askTrayClose_bay_other other, State.bay_setBay, if_neg other]; simp [gripped]
    · rw [gripOut_of_bay here]; simp [gripped]
    · rw [gripOut_of_bay here]; simp [gripped]
    · rw [State.hasReq_congr (beginLeg_bay ..), beginLeg_bay, gripOut_of_bay here]
      exact askTrayClose_closes (by simpa [gripped] using opened)
    · rw [gripOut_of_printer here]; simp
    · rw [gripOut_of_printer here]; simp [gripped]
    · rw [gripOut_of_printer here]; simp [gripped]

end Sys2Proof.Machine
end

section
/-! PROOFS. The reading of the board (O12) and the order in which its cards are acted on (O14). -/

namespace Sys2Proof.Machine

variable {s t : State}

/-! ### Sorting by a key -/

section Sorting

variable {α : Type} (key : α → Nat)

theorem insertBy_perm (x : α) (l : List α) : (insertBy key x l).Perm (x :: l) := by
  induction l with
  | nil => exact List.Perm.refl _
  | cons y t ih =>
    unfold insertBy
    split
    · exact List.Perm.refl _
    · exact (ih.cons y).trans (List.Perm.swap x y t)

theorem insertBy_sorted (x : α) {l : List α} (h : l.Pairwise fun a b => key a ≤ key b) :
    (insertBy key x l).Pairwise fun a b => key a ≤ key b := by
  induction l with
  | nil => exact List.pairwise_singleton _ _
  | cons y t ih =>
    obtain ⟨first, rest⟩ := List.pairwise_cons.mp h
    unfold insertBy
    split
    next less =>
      refine List.pairwise_cons.mpr ⟨fun z hz => ?_, h⟩
      rcases List.mem_cons.mp hz with rfl | hz
      · omega
      · exact Nat.le_trans (Nat.le_of_lt less) (first z hz)
    next more =>
      refine List.pairwise_cons.mpr ⟨fun z hz => ?_, ih rest⟩
      rcases List.mem_cons.mp ((insertBy_perm key x t).mem_iff.mp hz) with rfl | hz
      · omega
      · exact first z hz

theorem sortBy_spec (l : List α) : (sortBy key l).Perm l ∧ (sortBy key l).Pairwise fun a b => key a ≤ key b := by
  have grows : ∀ (l acc : List α), (acc.Pairwise fun a b => key a ≤ key b) →
      (l.foldl (fun acc x => insertBy key x acc) acc).Perm (l ++ acc)
      ∧ (l.foldl (fun acc x => insertBy key x acc) acc).Pairwise fun a b => key a ≤ key b := by
    intro l
    induction l with
    | nil => exact fun acc h => ⟨List.Perm.refl _, h⟩
    | cons x t ih =>
      intro acc h
      obtain ⟨perm, sorted⟩ := ih _ (insertBy_sorted key x h)
      exact ⟨perm.trans (((insertBy_perm key x acc).append_left t).trans List.perm_middle), sorted⟩
  obtain ⟨perm, sorted⟩ := grows l [] List.Pairwise.nil
  exact ⟨by rwa [List.append_nil] at perm, sorted⟩

end Sorting

/-! ### The anchor and the end of a scan (O12) -/

theorem anchorBad_iff (count addr : Nat) : anchorBad count addr = true ↔ ¬ (1 ≤ count ∧ count ≤ 64 ∧ addr % 4 = 0) := by
  simp only [anchorBad, Bool.or_eq_true, decide_eq_true_eq, bne_iff_ne]
  omega

theorem takeAnchor_of_good {c : Scan} {bytes : List Byte}
    (good : 1 ≤ field bytes 0 2 ∧ field bytes 0 2 ≤ 64 ∧ field bytes 8 8 % 4 = 0) (s : State) :
    takeAnchor c bytes s = setScan (some { c with
      count := field bytes 0 2, statusAddr := field bytes 8 8
      phase := .table (Reading.start (c.base + 64) (128 * field bytes 0 2)) }) s := by
  unfold takeAnchor
  exact if_neg fun bad => (anchorBad_iff ..).mp bad good

theorem takeAnchor_of_bad {c : Scan} {bytes : List Byte}
    (bad : ¬ (1 ≤ field bytes 0 2 ∧ field bytes 0 2 ≤ 64 ∧ field bytes 8 8 % 4 = 0)) (s : State) :
    takeAnchor c bytes s = abandonScan (reportFault .badAnchor none none s) := by
  unfold takeAnchor
  exact if_pos ((anchorBad_iff ..).mpr bad)

/-- An outstanding fetch once a line's fetches are orphaned. -/
theorem orphanLine_fetch (id : LineId) (s : State) (k : FetchNo) :
    (orphanLine id s).fetch k = (s.fetch k).map fun f => if f.line = id then { f with orphan := true } else f := by
  show (s.engine.slots.map _)[k.val] = (s.engine.slots[k.val]).map _
  exact Vector.getElem_map ..

theorem abandonScan_of_some {c : Scan} (scan : s.board.scan = some c) :
    abandonScan s = startThread [.endScan false]
      (orphanLine .board (setLine .board none (setScan (some { c with phase := .acting [] }) s))) := by
  simp [abandonScan, scan]

theorem runTodo_endScan {c : Scan} (scan : s.board.scan = some c) (complete : Bool) :
    runTodo (.endScan complete) s =
      if complete = true then ((adoptStatus c s).finalWrites ++ [.nextScan], adoptStatus c s) else (s.finalWrites ++ [.nextScan], s) := by
  simp only [runTodo, scan]
  split <;> rfl

theorem adoptStatus_keeps (c : Scan) (s : State) :
    (adoptStatus c s).board = { s.board with statusAddr := some c.statusAddr, scanned := true }
    ∧ (adoptStatus c s).jobs = s.jobs := by
  unfold adoptStatus
  dsimp only
  split <;> simp

theorem runTodo_nextScan_of_none (none : s.finalWrites = []) : runTodo .nextScan s = ([], nextScan s) := by
  simp [runTodo, none]

theorem nextScan_of_quiet (quiet : s.board.scanPending = false ∨ s.boardAddr = 0) :
    nextScan s = { s with board := { s.board with scan := none, scanPending := false } } := by
  unfold nextScan
  dsimp only
  split
  next pending =>
    have zero : s.boardAddr = 0 := quiet.resolve_left (by simp [pending])
    exact requestScan_of_zero zero
  next idle =>
    have off : s.board.scanPending = false := by simpa using idle
    simp only [setScan, off]

theorem nextScan_of_pending (pending : s.board.scanPending = true) (addr : s.boardAddr ≠ 0) :
    nextScan s = beginScan { s with board := { s.board with scan := none, scanPending := false } } := by
  unfold nextScan
  dsimp only
  rw [if_pos pending]
  exact requestScan_of_idle addr rfl

/-! ### The ranking of COPY cards (O12) -/

theorem refusal_writes (base : Nat) (c : Fin 64 × CopyCard) (s : State) :
    (match refusal c.2 s with | .none => [] | reason => refuseCard base c.1 reason)
      = if refusal c.2 s = .none then [] else refuseCard base c.1 (refusal c.2 s) := by
  split
  next none => rw [if_pos none]
  next other => rw [if_neg other]

/-- The ranking key puts priority 3 first, then the lower ticket, then the lower index. -/
theorem rankKey_le {x y : Fin 64 × CopyCard} (hx : x.2.priority < 4 ∧ x.2.ticket < 2 ^ 32) (hy : y.2.priority < 4 ∧ y.2.ticket < 2 ^ 32)
    (h : rankKey x ≤ rankKey y) :
    y.2.priority < x.2.priority ∨ (y.2.priority = x.2.priority ∧
      (x.2.ticket < y.2.ticket ∨ (x.2.ticket = y.2.ticket ∧ x.1 ≤ y.1))) := by
  unfold rankKey at h
  obtain ⟨px, tx⟩ := hx
  obtain ⟨py, ty⟩ := hy
  have := x.1.isLt
  have := y.1.isLt
  rw [Fin.le_def]
  omega

theorem runAct_copies (base : Nat) (cards : List (Fin 64 × CopyCard)) (s : State) :
    runAct base (.copies cards) s =
      (cards.flatMap fun c => if refusal c.2 s = .none then [] else refuseCard base c.1 (refusal c.2 s),
       (sortBy rankKey (cards.filter fun c => refusal c.2 s == .none)).map fun c => .accept c.1 c.2, s) := by
  have writes := funext fun c => refusal_writes base c s
  exact congrArg (fun f => (cards.flatMap f, _, s)) writes

/-- Settles O12: the anchor, the abandoned scan, the end of a scan, the snapshot, and the ranking of its COPY cards. -/
theorem boardRead : Obligations.BoardRead := by
  refine ⟨fun c bytes s scan => ⟨fun good => takeAnchor_of_good good s, fun bad => ⟨takeAnchor_of_bad bad s, by simp⟩⟩,
    fun c s scan => ⟨_, rfl, ?_, fun k => ?_⟩, fun c s scan => ?_, fun base addr count r bytes s scan data => ?_,
    fun base cards s bounds => ?_⟩
  · rw [abandonScan_of_some scan]; rfl
  · rw [abandonScan_of_some scan]
    exact orphanLine_fetch .board _ k
  · intro ended fresh
    refine ⟨runTodo_endScan scan false, ⟨adoptStatus c s, runTodo_endScan scan true, adoptStatus_keeps c s⟩,
      fun some => by simp [runTodo, some], fun none quiet => ?_, fun none pending addr => ?_⟩
    · rw [runTodo_nextScan_of_none none, nextScan_of_quiet quiet]
    · rw [runTodo_nextScan_of_none none, nextScan_of_pending pending addr]; rfl
  · have ends : snapshotEnds s = startThread [.nextAct] (setScan (some
        { base := base, statusAddr := addr, count := count, phase := .acting (s.scanActs (parseTable bytes count)) }) s) := by
      simp [snapshotEnds, scan, data]
    exact congrArg (fun u => Host.Outcome.next (conclude u)) ends
  · obtain ⟨perm, sorted⟩ := sortBy_spec rankKey (cards.filter fun c => refusal c.2 s == .none)
    refine ⟨_, runAct_copies base cards s, perm, sorted.imp_of_mem fun hx hy le => rankKey_le ?_ ?_ le⟩
    · exact bounds _ (List.mem_filter.mp (perm.mem_iff.mp hx)).1
    · exact bounds _ (List.mem_filter.mp (perm.mem_iff.mp hy)).1

/-! ### The order of the acts (O14) -/

theorem cardAct_of_taken {c : Card} (taken : c.state = 2) (s : State) :
    s.cardAct c = match s.slotOfCard c.index with
      | some j => (1, if c.cancel then some (.cancelJob j) else none)
      | none => (2, some (.orphan c.index c.good c.reject)) := by
  simp [State.cardAct, taken, cardTaken] <;> rfl

theorem cardAct_of_posted {c : Card} (posted : c.state = 1) (s : State) :
    s.cardAct c = match s.slotOfCard c.index with
      | some _ => (3, some (.retake c.index))
      | none => if c.cancel then (4, some (.cancelPosted c.index)) else if c.kind = 2 then (6, none)
        else if c.kind = 1 then (7, none) else (5, some (.badKind c.index)) := by
  simp [State.cardAct, posted, cardTaken] <;> rfl

/-- An act is of the class of its card. -/
theorem cardAct_rank {c : Card} {s : State} {a : ScanAct} (act : (s.cardAct c).2 = some a) : a.rank = (s.cardAct c).1 := by
  unfold State.cardAct at act ⊢
  (repeat' split at act) <;> simp_all <;> subst_vars <;> rfl

/-- The acts of one class of a snapshot. -/
def State.actsOfClass (s : State) (cards : List Card) : Nat → List ScanAct
  | 6 => (sortBy (fun c : Card => c.copy.ticket * 64 + c.index.val) (s.classCards cards 6)).map fun c => .service c.index c.service
  | 7 => [.copies ((s.classCards cards 7).map fun c => (c.index, c.copy))]
  | n => s.classActs cards n

theorem scanActs_eq (s : State) (cards : List Card) :
    s.scanActs cards = ([1, 2, 3, 4, 5, 6, 7].map (s.actsOfClass cards)).flatten := by
  simp [State.scanActs, State.actsOfClass]

theorem classActs_eq (s : State) (cards : List Card) (n : Nat) :
    s.classActs cards n = (cards.filter fun c => (s.cardAct c).1 == n).filterMap fun c => (s.cardAct c).2 := by
  rw [State.classActs, List.filterMap_filter]
  congr 1
  funext c
  simp only [beq_iff_eq]

theorem actsOfClass_rank (s : State) (cards : List Card) (n : Nat) : ∀ a ∈ s.actsOfClass cards n, a.rank = n := by
  intro a mem
  unfold State.actsOfClass at mem
  split at mem
  · obtain ⟨c, -, rfl⟩ := List.mem_map.mp mem; rfl
  · rw [List.mem_singleton.mp mem]; rfl
  · rw [classActs_eq] at mem
    obtain ⟨c, card, act⟩ := List.mem_filterMap.mp mem
    rw [cardAct_rank act]
    simpa using (List.mem_filter.mp card).2

section Blocks

variable {f : Nat → List ScanAct} (own : ∀ n, ∀ a ∈ f n, a.rank = n)

include own

theorem blocks_pairwise {l : List Nat} (sorted : l.Pairwise (· ≤ ·)) : ((l.map f).flatten).Pairwise fun a b => a.rank ≤ b.rank := by
  induction l with
  | nil => exact List.Pairwise.nil
  | cons n l ih =>
    obtain ⟨first, rest⟩ := List.pairwise_cons.mp sorted
    rw [List.map_cons, List.flatten_cons]
    refine List.pairwise_append.mpr ⟨?_, ih rest, fun a ha b hb => ?_⟩
    · exact List.pairwise_of_forall_mem_list fun a ha b hb => by rw [own n a ha, own n b hb]
    · obtain ⟨block, hblock, hb⟩ := List.mem_flatten.mp hb
      obtain ⟨m, hm, rfl⟩ := List.mem_map.mp hblock
      rw [own n a ha, own m b hb]
      exact first m hm

theorem blocks_filter {l : List Nat} (once : l.Nodup) {n : Nat} :
    ((l.map f).flatten).filter (fun a => a.rank == n) = if n ∈ l then f n else [] := by
  induction l with
  | nil => rfl
  | cons m l ih =>
    obtain ⟨fresh, rest⟩ := List.nodup_cons.mp once
    rw [List.map_cons, List.flatten_cons, List.filter_append, ih rest]
    by_cases same : n = m
    · subst same
      have all : (f n).filter (fun a => a.rank == n) = f n := List.filter_eq_self.mpr fun a ha => by simp [own n a ha]
      simp [all, fresh]
    · have none : (f m).filter (fun a => a.rank == n) = [] :=
        List.filter_eq_nil_iff.mpr fun a ha => by simpa [own m a ha] using Ne.symm same
      simp [none, same]

end Blocks

/-- Settles O14: the class of each card, and the acts class by class. -/
theorem cardOrder : Obligations.CardOrder := by
  refine ⟨fun c s => ?_, fun cards s => ?_⟩
  · refine ⟨fun j taken slot => ?_, fun taken slot => ?_, fun posted slot => ?_, fun posted slot cancel => ?_,
      fun posted slot cancel copy service => ?_, fun posted slot cancel service => ?_, fun posted slot cancel copy => ?_,
      fun notPosted notTaken => ?_⟩
    · rw [cardAct_of_taken taken, slot]
    · rw [cardAct_of_taken taken, slot]
    · obtain ⟨j, slot⟩ := Option.ne_none_iff_exists'.mp slot
      rw [cardAct_of_posted posted, slot]
    · simp [cardAct_of_posted posted, slot, cancel]
    · simp [cardAct_of_posted posted, slot, cancel, copy, service]
    · simp [cardAct_of_posted posted, slot, cancel, service]
    · simp [cardAct_of_posted posted, slot, cancel, copy]
    · simp [State.cardAct, cardTaken, notPosted, notTaken]
  · intro ofClass
    have own := actsOfClass_rank s cards
    have block (n : Nat) (mem : n ∈ [1, 2, 3, 4, 5, 6, 7]) :
        (s.scanActs cards).filter (fun a => a.rank == n) = s.actsOfClass cards n := by
      rw [scanActs_eq, blocks_filter own (by decide), if_pos mem]
    refine ⟨?_, fun n low high => ?_, ?_, block 7 (by decide), fun a mem => ?_⟩
    · rw [scanActs_eq]
      exact blocks_pairwise own (by decide)
    · rw [block n (by simp; omega), ← classActs_eq]
      unfold State.actsOfClass
      split
      · omega
      · omega
      · rfl
    · obtain ⟨perm, sorted⟩ := sortBy_spec (fun c : Card => c.copy.ticket * 64 + c.index.val) (s.classCards cards 6)
      refine ⟨_, perm, sorted.imp fun {a b} le => ?_, block 6 (by decide)⟩
      have := a.index.isLt
      have := b.index.isLt
      rw [Fin.le_def]
      omega
    · rw [scanActs_eq] at mem
      obtain ⟨acts, hblock, ha⟩ := List.mem_flatten.mp mem
      obtain ⟨n, hn, rfl⟩ := List.mem_map.mp hblock
      rw [own n a ha]
      simp at hn
      omega

end Sys2Proof.Machine
end

section
/-! PROOFS. What is written to a card (O13), the COPY cards (O15, O16) and the plain services (O17). -/

namespace Sys2Proof.Machine

variable {s t : State}

/-! ### Cards written (O13) -/

theorem le_one (n : Nat) : le 1 n = [BitVec.ofNat 8 n] := by
  simp [le]

theorem BitVec32_succ_toNat (v : BitVec 32) : (v + 1).toNat = (v.toNat + 1) % 2 ^ 32 := by
  simp [BitVec.toNat_add]

theorem writeTally_eq (base : Nat) (s : State) :
    writeTally base s = raiseAttention .cardDone
      (post (plainWrite (base + 16) (le 4 ((s.board.tally.toNat + 1) % 2 ^ 32)))
        { s with board := { s.board with tally := s.board.tally + 1 } }) := by
  rw [← BitVec32_succ_toNat]; rfl

theorem raiseAttention_out (a : Attention) (s : State) :
    (raiseAttention a s).out = s.out ++ (if s.regs.attention a = false ∧ s.regs.irqEn = true then [.msi] else []) := by
  cases set : s.regs.attention a with
  | true => simp [raiseAttention, set]
  | false => rw [raiseAttention_of_clear set]; simp

theorem answerCard_of_reason (base : Nat) (i : Fin 64) {r : Reason} (refused : r ≠ .none) :
    answerCard base i r = refuseCard base i r := by
  cases r with
  | none => exact absurd rfl refused
  | _ => rfl

/-- Settles O13. -/
theorem cardsWritten : Obligations.CardsWritten := by
  refine ⟨fun base good reject i s => ⟨rfl, rfl, rfl, rfl⟩, fun base s => ?_, fun base i r => ⟨fun ok => ?_, fun refused => ?_⟩⟩
  · refine ⟨_, rfl, ?_⟩
    rw [writeTally_eq]
    refine ⟨by simp, by simp [plainWrite], by simp [Regs.setAttention], ?_, by simp, by simp, by simp, by simp,
      by simp⟩
    rw [raiseAttention_out]
    simp [Regs.attention]
  · subst ok; rfl
  · rw [answerCard_of_reason base i refused, ← le_one]
    rfl

/-! ### The tests of a COPY card (O15) -/

theorem mediaClassOf_eq_none_iff (n : Nat) : mediaClassOf n = none ↔ ¬ n ≤ 2 := by
  unfold mediaClassOf
  split <;> simp_all
  omega

theorem badImage_iff (c : CopyCard) :
    badImage c = true ↔ ¬ (1 ≤ c.totalSectors ∧ c.totalSectors ≤ 16777216 ∧ c.extentCount ≠ 0 ∧ 1 ≤ c.speed ∧ c.speed ≤ 16
      ∧ c.policy ≤ 1 ∧ c.linkLimit ≤ 15) := by
  simp only [badImage, Bool.or_eq_true, decide_eq_true_eq]
  omega

theorem badAlign_iff (c : CopyCard) :
    badAlign c = true ↔ ¬ (4 ∣ c.extentTable ∧ 4 ∣ c.signatureTable ∧ 4 ∣ c.reportArea ∧ (c.bandCount ≠ 0 → 4 ∣ c.bandTable)) := by
  simp only [badAlign, Bool.or_eq_true, Bool.and_eq_true, bne_iff_ne, Nat.dvd_iff_mod_eq_zero]
  tauto

theorem copyCommand_of_refused {i : Fin 64} {c : CopyCard} {r : Reason} (slot : s.slotOfCard i = none)
    (refused : refusal c s = r) (other : r ≠ .none) :
    copyCommand i c s = startThread (answerCard s.cardBase i r) s := by
  have one : copyOne s.cardBase i c s = (refuseCard s.cardBase i r, s) := by
    unfold copyOne
    rw [slot, refused]
    cases r with
    | none => exact absurd rfl other
    | _ => rfl
  rw [copyCommand, one, answerCard_of_reason _ _ other]

/-- Settles O15: the tests in the order of R170, the first that fails deciding. -/
theorem copyRefusals : Obligations.CopyRefusals := by
  intro i c s slot copiesOk classOk maskOk imageOk alignOk refused
  have gives {r : Reason} (e : refusal c s = r) (other : r ≠ .none) : refused r :=
    congrArg (fun u => Host.Outcome.next (conclude u)) (copyCommand_of_refused slot e other)
  have copies : (c.copies = 0 ∨ 9999 < c.copies) ↔ ¬ copiesOk := by
    show _ ↔ ¬ (1 ≤ c.copies ∧ c.copies ≤ 9999); omega
  have cls : mediaClassOf c.mediaClass = none ↔ ¬ classOk := mediaClassOf_eq_none_iff _
  have mask : (c.mask = 0 ∨ 4095 < c.mask.toNat) ↔ ¬ maskOk := by
    show _ ↔ ¬ (c.mask ≠ 0 ∧ c.mask.toNat < 2 ^ 12)
    rw [not_and_or, not_not, Nat.not_lt]
    rfl
  have image : badImage c = true ↔ ¬ imageOk := badImage_iff c
  have align : badAlign c = true ↔ ¬ alignOk := badAlign_iff c
  clear_value copiesOk classOk maskOk imageOk alignOk
  refine ⟨fun a => gives ?_ (by decide), fun ⟨a, b⟩ => gives ?_ (by decide), fun ⟨a, b, d⟩ => gives ?_ (by decide),
    fun ⟨a, b, d, e⟩ => gives ?_ (by decide), fun ⟨a, b, d, e, f⟩ => gives ?_ (by decide),
    fun ⟨a, b, d, e, f, g⟩ => gives ?_ (by decide), fun ⟨a, b, d, e, f, g, h⟩ => gives ?_ (by decide)⟩ <;>
    simp only [refusal, *, not_true_eq_false, not_false_eq_true, if_true, if_false]
  rw [if_neg (Nat.not_lt.mpr g)]

/-! ### A COPY card taken (O16) -/

/-- In an increasing list the first element that passes is the lowest. -/
theorem find?_lowest {α : Type} [LinearOrder α] {p : α → Bool} {l : List α} (sorted : l.Pairwise (· < ·)) {a : α} (mem : a ∈ l)
    (pass : p a = true) (lower : ∀ b, b < a → p b = false) : l.find? p = some a := by
  induction l with
  | nil => cases mem
  | cons b l ih =>
    obtain ⟨first, rest⟩ := List.pairwise_cons.mp sorted
    rcases List.mem_cons.mp mem with rfl | later
    · exact List.find?_cons_of_pos pass
    · rw [List.find?_cons_of_neg (by simp [lower b (first a later)])]
      exact ih rest later

theorem mem_allSlots (j : SlotNo) : j ∈ Config.allSlots := by revert j; decide

theorem freeJobSlot_of_lowest {j : SlotNo} (free : s.job j = none) (lower : ∀ k : SlotNo, k < j → s.job k ≠ none) :
    s.freeJobSlot = some j :=
  find?_lowest (by decide) (mem_allSlots j) (by simp [free]) fun k less => by
    simpa [Option.isSome_iff_ne_none] using lower k less

theorem freeJobSlot_of_full (full : ∀ j : SlotNo, s.job j ≠ none) : s.freeJobSlot = none :=
  List.find?_eq_none.mpr fun j _ => by simpa using full j

theorem copyCommand_of_passing {i : Fin 64} {c : CopyCard} (slot : s.slotOfCard i = none) (passes : refusal c s = .none) :
    copyCommand i c s = startThread (acceptCard s.cardBase i c s).1 (acceptCard s.cardBase i c s).2 := by
  simp [copyCommand, copyOne, slot, passes]

theorem copyCommand_of_held {i : Fin 64} {c : CopyCard} (slot : s.slotOfCard i ≠ none) :
    copyCommand i c s = startThread (retakeCard s.cardBase i) s := by
  obtain ⟨j, slot⟩ := Option.ne_none_iff_exists'.mp slot
  simp [copyCommand, copyOne, slot]

/-- What a card that passes its tests is known to hold. -/
theorem refusal_none {c : CopyCard} (passes : refusal c s = .none) :
    mediaClassOf c.mediaClass ≠ none ∧ 1 ≤ c.totalSectors ∧ c.policy ≤ 1 := by
  have image : badImage c ≠ true := by
    intro bad
    simp only [refusal, bad] at passes
    (repeat' split at passes) <;> simp_all
  have cls : mediaClassOf c.mediaClass ≠ none := by
    intro bad
    simp only [refusal, bad] at passes
    (repeat' split at passes) <;> simp_all
  have sound := not_not.mp (fun h => image ((badImage_iff c).mpr h))
  exact ⟨cls, sound.1, sound.2.2.2.2.2.1⟩

theorem newJob_mask (i : Fin 64) (c : CopyCard) (b : BayNo) : (newJob i c).mask.getLsbD b.val = c.mask.getLsbD b.val := by
  simp [newJob, BitVec.truncate, b.isLt]

theorem starvationOf_some {policy : Nat} (limit : Nat) (ok : policy ≤ 1) :
    starvationOf policy limit = some ((starvationOf policy limit).getD .abandon) := by
  interval_cases policy <;> rfl

/-- Settles O16. -/
theorem copyAccepted : Obligations.CopyAccepted := by
  intro i c s
  have gives {u : State} (e : copyCommand i c s = u) : exec (.copyCard i c) s = .next (conclude u) := by subst e; rfl
  refine ⟨fun slot passes j free lower => ⟨newJob i c, gives ?_, ?_⟩, fun slot passes full => gives ?_,
    fun slot => gives (copyCommand_of_held slot)⟩
  · rw [copyCommand_of_passing slot passes]
    simp only [acceptCard, freeJobSlot_of_lowest free lower]
    rfl
  · obtain ⟨cls, sectors, policy⟩ := refusal_none passes
    obtain ⟨m, cls⟩ := Option.ne_none_iff_exists'.mp cls
    refine ⟨rfl, rfl, rfl, rfl, rfl, by simp [newJob, cls], newJob_mask i c, rfl, starvationOf_some _ policy, by simp [newJob], rfl, ?_, ?_,
      rfl, rfl, rfl, rfl, rfl, rfl, rfl, rfl, rfl, rfl, rfl, rfl, rfl, rfl⟩
    · show 16 * ((c.totalSectors + 15) / 16 - 1) < c.totalSectors
      omega
    · show c.totalSectors ≤ 16 * ((c.totalSectors + 15) / 16)
      omega
  · rw [copyCommand_of_passing slot passes]
    simp only [acceptCard, freeJobSlot_of_full full]

/-! ### SET_TIMERS, CLEAR_FAULTS and a service that names no bay (O17) -/

theorem serve_eq {i : Fin 64} {f : State → Answer} {r : Reason} {u : State} (answer : f s = (r, u)) :
    serve i f s = startThread (answerCard s.cardBase i r) u := by
  simp [serve, answer]

theorem intervals_ok_iff (scan drain : Option Nat) :
    (scan.all scanIntervalOk = true ∧ drain.all drainOk = true)
      ↔ (∀ n, scan = some n → n = 0 ∨ (50 ≤ n ∧ n ≤ 10000)) ∧ (∀ n, drain = some n → 1 ≤ n ∧ n ≤ 1440) := by
  cases scan <;> cases drain <;> simp [scanIntervalOk, drainOk]

theorem onBay_of_outside {n : Nat} (outside : 12 ≤ n) (f : BayNo → State → Answer) (s : State) : onBay n f s = (.badService, s) :=
  dif_neg (Nat.not_lt.mpr outside)

/-- Settles O17. -/
theorem plainServices : Obligations.PlainServices := by
  refine ⟨fun i newScan newDrain s => ?_, fun i s => ?_, fun i n s outside => ?_⟩
  · intro scanOk drainOk
    have ok := intervals_ok_iff newScan newDrain
    refine ⟨fun bad => ?_, fun good => ⟨setDrain newDrain (setScanInterval newScan s), ?_, ?_⟩⟩
    · exact congrArg (fun u => Host.Outcome.next (conclude u)) (serve_eq (if_neg fun h => bad (ok.mp h)))
    · exact congrArg (fun u => Host.Outcome.next (conclude u)) (serve_eq (if_pos (ok.mpr good)))
    · cases newScan <;> cases newDrain <;> rfl
  · refine ⟨(svcClearFaults s).2, rfl, ?_⟩
    have cleared : (svcClearFaults s).2.faults = FaultRecord.clear := by
      unfold svcClearFaults
      dsimp only
      split
      · assumption
      · simp
    rw [cleared]
    refine ⟨rfl, fun c => by cases c <;> rfl, fun same => if_pos same, fun other => if_neg other⟩
  · have refuses (f : BayNo → State → Answer) : serve i (onBay n f) s = startThread (answerCard s.cardBase i .badService) s :=
      serve_eq (onBay_of_outside outside f s)
    have gives (f : BayNo → State → Answer) := congrArg (fun u => (Host.Outcome.next (conclude u) : Result)) (refuses f)
    exact ⟨gives _, gives _, gives _⟩

end Sys2Proof.Machine
end

section
/-! PROOFS. A bay retires and the spare takes its number (O19). -/

namespace Sys2Proof.Machine

variable {s t : State}

/-! ### The spare takeover (R140) -/

/-- A bay as it takes a number over. -/
def Bay.takenOver (r : Bay) (n : BayNo) : Bay :=
  { r with
    state := .discovering, logical := some n
    reqs := if (r.reqs.any fun o => o.req == .identify) then r.reqs
      else r.reqs ++ [{ req := .identify, purpose := .takeover, left := timeoutOf .identify }] }

/-- The takeover is made where a number is given up and the designation names a bay in SPARE. -/
theorem takeover_of_spare {n sp : BayNo} (spare : s.health.spare = some sp) (state : (s.bay sp).state = .spare) :
    (∀ x, (takeover (some n) s).bay x = if x = sp then (s.bay sp).takenOver n else s.bay x)
    ∧ (takeover (some n) s).health = { s.health with spare := none } := by
  have made : takeover (some n) s =
      setBayState sp .discovering (sendReq sp .identify .takeover .identify (setSpare none (setLogical sp (some n) s))) := by
    simp [takeover, spare, state]
  refine ⟨fun x => ?_, by rw [made]; simp⟩
  have asked : (setSpare none (setLogical sp (some n) s)).hasReq sp .identify = s.hasReq sp .identify := by
    rw [State.hasReq_congr (setSpare_bay ..), setLogical_hasReq]
  rw [made, setBayState_bay]
  split
  · simp only [sendReq_bay, if_true, asked, setSpare_bay, setLogical_bay]
    rfl
  · next other => simp [sendReq_bay, other, setLogical_bay]

theorem takeover_of_none {n : Option BayNo}
    (none : n = none ∨ s.health.spare = none ∨ ∃ sp, s.health.spare = some sp ∧ (s.bay sp).state ≠ .spare) : takeover n s = s := by
  unfold takeover
  split
  next m sp spare =>
    rcases none with h | h | ⟨x, h, state⟩
    · cases h
    · simp [spare] at h
    · rw [spare] at h
      cases h
      exact if_neg state
  next => rfl

/-! ### A bay retires (R139) -/

/-- The bay that retires, before its number is offered. -/
def givenUp (b : BayNo) (s : State) : State := setLogical b none (setBayState b .retired s)

theorem retire_eq (b : BayNo) (s : State) :
    retire b s = reportFault .retired (some b) none (takeover (s.bay b).logical (givenUp b s)) := rfl

theorem givenUp_bay (b x : BayNo) (s : State) :
    (givenUp b s).bay x = if x = b then { s.bay b with state := .retired, logical := none } else s.bay x := by
  unfold givenUp
  rw [setLogical_bay]
  split
  · simp [setBayState_bay]
  · next other => rw [setBayState_bay, if_neg other]

@[simp] theorem givenUp_frame (b : BayNo) (s : State) : (givenUp b s).health = s.health ∧ (givenUp b s).faults = s.faults
    ∧ (givenUp b s).tower = s.tower := by
  simp [givenUp]

/-- Each bay after a retirement that the spare takes over. -/
theorem retire_of_spare {b sp n : BayNo} (other : sp ≠ b) (spare : s.health.spare = some sp) (state : (s.bay sp).state = .spare)
    (number : (s.bay b).logical = some n) :
    (∀ x, (retire b s).bay x = if x = b then { s.bay b with state := .retired, logical := none }
      else if x = sp then (s.bay sp).takenOver n else s.bay x)
    ∧ (retire b s).health = { s.health with spare := none } := by
  have here : (givenUp b s).bay sp = s.bay sp := by rw [givenUp_bay, if_neg other]
  obtain ⟨bays, health⟩ := takeover_of_spare (s := givenUp b s) (n := n) (by simpa using spare) (by rwa [here])
  refine ⟨fun x => ?_, ?_⟩
  · rw [retire_eq, number, reportFault_bay, bays, here, givenUp_bay]
    by_cases self : x = b
    · subst self; simp [Ne.symm other]
    · simp [self]
  · rw [retire_eq, number]
    simp [health]

/-- Each bay after a retirement with no takeover. -/
theorem retire_of_none {b : BayNo} (stays : (s.bay b).logical = none ∨ s.health.spare = none
      ∨ ∃ sp, s.health.spare = some sp ∧ ((s.bay sp).state ≠ .spare ∨ sp = b)) :
    (∀ x, (retire b s).bay x = if x = b then { s.bay b with state := .retired, logical := none } else s.bay x)
    ∧ (retire b s).health = s.health := by
  have stands : takeover (s.bay b).logical (givenUp b s) = givenUp b s := by
    refine takeover_of_none ?_
    rcases stays with h | h | ⟨sp, h, state⟩
    · exact .inl h
    · exact .inr (.inl (by simpa using h))
    · refine .inr (.inr ⟨sp, by simpa using h, ?_⟩)
      rw [givenUp_bay]
      split
      · simp
      · next other => exact state.resolve_right other
  exact ⟨fun x => by rw [retire_eq, stands, reportFault_bay, givenUp_bay], by rw [retire_eq, stands]; simp⟩

/-- Every retirement is one of the two. -/
theorem retire_cases (b : BayNo) (s : State) :
    (∃ sp n, sp ≠ b ∧ s.health.spare = some sp ∧ (s.bay sp).state = .spare ∧ (s.bay b).logical = some n)
    ∨ ((s.bay b).logical = none ∨ s.health.spare = none
      ∨ ∃ sp, s.health.spare = some sp ∧ ((s.bay sp).state ≠ .spare ∨ sp = b)) := by
  cases number : (s.bay b).logical with
  | none => exact .inr (.inl rfl)
  | some n =>
    cases spare : s.health.spare with
    | none => exact .inr (.inr (.inl rfl))
    | some sp =>
      by_cases takes : (s.bay sp).state = .spare ∧ sp ≠ b
      · exact .inl ⟨sp, n, takes.2, rfl, takes.1, rfl⟩
      · refine .inr (.inr (.inr ⟨sp, rfl, ?_⟩))
        by_cases state : (s.bay sp).state = .spare
        · exact .inr (by by_contra other; exact takes ⟨state, other⟩)
        · exact .inl state

theorem retire_bay_self (b : BayNo) (s : State) : (retire b s).bay b = { s.bay b with state := .retired, logical := none } := by
  rcases retire_cases b s with ⟨sp, n, other, spare, state, number⟩ | stays
  · rw [(retire_of_spare other spare state number).1, if_pos rfl]
  · rw [(retire_of_none stays).1, if_pos rfl]

@[simp] theorem retire_faults (b : BayNo) (s : State) :
    (retire b s).faults = s.faults.after .retired (some b) none s.tower.time := by
  rw [retire_eq]
  simp

theorem takenOver_takingOver {r : Bay} (n : BayNo) (unasked : (r.reqs.any fun o => o.req == .identify) = false) :
    (r.takenOver n).takingOver = true := by
  have absent : r.reqs.find? (fun o => o.req == .identify) = none := by
    rw [List.find?_eq_none]
    simpa using unasked
  simp [Bay.takenOver, unasked, Bay.takingOver, List.find?_append, absent]

theorem takenOver_identify (r : Bay) (n : BayNo) : ((r.takenOver n).reqs.any fun o => o.req == .identify) = true := by
  unfold Bay.takenOver
  dsimp only
  split
  · assumption
  · simp

/-! ### A bay marked failing (R138) -/

theorem endDesignation_of_designated {b : BayNo} (spare : s.health.spare = some b) : endDesignation b s = setSpare none s := by
  simp [endDesignation, spare]

/-- The bay with its failing mark set. -/
def marked (b : BayNo) (s : State) : State := reportStatus (s.setBay b { s.bay b with failing := true })

theorem marked_bay (b x : BayNo) (s : State) :
    (marked b s).bay x = if x = b then { s.bay b with failing := true } else s.bay x := by
  rw [marked, reportStatus_bay, State.bay_setBay]

@[simp] theorem marked_frame (b : BayNo) (s : State) : (marked b s).health = s.health := by simp [marked]

theorem markFailing_of_state (b : BayNo) (s : State) :
    ((s.bay b).state = .idle → markFailing b s = retire b (marked b s))
    ∧ ((s.bay b).state = .spare → markFailing b s = retireSpare b (marked b s))
    ∧ ((s.bay b).state ≠ .idle → (s.bay b).state ≠ .spare → markFailing b s = marked b s) := by
  unfold markFailing
  dsimp only
  refine ⟨fun h => ?_, fun h => ?_, fun idle spare => ?_⟩
  · split
    · rfl
    · next other => rw [h] at other; cases other
    · contradiction
  · split
    · next other => rw [h] at other; cases other
    · rfl
    · contradiction
  · split
    · contradiction
    · contradiction
    · rfl

/-- A designated bay that is marked failing in SPARE. -/
theorem markFailing_of_designated {b : BayNo} (state : (s.bay b).state = .spare) (spare : s.health.spare = some b) :
    (∀ x, (markFailing b s).bay x =
      if x = b then { s.bay b with state := .retired, logical := none, failing := true } else s.bay x)
    ∧ (markFailing b s).health = { s.health with spare := none } := by
  have made : markFailing b s = retire b (setSpare none (marked b s)) := by
    rw [(markFailing_of_state b s).2.1 state, retireSpare, endDesignation_of_designated (by simpa using spare)]
  obtain ⟨bays, health⟩ := retire_of_none (b := b) (s := setSpare none (marked b s)) (.inr (.inl rfl))
  refine ⟨fun x => ?_, by rw [made, health]; simp⟩
  rw [made, bays]
  simp only [setSpare_bay, marked_bay]
  split <;> simp_all

/-- Settles O19: the retirement with a takeover and without one, the failing spare, and the numbers of every step. -/
theorem retirementAndTakeover : Obligations.RetirementAndTakeover := by
  refine ⟨fun b s live => ?_, fun b s state spare => ?_, fun s t => step_numbersDistinct, numbersDistinct_reset⟩
  · intro t
    have self : t.bay b = _ := retire_bay_self b s
    have faults : t.faults = _ := retire_faults b s
    refine ⟨self, ⟨by simp [t], by simp [t], by simp [t], by simp [t]⟩, ⟨by simp [t], by simp [t]⟩,
      ⟨by simp [t], by simp [t], by simp [t]⟩, by simp [t], fun first => ?_, fun entered => ?_,
      fun sp n other spare state number => ?_, fun none => ?_⟩
    · rw [faults, FaultRecord.after_of_none first]
    · rw [faults, FaultRecord.after_of_some entered]; rfl
    · obtain ⟨bays, health⟩ := retire_of_spare other spare state number
      have taken : t.bay sp = (s.bay sp).takenOver n := by rw [bays, if_neg other, if_pos rfl]
      refine ⟨by rw [taken]; rfl, by rw [taken]; rfl, ?_, health, fun unasked => ?_, fun x notSelf notSpare => ?_⟩
      · rw [State.hasReq, taken]; exact takenOver_identify ..
      · rw [taken]; exact takenOver_takingOver n unasked
      · rw [bays, if_neg notSelf, if_neg notSpare]
    · obtain ⟨bays, health⟩ := retire_of_none (b := b) (s := s)
        (none.imp_right (Or.imp_right fun ⟨sp, spare, state⟩ => ⟨sp, spare, .inl state⟩))
      refine ⟨health, fun x other => by rw [bays, if_neg other], fun n distinct number x held => ?_⟩
      by_cases other : x = b
      · subst other; rw [self] at held; cases held
      · rw [bays, if_neg other] at held
        exact other (distinct x b n held number)
  · obtain ⟨bays, health⟩ := markFailing_of_designated state spare
    refine ⟨by rw [bays, if_pos rfl], health, fun x other => by rw [bays, if_neg other],
      ⟨by simp, by simp, by simp, by simp⟩, ⟨by simp, by simp⟩, ⟨by simp, by simp, by simp⟩⟩

end Sys2Proof.Machine
end

section
/-! PROOFS. SET_LIMITS (O18), and the spare designated and returned (O20, O21). -/

namespace Sys2Proof.Machine

variable {s t u : State}

theorem next_conclude {v w : State} (h : v = w) : (Host.Outcome.next (conclude v) : Result) = .next (conclude w) := by rw [h]

theorem serve_next {i : Fin 64} {f : State → Answer} {r : Reason} {v : State} (answer : f s = (r, v)) :
    (Host.Outcome.next (conclude (serve i f s)) : Result) = .next (conclude (startThread (answerCard s.cardBase i r) v)) :=
  next_conclude (serve_eq answer)

/-! ### A test against the limits (R138) -/

/-- The bay has a counter at its limit and is not marked. -/
def State.caught (s : State) (b : BayNo) : Prop := (s.bay b).failing = false ∧ s.overLimit b = true

theorem overLimit_iff (s : State) (b : BayNo) : s.overLimit b = true ↔
    (s.health.softLimit ≠ 0 ∧ s.health.softLimit ≤ (s.bay b).soft) ∨ (s.health.hardLimit ≠ 0 ∧ s.health.hardLimit ≤ (s.bay b).hard) := by
  simp [State.overLimit]

theorem testLimits_of_not {b : BayNo} (h : (s.bay b).state = .retired ∨ ¬ s.caught b) : testLimits b s = s := by
  unfold testLimits
  rw [if_neg]
  rintro ⟨live, mark, high⟩
  exact h.elim live fun n => n ⟨mark, high⟩

theorem testLimits_of_caught {b : BayNo} (live : (s.bay b).state ≠ .retired) (h : s.caught b) : testLimits b s = markFailing b s :=
  if_pos ⟨live, h.1, h.2⟩

/-- What a retirement makes of the bays besides the one that retires: at most the designated spare takes its number. -/
theorem retire_other {b x : BayNo} (other : x ≠ b) (s : State) :
    ((retire b s).bay x = s.bay x
      ∨ ((s.bay x).state = .spare ∧ s.health.spare = some x ∧ ∃ n, (retire b s).bay x = (s.bay x).takenOver n)
        ∧ (retire b s).health = { s.health with spare := none })
    ∧ ((retire b s).health = s.health ∨ (retire b s).health = { s.health with spare := none }) := by
  rcases retire_cases b s with ⟨sp, n, notSelf, spare, state, number⟩ | stays
  · obtain ⟨bays, health⟩ := retire_of_spare notSelf spare state number
    refine ⟨?_, .inr health⟩
    by_cases same : x = sp
    · subst same
      exact .inr ⟨⟨state, spare, n, by rw [bays, if_neg other, if_pos rfl]⟩, health⟩
    · exact .inl (by rw [bays, if_neg other, if_neg same])
  · obtain ⟨bays, health⟩ := retire_of_none stays
    exact ⟨.inl (by rw [bays, if_neg other]), .inl health⟩

/-- What a test against the limits makes of the other bays and of the health record. -/
def BayKeptOrTaken (s t : State) (x : BayNo) : Prop :=
  (t.bay x = s.bay x ∨ ((s.bay x).state = .spare ∧ s.health.spare = some x ∧ ∃ n, t.bay x = (s.bay x).takenOver n)
      ∧ t.health = { s.health with spare := none })
    ∧ (t.health = s.health ∨ t.health = { s.health with spare := none })

theorem BayKeptOrTaken.of_eq {x : BayNo} (bay : t.bay x = s.bay x)
    (health : t.health = s.health ∨ t.health = { s.health with spare := none }) : BayKeptOrTaken s t x := ⟨.inl bay, health⟩

theorem BayKeptOrTaken.trans {x : BayNo} (a : BayKeptOrTaken s t x) (b : BayKeptOrTaken t u x) : BayKeptOrTaken s u x := by
  obtain ⟨bay1, health1⟩ := a
  obtain ⟨bay2, health2⟩ := b
  have health : u.health = s.health ∨ u.health = { s.health with spare := none } := by
    rcases health1 with h | h <;> rcases health2 with k | k <;> simp [h, k]
  rcases bay1 with same | ⟨⟨state, spare, n, taken⟩, none1⟩ <;> rcases bay2 with same2 | ⟨⟨state2, spare2, m, taken2⟩, none2⟩
  · exact ⟨.inl (same2.trans same), health⟩
  · rw [same] at state2 taken2
    have spare : s.health.spare = some x := by
      rcases health1 with h | h
      · rw [← spare2, h]
      · rw [h] at spare2; cases spare2
    exact ⟨.inr ⟨⟨state2, spare, m, taken2⟩, by rcases health1 with h | h <;> rw [none2, h]⟩, health⟩
  · refine ⟨.inr ⟨⟨state, spare, n, same2.trans taken⟩, ?_⟩, health⟩
    rcases health2 with h | h <;> rw [h, none1]
  · rw [none1] at spare2
    cases spare2

theorem marked_bay_other {b x : BayNo} (other : x ≠ b) (s : State) : (marked b s).bay x = s.bay x := by
  rw [marked_bay, if_neg other]

theorem endDesignation_cases (b : BayNo) (s : State) : (endDesignation b s).bays = s.bays
    ∧ ((endDesignation b s).health = s.health ∨ (endDesignation b s).health = { s.health with spare := none }) := by
  unfold endDesignation
  split
  · exact ⟨rfl, .inr rfl⟩
  · exact ⟨rfl, .inl rfl⟩

theorem markFailing_other {b x : BayNo} (other : x ≠ b) (s : State) : BayKeptOrTaken s (markFailing b s) x := by
  have mark : BayKeptOrTaken s (marked b s) x := .of_eq (marked_bay_other other s) (.inl (by simp))
  obtain ⟨idle, spare, rest⟩ := markFailing_of_state b s
  by_cases isIdle : (s.bay b).state = .idle
  · rw [idle isIdle]
    exact mark.trans (retire_other other _)
  by_cases isSpare : (s.bay b).state = .spare
  · rw [spare isSpare, retireSpare]
    obtain ⟨bays, health⟩ := endDesignation_cases b (marked b s)
    exact mark.trans (.trans (.of_eq (State.bay_congr bays x) health) (retire_other other _))
  · rw [rest isIdle isSpare]
    exact mark

theorem testLimits_other {b x : BayNo} (other : x ≠ b) (s : State) : BayKeptOrTaken s (testLimits b s) x := by
  unfold testLimits
  split
  · exact markFailing_other other s
  · exact .of_eq rfl (.inl rfl)

/-- The tests of a list of bays. -/
def testAll (l : List BayNo) (s : State) : State := l.foldl (fun u b => testLimits b u) s

theorem testAll_other {x : BayNo} {l : List BayNo} (absent : x ∉ l) (s : State) : BayKeptOrTaken s (testAll l s) x := by
  induction l generalizing s with
  | nil => exact .of_eq rfl (.inl rfl)
  | cons b l ih =>
    rw [List.mem_cons, not_or] at absent
    exact (testLimits_other absent.1 s).trans (ih absent.2 _)

/-- What its own test makes of a bay that is caught. -/
theorem markFailing_self (b : BayNo) (s : State) :
    (((markFailing b s).bay b).failing = true)
    ∧ ((s.bay b).state = .idle → ((markFailing b s).bay b).state = .retired ∧ ((markFailing b s).bay b).logical = none)
    ∧ ((s.bay b).state = .spare → ((markFailing b s).bay b).state = .retired)
    ∧ ((s.bay b).state ≠ .idle → (s.bay b).state ≠ .spare → (markFailing b s).bay b = { s.bay b with failing := true }) := by
  have mark : (marked b s).bay b = { s.bay b with failing := true } := by rw [marked_bay, if_pos rfl]
  obtain ⟨idle, spare, rest⟩ := markFailing_of_state b s
  have ofIdle (h : (s.bay b).state = .idle) :
      (markFailing b s).bay b = { s.bay b with failing := true, state := .retired, logical := none } := by
    rw [idle h, retire_bay_self, mark]
  have ofSpare (h : (s.bay b).state = .spare) :
      (markFailing b s).bay b = { s.bay b with failing := true, state := .retired, logical := none } := by
    rw [spare h, retireSpare, retire_bay_self, State.bay_congr (endDesignation_cases b _).1, mark]
  have ofRest (h : (s.bay b).state ≠ .idle) (k : (s.bay b).state ≠ .spare) :
      (markFailing b s).bay b = { s.bay b with failing := true } := by rw [rest h k, mark]
  refine ⟨?_, fun h => by rw [ofIdle h]; exact ⟨rfl, rfl⟩, fun h => by rw [ofSpare h], ofRest⟩
  by_cases h : (s.bay b).state = .idle
  · rw [ofIdle h]
  by_cases k : (s.bay b).state = .spare
  · rw [ofSpare k]
  · rw [ofRest h k]

theorem allBays_split (b : BayNo) : ∃ before after, Config.allBays = before ++ b :: after ∧ b ∉ before ∧ b ∉ after := by
  have nodup : Config.allBays.Nodup := by decide
  obtain ⟨before, after, split⟩ := List.append_of_mem (show b ∈ Config.allBays by revert b; decide)
  refine ⟨before, after, split, ?_⟩
  rw [split, List.nodup_append] at nodup
  obtain ⟨_, later, apart⟩ := nodup
  exact ⟨fun h => apart b h b (List.mem_cons_self ..) rfl, (List.nodup_cons.mp later).1⟩

theorem testAll_of_none {l : List BayNo} (calm : ∀ b, ¬ s.caught b) : testAll l s = s := by
  induction l with
  | nil => rfl
  | cons b l ih =>
    rw [testAll, List.foldl_cons, testLimits_of_not (.inr (calm b))]
    exact ih

theorem testAll_health (l : List BayNo) (s : State) :
    (testAll l s).health = s.health ∨ (testAll l s).health = { s.health with spare := none } := by
  induction l generalizing s with
  | nil => exact .inl rfl
  | cons b l ih =>
    have first : (testLimits b s).health = s.health ∨ (testLimits b s).health = { s.health with spare := none } := by
      obtain ⟨x, other⟩ : ∃ x : BayNo, x ≠ b := by revert b; decide
      exact (testLimits_other other s).2
    have rest := ih (testLimits b s)
    rw [testAll, List.foldl_cons]
    rcases first with h | h <;> rcases rest with k | k <;> rw [testAll] at k <;> simp [h, k]

/-- What the tests of all bays make of one. -/
theorem testAll_bay (b : BayNo) (s : State) :
    (s.caught b → (((testAll Config.allBays s).bay b).failing = true ∨ ((testAll Config.allBays s).bay b).state = .retired)
      ∧ ((s.bay b).state = .idle →
          ((testAll Config.allBays s).bay b).state = .retired ∧ ((testAll Config.allBays s).bay b).logical = none)
      ∧ ((s.bay b).state ≠ .idle → (s.bay b).state ≠ .spare → (s.bay b).state ≠ .retired →
          (testAll Config.allBays s).bay b = { s.bay b with failing := true }))
    ∧ (¬ s.caught b → s.health.spare ≠ some b → (testAll Config.allBays s).bay b = s.bay b) := by
  obtain ⟨before, after, split, notBefore, notAfter⟩ := allBays_split b
  have parts : testAll Config.allBays s = testAll after (testLimits b (testAll before s)) := by
    rw [split, testAll, List.foldl_append, List.foldl_cons]; rfl
  have pre := testAll_other notBefore s
  generalize testAll before s = v at parts pre
  have post := testAll_other notAfter (testLimits b v)
  rw [← parts] at post
  generalize testAll Config.allBays s = w at parts post ⊢
  obtain ⟨preBay, preHealth⟩ := pre
  obtain ⟨postBay, postHealth⟩ := post
  -- after its own test a bay that is not in SPARE stays as it is
  have settled (h : ((testLimits b v).bay b).state ≠ .spare) : w.bay b = (testLimits b v).bay b :=
    postBay.resolve_right fun ⟨⟨state, _⟩, _⟩ => h state
  have limits : v.health.softLimit = s.health.softLimit ∧ v.health.hardLimit = s.health.hardLimit := by
    rcases preHealth with h | h <;> simp [h]
  have high : (v.bay b).soft = (s.bay b).soft → (v.bay b).hard = (s.bay b).hard → v.overLimit b = s.overLimit b := by
    intro soft hard
    simp [State.overLimit, limits, soft, hard]
  constructor
  · intro caught
    obtain ⟨selfMark, selfIdle, selfSpare, selfRest⟩ := markFailing_self b v
    rcases preBay with same | ⟨⟨state, spare, n, taken⟩, _⟩
    · have still : v.caught b := ⟨same ▸ caught.1, (high (by rw [same]) (by rw [same])).trans caught.2⟩
      rw [same] at selfIdle selfSpare selfRest
      by_cases gone : (s.bay b).state = .retired
      · have same2 : w.bay b = s.bay b := by
          have t : testLimits b v = v := testLimits_of_not (.inl (same ▸ gone))
          rw [settled (by rw [t, same, gone]; decide), t, same]
        rw [same2]
        exact ⟨.inr gone, fun h => absurd (gone.symm.trans h) (by decide), fun _ _ live => absurd gone live⟩
      · have test := testLimits_of_caught (same ▸ gone) still
        rw [test] at settled
        have notSpare : ((markFailing b v).bay b).state ≠ .spare := by
          by_cases i : (s.bay b).state = .idle
          · rw [(selfIdle i).1]; decide
          by_cases p : (s.bay b).state = .spare
          · rw [selfSpare p]; decide
          · rw [selfRest i p]; exact p
        rw [settled notSpare]
        exact ⟨.inl selfMark, selfIdle, fun i p _ => selfRest i p⟩
    · have still : v.caught b := ⟨by rw [taken]; exact caught.1, (high (by rw [taken]; rfl) (by rw [taken]; rfl)).trans caught.2⟩
      have test := testLimits_of_caught (s := v) (b := b) (by rw [taken]; exact BayState.noConfusion) still
      rw [test, selfRest (by rw [taken]; exact BayState.noConfusion) (by rw [taken]; exact BayState.noConfusion)] at settled
      rw [settled (by rw [taken]; exact BayState.noConfusion)]
      exact ⟨.inl rfl, fun h => absurd (state.symm.trans h) (by decide), fun _ h => absurd state h⟩
  · intro calm other
    have same : v.bay b = s.bay b := preBay.resolve_right fun ⟨⟨_, spare, _⟩, _⟩ => other spare
    have test : testLimits b v = v := by
      refine testLimits_of_not (.inr fun h => calm ⟨same ▸ h.1, ?_⟩)
      rw [← high (by rw [same]) (by rw [same])]
      exact h.2
    rw [test] at postBay
    rw [postBay.resolve_right, same]
    rintro ⟨⟨_, spare, _⟩, _⟩
    rcases preHealth with h | h <;> rw [h] at spare
    · exact other spare
    · cases spare

/-- Settles O18: the tests of the bays one after another. -/
theorem limitsSet : Obligations.LimitsSet := by
  refine ⟨fun i soft hard s => ⟨fun bad => serve_next (if_neg bad), fun ok calm => ?_⟩, fun i soft hard s softOk hardOk => ?_⟩
  · have kept : testAll Config.allBays { s with health := { s.health with softLimit := soft, hardLimit := hard } } = _ :=
      testAll_of_none fun b caught => by
        rcases (overLimit_iff _ b).mp caught.2 with ⟨on, reached⟩ | ⟨on, reached⟩
        · exact (calm b).1.elim on fun below => Nat.not_le.mpr below reached
        · exact (calm b).2.elim on fun below => Nat.not_le.mpr below reached
    exact serve_next ((if_pos ok).trans (congrArg _ kept))
  · intro caught
    let set : State := { s with health := { s.health with softLimit := soft, hardLimit := hard } }
    have made : svcSetLimits soft hard s = (.none, testAll Config.allBays set) := if_pos ⟨softOk, hardOk⟩
    have frame := svcSetLimits_frame soft hard s
    rw [made] at frame
    dsimp only at frame
    have isCaught (b : BayNo) : set.caught b ↔ caught b := and_congr Iff.rfl (overLimit_iff set b)
    refine ⟨testAll Config.allBays set, serve_next made, ?_, ?_, ?_, ?_, ⟨?_, ?_, ?_, ?_⟩, ⟨?_, ?_⟩, ⟨?_, ?_, ?_⟩, ?_, fun b => ?_⟩
    iterate 4 rcases testAll_health Config.allBays set with h | h <;> rw [h]
    iterate 10 simp [frame]
    obtain ⟨reached, below⟩ := testAll_bay b set
    rw [isCaught] at reached below
    exact ⟨fun c => ⟨(reached c).1, (reached c).2.1, fun idle spare live _ => (reached c).2.2 idle spare live⟩, below⟩

/-! ### DESIGNATE_SPARE (O20) -/

theorem onBay_val (b : BayNo) (f : BayNo → State → Answer) (s : State) : onBay b.val f s = f b s := dif_pos b.isLt

/-- Settles O20: the rows of R143 in their order. -/
theorem spareDesignated : Obligations.SpareDesignated := by
  intro i b s r sent held
  have gives {reason : Reason} {t : State} (e : svcDesignate b s = (reason, t)) : sent reason t :=
    serve_next (f := onBay b.val svcDesignate) ((onBay_val b svcDesignate s).trans e)
  clear_value sent
  unfold svcDesignate at gives
  refine ⟨fun a => gives ?_, fun ⟨a, k⟩ => gives ?_, fun ⟨a, live, mark, spare⟩ => gives ?_,
    fun ⟨a, live, mark, x, spare, other⟩ => gives ?_, fun ⟨a, live, mark, spare, h⟩ => gives ?_,
    fun ⟨a, mark, spare, h, state⟩ => gives ?_, fun ⟨a, mark, spare, h, state⟩ => gives ?_⟩
  · exact if_pos a
  · simp only [r] at a k
    simp [a, k]
  · simp only [r] at a live mark
    simp [a, live, mark, spare]
  · simp only [r] at a live mark
    simp [a, live, mark, spare, other]
  · simp only [r] at a live mark
    have busy : _ := h
    simp only [held, r] at busy
    simp [a, live, mark, spare, busy]
  · simp only [r] at a mark state
    have calm : _ := h
    simp only [held, r] at calm
    rw [state] at calm
    simp [a, mark, spare, state, calm]
  · simp only [r] at a mark state
    have calm : _ := h
    simp only [held, r] at calm
    have live : (s.bay b).state ≠ .retired ∧ (s.bay b).state ≠ .idle := by rcases state with h | h | h <;> simp [h]
    simp [a, mark, spare, live, calm]

end Sys2Proof.Machine
end

section
/-! PROOFS. The spare returned (O21), a bay reinstated (O22) and reset (O23), and the transport's services (O24). -/

namespace Sys2Proof.Machine

variable {s t u : State}

/-! ### The spare returned (O21) -/

theorem numberTaken_iff (s : State) (b : BayNo) : s.numberTaken b = true ↔ ∃ x, x ≠ b ∧ (s.bay x).logical = some b := by
  simp [State.numberTaken, mem_allBays]

/-- The spare with its physical number, designated no more. -/
def numbered (sp : BayNo) (s : State) : State := setSpare none (setLogical sp (some sp) s)

theorem numbered_bay (sp x : BayNo) (s : State) :
    (numbered sp s).bay x = if x = sp then { s.bay sp with logical := some sp } else s.bay x := by
  rw [numbered, setSpare_bay, setLogical_bay]

theorem numbered_health (sp : BayNo) (s : State) : (numbered sp s).health = { s.health with spare := none } := by
  simp [numbered]

@[simp] theorem numbered_frame (sp : BayNo) (s : State) : (numbered sp s).tower = s.tower ∧ (numbered sp s).regs = s.regs := by
  simp [numbered]

theorem enterIdle_of_sound {b : BayNo} (sound : (s.bay b).failing = false) : enterIdle b s = triggerRound (setBayState b .idle s) := by
  simp [enterIdle, sound]

theorem enterIdle_of_failing {b : BayNo} (failing : (s.bay b).failing = true) : enterIdle b s = retire b s := by
  simp [enterIdle, failing]

theorem enterIdle_self (b : BayNo) (s : State) : (enterIdle b s).bay b =
    if (s.bay b).failing then { s.bay b with state := .retired, logical := none } else { s.bay b with state := .idle } := by
  unfold enterIdle
  split
  · exact retire_bay_self b s
  · rw [triggerRound_bay, setBayState_bay, if_pos rfl]

/-- With no designation the entry into IDLE changes that bay alone. -/
theorem enterIdle_of_no_spare {b : BayNo} (spare : s.health.spare = none) :
    s.otherBays (enterIdle b s) b ∧ (enterIdle b s).health = s.health := by
  unfold enterIdle
  split
  · obtain ⟨bays, health⟩ := retire_of_none (b := b) (.inr (.inl spare))
    exact ⟨fun x other => by rw [bays, if_neg other], health⟩
  · exact ⟨fun x other => by rw [triggerRound_bay, setBayState_bay, if_neg other], by simp⟩

theorem triggerRound_roundDue (allowed : s.tower.state = .running ∨ s.tower.state = .halted) (run : s.regs.run = true) :
    (triggerRound s).roundDue = true := by
  simp [triggerRound, allowed, run]

theorem svcDesignateNone_of_spare {sp : BayNo} (spare : s.health.spare = some sp) (free : s.numberTaken sp = false) :
    svcDesignateNone s = (.none, if (s.bay sp).state = .spare then enterIdle sp (numbered sp s) else numbered sp s) := by
  simp [svcDesignateNone, spare, free, numbered]

/-- An identified bay that nothing keeps out of IDLE. -/
theorem onIdentity_idle {b : BayNo} {d : Drive} (spare : s.health.spare ≠ some b) (state : (s.bay b).state = .discovering)
    (asked : s.hasReq b .identify = true) (docket : (s.bay b).docket = none) (stranded : (s.bay b).stranded = false)
    (failing : (s.bay b).failing = false) : ((onIdentity b d s).bay b).state = .idle := by
  have idle {v : State} (k : Bool) (atV : (v.bay b).docket = none ∧ (v.bay b).stranded = false ∧ (v.bay b).failing = false)
      (health : v.health = s.health) : ((leaveDiscovering k b v).bay b).state = .idle := by
    obtain ⟨docket, stranded, failing⟩ := atV
    have made : leaveDiscovering k b v = enterIdle b v := by simp [leaveDiscovering, docket, stranded, health, spare]
    rw [made, enterIdle_self, failing]
    rfl
  simp only [onIdentity, asked, if_true, state]
  exact idle _ (by simp [dropReq_bay, docket, stranded, failing]) (by simp)

/-- Settles O21: the rows of R144. -/
theorem spareReturned : Obligations.SpareReturned := by
  intro i s sent
  have gives {reason : Reason} {t : State} (e : svcDesignateNone s = (reason, t)) : sent reason t := serve_next e
  clear_value sent
  refine ⟨fun spare => gives (by simp [svcDesignateNone, spare]), fun sp spare taken => gives ?_, fun sp spare free => ?_,
    fun b d => onIdentity_idle⟩
  · simp [svcDesignateNone, spare, (numberTaken_iff s sp).mpr taken]
  · have untaken : s.numberTaken sp = false := by
      rw [Bool.eq_false_iff]
      exact fun h => ((numberTaken_iff s sp).mp h).elim fun x hx => free x hx.1 hx.2
    have made := svcDesignateNone_of_spare spare untaken
    have frame := svcDesignateNone_frame s
    have self := numbered_bay sp sp s
    rw [if_pos rfl] at self
    obtain ⟨others, health⟩ := enterIdle_of_no_spare (b := sp) (s := numbered sp s) (by rw [numbered_health])
    have idle := enterIdle_self sp (numbered sp s)
    rw [self] at idle
    refine ⟨(svcDesignateNone s).2, gives (by rw [made]), ?_, ⟨by simp, by simp, by simp, by simp⟩, ⟨by simp, by simp⟩,
      ⟨by simp, by simp, by simp⟩, by simp, fun x other => ?_, fun ⟨state, sound⟩ => ?_, fun ⟨state, failing⟩ => ?_, fun state => ?_⟩
    all_goals rw [made]; dsimp only
    · split
      · rw [health, numbered_health]
      · rw [numbered_health]
    · have same : (numbered sp s).bay x = s.bay x := by rw [numbered_bay, if_neg other]
      split
      · rw [others x other, same]
      · exact same
    · rw [if_pos state, idle]
      simp only [sound]
      refine ⟨rfl, rfl, fun ⟨allowed, run⟩ => ?_⟩
      rw [enterIdle_of_sound (by rw [self]; exact sound)]
      exact triggerRound_roundDue (by simpa using allowed) (by simpa using run)
    · rw [if_pos state, idle, if_pos failing]
    · rw [if_neg state, self]
      exact ⟨rfl, rfl⟩

/-! ### A bay reinstated (O22) -/

/-- The bay with its counters and its mark cleared. -/
def cleared (b : BayNo) (s : State) : State := reportStatus (s.setBay b { s.bay b with soft := 0, hard := 0, failing := false })

theorem cleared_bay (b x : BayNo) (s : State) :
    (cleared b s).bay x = if x = b then { s.bay b with soft := 0, hard := 0, failing := false } else s.bay x := by
  rw [cleared, reportStatus_bay, State.bay_setBay]

@[simp] theorem cleared_frame (b : BayNo) (s : State) : (cleared b s).health = s.health ∧ (cleared b s).transport = s.transport
    ∧ (cleared b s).faults = s.faults ∧ (cleared b s).pending = s.pending ∧ (cleared b s).tower = s.tower
    ∧ (cleared b s).regs = s.regs ∧ (cleared b s).board = s.board ∧ (cleared b s).jobs = s.jobs ∧ (cleared b s).dockets = s.dockets
    ∧ (cleared b s).sensors = s.sensors ∧ (cleared b s).bins = s.bins ∧ (cleared b s).printer = s.printer := by
  simp [cleared]

theorem cleared_logical (b x : BayNo) (s : State) : ((cleared b s).bay x).logical = (s.bay x).logical := by
  rw [cleared_bay]
  split
  · next same => subst same; rfl
  · rfl

/-- The number or the role of a reinstated bay (R145). -/
theorem reinstateRole_of_free {b : BayNo} (free : ∀ x : BayNo, (s.bay x).logical ≠ some b) :
    reinstateRole b s = setLogical b (some b) (endDesignation b s) := by
  have bays := (endDesignation_cases b s).1
  simp [reinstateRole, mem_allBays, State.bay_congr bays, free]

theorem reinstateRole_of_held {b : BayNo} (held : ∃ x : BayNo, (s.bay x).logical = some b) :
    reinstateRole b s = if (endDesignation b s).health.spare = none then setSpare (some b) (endDesignation b s)
      else endDesignation b s := by
  have bays := (endDesignation_cases b s).1
  unfold reinstateRole
  exact if_pos (by simpa [mem_allBays, State.bay_congr bays] using held)

theorem endDesignation_health (b : BayNo) (s : State) :
    (endDesignation b s).health = { s.health with spare := if s.health.spare = some b then none else s.health.spare } := by
  unfold endDesignation
  split <;> rfl

/-- A role changes the bay's number alone. -/
theorem reinstateRole_bay (b x : BayNo) (s : State) :
    (reinstateRole b s).bay x = if x = b then { s.bay b with logical := ((reinstateRole b s).bay b).logical } else s.bay x := by
  by_cases held : ∃ x : BayNo, (s.bay x).logical = some b
  · have same (y : BayNo) : (reinstateRole b s).bay y = s.bay y := by
      rw [reinstateRole_of_held held]
      split <;> simp [endDesignation_bay]
    simp only [same]
    split
    · next e => rw [e]
    · rfl
  · rw [reinstateRole_of_free (by simpa using held)]
    simp only [setLogical_bay, endDesignation_bay]
    rfl

theorem discover_hasReq (p : Purpose) (b : BayNo) (s : State) : (discover p b s).hasReq b .identify = true := by
  rw [discover, setBayState_hasReq]
  exact (setBay_hasReq (by rfl) b .identify).trans (sendReq_hasReq ..)

/-- Settles O22: the number or the role, and the discovery. -/
theorem bayReinstated : Obligations.BayReinstated := by
  intro i b s sent
  have gives {reason : Reason} {t : State} (e : svcReinstate b s = (reason, t)) : sent reason t :=
    serve_next (f := onBay b.val svcReinstate) ((onBay_val b svcReinstate s).trans e)
  clear_value sent
  refine ⟨fun absent => gives (if_pos absent), fun ⟨here, live⟩ => gives ?_, fun ⟨here, gone⟩ => ?_⟩
  · simp [svcReinstate, here, live]
  · have made : svcReinstate b s = (.none, discover .normal b (reinstateRole b (cleared b s))) := by
      simp [svcReinstate, here, gone, cleared]
    have self := discover_bay .normal b b (reinstateRole b (cleared b s))
    rw [if_pos rfl, reinstateRole_bay, if_pos rfl, cleared_bay, if_pos rfl] at self
    have health : (discover .normal b (reinstateRole b (cleared b s))).health = (reinstateRole b (cleared b s)).health := by simp
    refine ⟨_, gives made, ⟨by simp, by simp, by simp, by simp⟩, ⟨by simp, by simp⟩, ⟨by simp, by simp, by simp⟩, by simp, by simp,
      by rw [self], by rw [self], by rw [self], by rw [self],
      discover_hasReq .., fun free => ?_, fun ⟨held, undesignated⟩ => ?_, fun ⟨held, designated⟩ => ?_, fun x other => ?_⟩
    · rw [self, health, reinstateRole_of_free (by simpa [cleared_logical] using free)]
      simp [setLogical_bay, endDesignation_health]
    · rw [self, health, reinstateRole_of_held (by simpa [cleared_logical] using held)]
      simp [endDesignation_health, undesignated, endDesignation_bay, cleared_logical, setSpare]
    · rw [self, health, reinstateRole_of_held (by simpa [cleared_logical] using held)]
      by_cases own : s.health.spare = some b
      · have same : s.health = { s.health with spare := some b } := by rw [← own]
        rw [if_pos (by simp [endDesignation_health, own])]
        exact ⟨by simp [endDesignation_bay, cleared_logical], by rw [same]; simp [setSpare, endDesignation_health]⟩
      · simp [endDesignation_health, own, designated, endDesignation_bay, cleared_logical]
    · rw [discover_bay, if_neg other, reinstateRole_bay, if_neg other, cleared_bay, if_neg other]

end Sys2Proof.Machine
end

section
/-! PROOFS. A bay reset (O23) and the transport's services (O24). -/

namespace Sys2Proof.Machine

variable {s t u : State}

/-! ### A channel discarded (R90, R116) -/

/-- A bay whose channel is gone. -/
def Bay.dropped (r : Bay) : Bay := { r with channel := .closed, image := none, extent := none, compare := none }

theorem orphanLine_bays (id : LineId) (s : State) : (orphanLine id s).bays = s.bays := rfl

theorem endBurstOf_bays (b : BayNo) (s : State) : (endBurstOf b s).bays = s.bays := by
  unfold endBurstOf
  (repeat' split) <;> rfl

theorem dropChannel_bay (b x : BayNo) (s : State) :
    (dropChannel b s).bay x = if x = b then (s.bay b).dropped else s.bay x := by
  unfold dropChannel
  dsimp only
  rw [State.bay_congr (endBurstOf_bays ..)]
  exact State.bay_setBay ..

theorem setChannel_bay (b x : BayNo) (c : Channel) (s : State) :
    (setChannel b c s).bay x = if x = b then { s.bay b with channel := c } else s.bay x := State.bay_setBay ..

theorem recordSignature_bay_other {b x : BayNo} (other : x ≠ b) (j : Job) (g : Nat) (crc : BitVec 32) (s : State) :
    (recordSignature b j g crc s).bay x = s.bay x := by
  unfold recordSignature
  split
  · simp
  · split
    · next c _ =>
      rw [State.bay_congr (s := setChannel b (.burn { c with held := c.held ++ [(g, crc)] }) s) (by simp), setChannel_bay,
        if_neg other]
    · rfl

/-- An entry that becomes open leaves a bay without a burn channel alone. -/
theorem openEntry_bay {x : BayNo} (closed : s.burnOf x = none) (j : SlotNo) (g : Nat) : (openEntry j g s).bay x = s.bay x := by
  unfold openEntry
  split
  · rfl
  split
  · simp
  split
  · next b _ _ _ _ _ burn =>
    have other : x ≠ b := fun same => by rw [same, burn] at closed; cases closed
    rw [recordSignature_bay_other other]
    simp [setLine, State.bay_setBay, setChannel_bay, other]
  · rfl

theorem State.burnOf_of_closed {x : BayNo} (closed : (s.bay x).channel = .closed) : s.burnOf x = none := by
  simp [State.burnOf, closed]

theorem openEntries_bay {x : BayNo} (j : SlotNo) (l : List (Nat × BitVec 32)) (closed : (s.bay x).channel = .closed) :
    (l.foldl (fun u h => openEntry j h.1 u) s).bay x = s.bay x := by
  induction l generalizing s with
  | nil => rfl
  | cons h l ih =>
    have first := openEntry_bay (State.burnOf_of_closed closed) j h.1
    rw [List.foldl_cons, ih (by rw [first]; exact closed), first]

theorem discardChannel_bay (b : BayNo) (s : State) :
    (discardChannel b s).bay b = if (s.bay b).channel = .closed then s.bay b else (s.bay b).dropped := by
  have gone : (dropChannel b s).bay b = (s.bay b).dropped := by rw [dropChannel_bay, if_pos rfl]
  unfold discardChannel
  split
  · next closed => rw [if_pos closed]
  · next open_ => rw [if_neg (by simp [open_]), gone]
  · next c burn =>
    rw [if_neg (by simp [burn])]
    dsimp only
    split
    · rw [openEntries_bay _ _ (by rw [gone]; rfl), gone]
    · exact gone

theorem discardChannel_closed (b : BayNo) (s : State) : ((discardChannel b s).bay b).channel = .closed := by
  rw [discardChannel_bay]
  split
  · assumption
  · rfl

/-! ### The other parts of a bay reset (R84) -/

/-- Only the docket and the stranded mark differ. -/
def Bay.left (a b : Bay) : Prop := b = { a with docket := b.docket, stranded := b.stranded }

theorem Bay.left_refl (a : Bay) : a.left a := rfl

theorem Bay.left.trans {a b c : Bay} (h : a.left b) (k : b.left c) : a.left c := by
  unfold Bay.left at h k ⊢
  rw [k, h]

theorem Bay.left.state {a b : Bay} (h : a.left b) : b.state = a.state := by
  unfold Bay.left at h; rw [h]

theorem Bay.left.channel {a b : Bay} (h : a.left b) : b.channel = a.channel := by
  unfold Bay.left at h; rw [h]

theorem enterIdle_bay_other {b x : BayNo} (other : x ≠ b) (notSpare : (s.bay x).state ≠ .spare) :
    (enterIdle b s).bay x = s.bay x := by
  unfold enterIdle
  split
  · exact (retire_other other s).1.resolve_right fun ⟨⟨state, _⟩, _⟩ => notSpare state
  · rw [triggerRound_bay, setBayState_bay, if_neg other]

theorem releaseBay_bay_other {b x : BayNo} (other : x ≠ b) (notSpare : (s.bay x).state ≠ .spare) :
    (releaseBay b s).bay x = s.bay x := by
  have same : (s.setBay b { s.bay b with docket := none }).bay x = s.bay x := by rw [State.bay_setBay, if_neg other]
  unfold releaseBay
  dsimp only
  split
  · rw [enterIdle_bay_other other (by rw [same]; exact notSpare), same]
  · rw [askTrayClose_bay_other other, same]
  · rw [askTrayClose_bay_other other, same]
  · exact same

/-- A bay being reset is left to its reset. -/
theorem releaseBay_bay_left {b x : BayNo} (resetting : (s.bay x).state = .resetting) : (s.bay x).left ((releaseBay b s).bay x) := by
  by_cases other : x = b
  · subst other
    have made : releaseBay x s = s.setBay x { s.bay x with docket := none } := by simp [releaseBay, resetting]
    rw [made, State.bay_setBay, if_pos rfl]
    rfl
  · rw [releaseBay_bay_other other (by simp [resetting])]
    rfl

theorem abortBurn_bay_of_closed {b x : BayNo} (closed : (s.bay x).channel = .closed) : (abortBurn b s).bay x = s.bay x := by
  unfold abortBurn
  split
  · next c burn =>
    have other : x ≠ b := fun same => by rw [same, burn] at closed; cases closed
    split
    · rfl
    · rw [State.bay_setBay, if_neg other]
  · rfl

theorem stopVerify_bay_of_closed {b x : BayNo} (closed : (s.bay x).channel = .closed) : (stopVerify b s).bay x = s.bay x := by
  unfold stopVerify
  split
  · next c verify =>
    have other : x ≠ b := fun same => by rw [same, verify] at closed; cases closed
    split
    · rfl
    · exact (State.bay_setBay ..).trans (if_neg other)
  · rfl

/-- A cause given without a HALT leaves a bay with no channel alone. -/
theorem giveCause_bay_of_closed {x : BayNo} (closed : (s.bay x).channel = .closed) (d : DocketNo) (c : Cause) :
    (giveCause false d c s).bay x = s.bay x := by
  unfold giveCause
  split
  · rfl
  dsimp only
  split
  · have same (r : Docket) : (rejectQueued d (s.setDocket d (some r))).bay x = s.bay x := by simp
    unfold stopWork
    split <;>
      simp only [Bool.false_eq_true, if_false, abortBurn_bay_of_closed (closed := (congrArg Bay.channel (same _)).trans closed),
        stopVerify_bay_of_closed (closed := (congrArg Bay.channel (same _)).trans closed), same]
  · rfl

theorem releaseOf_bay_left {d : DocketNo} {b x : BayNo} (resetting : (s.bay x).state = .resetting) :
    (s.bay x).left ((releaseOf d b s).bay x) := by
  unfold releaseOf
  split
  · exact releaseBay_bay_left resetting
  · rfl

theorem dissolve_bay_left {d : DocketNo} {x : BayNo} (resetting : (s.bay x).state = .resetting) :
    (s.bay x).left ((dissolve d s).bay x) := by
  unfold dissolve
  split
  · rfl
  · dsimp only
    rw [forgetDissolved_bay]
    refine Bay.left.trans ?_ (releaseOf_bay_left (d := d) ?_)
    · split <;> simp <;> rfl
    · split <;> simp [resetting]

theorem dissolve_docket_self (d : DocketNo) (s : State) : (dissolve d s).docket d = none := by
  unfold dissolve
  split
  · assumption
  · exact forgetDissolved_docket ..

/-- Of an INBOUND docket that is rerouted the cause is given, and at most the state changes. -/
theorem reroute_docket (d : DocketNo) (c : Cause) (s : State) :
    ∃ st : Docket → DocketState, (reroute d c s).docket d = (s.docket d).map fun r => { r.giveCause c s.tower.time with state := st r } := by
  have given := giveCause_docket false d c s d
  rw [if_pos rfl] at given
  unfold reroute
  dsimp only
  split
  · refine ⟨fun r => (r.giveCause c s.tower.time).state, ?_⟩
    rw [given]
  split
  · next free =>
    rw [free] at given
    refine ⟨fun r => r.state, ?_⟩
    cases h : s.docket d with
    | none => rw [free]; rfl
    | some r => simp [h] at given
  · refine ⟨fun _ => .rejectOutbound, ?_⟩
    have moved : (setDocketState d .rejectOutbound (giveCause false d c s)).docket d
        = (s.docket d).map fun r => { r.giveCause c s.tower.time with state := .rejectOutbound } := by
      rw [setDocketState, updDocket_docket, if_pos rfl, given, Option.map_map]
      rfl
    rw [← moved]
    (repeat' split) <;> simp

theorem reroute_bay_left {d : DocketNo} {x : BayNo} (c : Cause) (resetting : (s.bay x).state = .resetting)
    (closed : (s.bay x).channel = .closed) : (s.bay x).left ((reroute d c s).bay x) := by
  have given := giveCause_bay_of_closed closed d c
  unfold reroute
  dsimp only
  split
  · rw [given]; rfl
  split
  · rw [given]; rfl
  · refine Bay.left.trans ?_ (releaseOf_bay_left (d := d) ?_)
    · split <;> simp [setDocketState, given] <;> rfl
    · split <;> simp [setDocketState, given, resetting]

theorem resetDocket_bay_left {b x : BayNo} (resetting : (s.bay x).state = .resetting) (closed : (s.bay x).channel = .closed) :
    (s.bay x).left ((resetDocket b s).bay x) := by
  unfold resetDocket
  split
  · rfl
  split
  · rfl
  split
  · exact dissolve_bay_left resetting
  · exact reroute_bay_left _ resetting closed
  · rw [giveCause_bay_of_closed closed]; rfl

theorem resetErrand_bay_left (b x : BayNo) (s : State) : (s.bay x).left ((resetErrand b s).bay x) := by
  unfold resetErrand
  split
  · rfl
  split
  · split
    · rw [returnTask_bay]; rfl
    · rw [endErrand_bay, State.bay_setBay]
      split
      · next same => subst same; rfl
      · rfl
    · rfl
  · rfl

theorem resetErrand_docketOf (b x : BayNo) (s : State) : ((resetErrand b s).bay x).docket = (s.bay x).docket := by
  unfold resetErrand
  split
  · rfl
  split
  · split
    · rw [returnTask_bay]
    · rw [endErrand_bay, State.bay_setBay]
      split
      · next same => rw [same]
      · rfl
    · rfl
  · rfl

/-- The docket of a bay at its reset. -/
theorem resetDocket_docket {b : BayNo} {d : DocketNo} {r : Docket} (docket : (s.bay b).docket = some d) (holds : s.docket d = some r) :
    (r.state = .reserved → (resetDocket b s).docket d = none)
    ∧ (r.state ≠ .reserved →
      ∃ st, (resetDocket b s).docket d = some { r.giveCause .bayReset s.tower.time with state := st }) := by
  simp only [resetDocket, docket, holds]
  refine ⟨fun reserved => ?_, fun live => ?_⟩
  · rw [reserved]
    exact dissolve_docket_self d s
  · split
    · contradiction
    · obtain ⟨st, made⟩ := reroute_docket d .bayReset s
      exact ⟨st r, by rw [made, holds]; rfl⟩
    · exact ⟨(r.giveCause .bayReset s.tower.time).state, by rw [giveCause_docket, if_pos rfl, holds]; rfl⟩

/-- The bay as its reset begins, with RESET outstanding. -/
def resetSent (b : BayNo) (s : State) : State :=
  setBayState b .resetting (sendReq b .reset .normal .reset (s.setBay b (s.bay b).beginReset))

/-- A bay as its reset begins, with RESET outstanding. -/
def Bay.resetting (r : Bay) : Bay :=
  { r.beginReset with state := .resetting, reqs := [{ req := .reset, purpose := .normal, left := timeoutOf .reset }] }

theorem resetSent_bay (b x : BayNo) (s : State) : (resetSent b s).bay x = if x = b then (s.bay b).resetting else s.bay x := by
  have none : (s.setBay b (s.bay b).beginReset).hasReq b .reset = false := by simp [State.hasReq, Bay.beginReset]
  rw [resetSent, setBayState_bay]
  split
  · rw [sendReq_bay, if_pos rfl, none, State.bay_setBay, if_pos rfl]
    rfl
  · next other => rw [sendReq_bay, if_neg other, State.bay_setBay, if_neg other]

@[simp] theorem resetSent_frame (b : BayNo) (s : State) : (resetSent b s).dockets = s.dockets ∧ (resetSent b s).tower = s.tower := by
  simp [resetSent]

theorem startReset_of_live {b : BayNo} (live : (s.bay b).state ≠ .retired ∧ (s.bay b).state ≠ .resetting) :
    startReset b s = resetDocket b (resetErrand b (discardChannel b (resetSent b s))) := by
  rw [startReset, if_neg (by tauto)]
  rfl

/-- What a bay reset makes of the bay: the docket and the stranded mark are left to the transport's and the docket's part. -/
theorem startReset_bay {b : BayNo} (live : (s.bay b).state ≠ .retired ∧ (s.bay b).state ≠ .resetting) :
    Bay.left ((discardChannel b (resetSent b s)).bay b) ((startReset b s).bay b)
    ∧ ((discardChannel b (resetSent b s)).bay b = (s.bay b).resetting ∧ (s.bay b).channel = .closed
      ∨ (discardChannel b (resetSent b s)).bay b = (s.bay b).resetting.dropped) := by
  have sent : (resetSent b s).bay b = (s.bay b).resetting := by rw [resetSent_bay, if_pos rfl]
  have errand := resetErrand_bay_left b b (discardChannel b (resetSent b s))
  have made : (discardChannel b (resetSent b s)).bay b = (s.bay b).resetting ∧ (s.bay b).channel = .closed
      ∨ (discardChannel b (resetSent b s)).bay b = (s.bay b).resetting.dropped := by
    rw [discardChannel_bay, sent]
    by_cases closed : (s.bay b).channel = .closed
    · exact .inl ⟨if_pos closed, closed⟩
    · exact .inr (if_neg closed)
  refine ⟨?_, made⟩
  rw [startReset_of_live live]
  refine errand.trans (resetDocket_bay_left ?_ ?_)
  · rw [errand.state]
    rcases made with ⟨h, _⟩ | h <;> rw [h] <;> rfl
  · rw [errand.channel, discardChannel_closed]

/-- What a bay reset makes of the bay's docket. -/
theorem startReset_docket {b : BayNo} {d : DocketNo} {r : Docket} (live : (s.bay b).state ≠ .retired ∧ (s.bay b).state ≠ .resetting)
    (docket : (s.bay b).docket = some d) (holds : s.docket d = some r) :
    (r.state = .reserved → (startReset b s).docket d = none)
    ∧ (r.state ≠ .reserved →
      ∃ st, (startReset b s).docket d = some { r.giveCause .bayReset s.tower.time with state := st }) := by
  rw [startReset_of_live live]
  have sentDocket : ((resetSent b s).bay b).docket = some d := by rw [resetSent_bay, if_pos rfl]; exact docket
  have docket' : ((resetErrand b (discardChannel b (resetSent b s))).bay b).docket = some d := by
    rw [resetErrand_docketOf, discardChannel_bay]
    split <;> exact sentDocket
  have holds' : (resetErrand b (discardChannel b (resetSent b s))).docket d = some r := by
    rw [State.docket_congr (s := s) (by simp)]; exact holds
  have time : (resetErrand b (discardChannel b (resetSent b s))).tower.time = s.tower.time := by simp
  obtain ⟨reserved, other⟩ := resetDocket_docket docket' holds'
  rw [time] at other
  exact ⟨reserved, other⟩

/-- Settles O23. -/
theorem bayReset : Obligations.BayReset := by
  intro i b s sent
  have gives {reason : Reason} {t : State} (e : svcResetBay b s = (reason, t)) : sent reason t :=
    serve_next (f := onBay b.val svcResetBay) ((onBay_val b svcResetBay s).trans e)
  clear_value sent
  refine ⟨fun absent => gives (if_pos absent), fun ⟨here, gone⟩ => gives ?_, fun ⟨here, already⟩ => gives ?_,
    fun ⟨here, live, fresh⟩ => gives ?_, fun live => ?_, fun d r gone fresh docket holds => ?_⟩
  · simp [svcResetBay, here, gone]
  · simp [svcResetBay, here, already, startReset]
  · simp [svcResetBay, here, live]
  · obtain ⟨left, made⟩ := startReset_bay live
    unfold Bay.left at left
    rcases made with ⟨made, closed⟩ | made <;> rw [made] at left <;> rw [State.hasReq, left] <;>
      refine ⟨rfl, rfl, ?_, ⟨by simp, by simp, by simp, by simp⟩, ⟨by simp, by simp, by simp⟩, rfl, rfl, rfl, rfl⟩
    · exact closed
    · rfl
  · obtain ⟨reserved, other⟩ := startReset_docket ⟨gone, fresh⟩ docket holds
    refine ⟨reserved, fun live causeless => ?_⟩
    obtain ⟨st, made⟩ := other live
    exact ⟨_, made, by simp [Docket.giveCause, causeless], by simp [Docket.giveCause, causeless]⟩

/-! ### The transport's services (O24) -/

theorem stopTransport_transport (s : State) : (stopTransport s).transport = { s.transport with
    state := .stopped, lift := s.transport.lift.stop, swing := none, swingTimer := none, phase := .none, errand := none
    gripper := none, gripTimer := none, placeTimer := none, carrying := s.stillCarried } := by
  simp [stopTransport, setPhase, setErrand, stopMotors, stopLift, setLift]

/-- The lift axis as homing starts (R49). -/
def homingStart (s : State) : Lift :=
  if s.sensor .liftHome then { s.transport.lift.stop.creep s.cal .homeUp true with travel := 0 }
  else { s.transport.lift.stop.creep s.cal .homeDown false with travel := 0, homeTimer := some 60000 }

theorem startHoming_transport (s : State) : (startHoming s).transport = { s.transport with
    lift := homingStart s, phase := if s.sensor .liftHome then .homeUp else .homeDown } := by
  unfold startHoming homingStart
  dsimp only
  split <;> rfl

/-- The state from which a resumed transport homes. -/
def resumed (s : State) : State :=
  setTransport .homing { s with transport := { s.transport with carrying := s.stillCarried } }

theorem resumed_transport (s : State) :
    (resumed s).transport = { s.transport with state := .homing, carrying := s.stillCarried } := by
  simp [resumed]

@[simp] theorem resumed_frame (s : State) : (resumed s).sensors = s.sensors ∧ (resumed s).tower = s.tower := by
  simp [resumed]

theorem resumeTransport_transport (s : State) : (resumeTransport s).transport = (startHoming (resumed s)).transport := by
  unfold resumeTransport
  dsimp only
  split
  · simp; rfl
  · rfl

theorem resumeTransport_towerState (s : State) :
    (resumeTransport s).tower.state = if s.tower.state = .halted then .running else s.tower.state := by
  unfold resumeTransport
  dsimp only
  split <;> simp

theorem stillCarried_of_halted (halted : s.transport.state = .halted) :
    s.stillCarried = (s.transport.carrying && s.sensor .discPresent) := by
  simp [State.stillCarried, halted]

theorem anyDocket_iff (s : State) : s.anyDocket = true ↔ ∃ d : DocketNo, s.docket d ≠ none := by
  have mem (d : DocketNo) : d ∈ Config.allDockets := by revert d; decide
  simp [State.anyDocket, mem, Option.isSome_iff_ne_none]

/-- Settles O24: the resume and the calibration. -/
theorem transportServices : Obligations.TransportServices := by
  refine ⟨fun i s => ⟨fun other => serve_next (if_neg other), fun halted => ?_⟩, ?_⟩
  · have sensor : (resumed s).sensor .liftHome = s.sensor .liftHome := State.sensor_congr (by simp) _
    have cal : (resumed s).cal = s.cal := State.cal_congr (by simp)
    refine ⟨resumeTransport s, serve_next (if_pos halted), ⟨by simp, by simp⟩, ⟨by simp, by simp, by simp⟩, by simp, by simp, by simp, by simp,
      ?_⟩
    rw [resumeTransport_transport, startHoming_transport, resumed_transport, resumeTransport_towerState]
    refine ⟨rfl, rfl, rfl, stillCarried_of_halted halted, fun home => ?_, fun away => ?_, ?_, fun h => if_pos h, fun h => if_neg h⟩
    · simp [homingStart, sensor, home, Lift.creep]
    · simp [homingStart, sensor, away, Lift.creep]
    · unfold homingStart
      rw [cal]
      split <;> rfl
  · intro i s sent
    have gives {reason : Reason} {t : State} (e : svcCalibrate s = (reason, t)) : sent reason t := serve_next e
    clear_value sent
    have idle (free : ∀ d : DocketNo, s.docket d = none) : ¬ s.anyDocket = true := fun h =>
      ((anyDocket_iff s).mp h).elim fun d used => used (free d)
    refine ⟨fun used => gives (if_pos ((anyDocket_iff s).mpr used)), fun ⟨free, loading⟩ => gives ?_, fun ⟨free, live⟩ => ?_⟩
    · simp [svcCalibrate, idle free, calibrate, loading]
    · have made : (calibrate s).transport = (stopTransport (closeSweepTray s)).transport := by
        simp [calibrate, live]
      have carried : (closeSweepTray s).stillCarried = s.stillCarried := by
        simp [State.stillCarried]
      refine ⟨calibrate s, gives (if_neg (idle free)), ?_⟩
      rw [made, stopTransport_transport, carried]
      refine ⟨?_, ?_, rfl, rfl, rfl, rfl, rfl, by simp, ?_, ⟨by simp, by simp⟩, ⟨by simp, by simp, by simp⟩, by simp, by simp⟩
      all_goals simp [calibrate, live]

end Sys2Proof.Machine
end

section
/-! PROOFS. The dispatch round: the pairing (O26), the docket it creates (O25) and the copies it keeps to (O27). -/

namespace Sys2Proof.Machine

variable {s t : State}

/-! ### The pairing of an idle bay (R39, R40) -/

/-- What makes a job fit a bay with a drive: it is eligible and a bin can be chosen. -/
theorem jobEligible_iff {j : Job} {r : Bay} {dr : Drive} (drive : r.drive = some dr) (n : BayNo) : jobEligible j r n = true ↔
    j.state = .active ∧ j.good + j.inFlight < j.copies ∧ j.reject ≤ j.maxRejects ∧ hasClass dr.classes j.mediaClass = true
      ∧ j.mask.getLsbD n.val = true := by
  have demand : 0 < j.demand ↔ j.good + j.inFlight < j.copies := by unfold Job.demand; omega
  simp only [jobEligible, drive, Bool.and_eq_true, decide_eq_true_eq, demand, beq_iff_eq]
  tauto

theorem binFor_eq_some (cls : MediaClass) (i : InputBin) : s.binFor cls = some i →
    ((s.bins.a.state = .loaded ∧ s.bins.a.cls = cls) ∨ (s.bins.b.state = .loaded ∧ s.bins.b.cls = cls))
    ∧ (i = .a ↔ s.bins.a.state = .loaded ∧ s.bins.a.cls = cls) := by
  unfold State.binFor
  split
  · next a => rintro ⟨⟩; exact ⟨.inl a, by simp [a]⟩
  · next a =>
    split
    · next b => rintro ⟨⟩; exact ⟨.inr b, by simp [a]⟩
    · rintro ⟨⟩

theorem binFor_eq_none (cls : MediaClass) : s.binFor cls = none ↔
    ¬ ((s.bins.a.state = .loaded ∧ s.bins.a.cls = cls) ∨ (s.bins.b.state = .loaded ∧ s.bins.b.cls = cls)) := by
  unfold State.binFor
  split
  · next a => simp [a]
  · next a =>
    split
    · next b => simp [b]
    · next b => simp [a, b]

theorem mem_candidates {r : Bay} {n : BayNo} {k : SlotNo} {j : Job} :
    (k, j) ∈ s.candidates r n ↔ s.job k = some j ∧ jobEligible j r n = true := by
  rw [State.candidates, (sortBy_spec _ _).1.mem_iff, List.mem_filterMap]
  constructor
  · rintro ⟨x, -, found⟩
    split at found
    · next j' job =>
      split at found
      · next able => cases found; exact ⟨job, able⟩
      · cases found
    · cases found
  · rintro ⟨job, able⟩
    exact ⟨k, mem_allSlots k, by simp [job, able]⟩

theorem pairing_some {r : Bay} {n : BayNo} {k : SlotNo} {j : Job} {i : InputBin} (paired : s.pairing r n = some (k, j, i)) :
    s.job k = some j ∧ jobEligible j r n = true ∧ s.binFor j.mediaClass = some i := by
  obtain ⟨p, mem, found⟩ := List.exists_of_findSome?_eq_some paired
  obtain ⟨i', bin, same⟩ := Option.map_eq_some_iff.mp found
  cases same
  obtain ⟨job, able⟩ := mem_candidates.mp mem
  exact ⟨job, able, bin⟩

/-- The pairing goes before every other candidate that has a bin. -/
theorem pairing_first {r : Bay} {n : BayNo} {k k' : SlotNo} {j j' : Job} {i : InputBin} (paired : s.pairing r n = some (k, j, i))
    (job : s.job k' = some j') (able : jobEligible j' r n = true) (bin : s.binFor j'.mediaClass ≠ none) :
    jobKey (k, j) ≤ jobKey (k', j') := by
  have sorted : (s.candidates r n).Pairwise fun a b => jobKey a ≤ jobKey b := (sortBy_spec _ _).2
  obtain ⟨before, a, after, split, found, skipped⟩ := List.findSome?_eq_some_iff.mp paired
  obtain ⟨_, _, same⟩ := Option.map_eq_some_iff.mp found
  cases same
  have mem := mem_candidates.mpr ⟨job, able⟩
  rw [split] at mem sorted
  rcases List.mem_append.mp mem with early | late
  · exact absurd (skipped _ early) (by simpa using bin)
  · rcases List.mem_cons.mp late with same | later
    · rw [same]
    · exact (List.pairwise_cons.mp (List.pairwise_append.mp sorted).2.1).1 _ later

/-- A lesser key is a higher priority, then a lower ticket, then a lower slot. -/
theorem jobKey_le {k k' : SlotNo} {j j' : Job} (priority : j.priority < 4 ∧ j'.priority < 4)
    (ticket : j.ticket < 2 ^ 32 ∧ j'.ticket < 2 ^ 32) (le : jobKey (k, j) ≤ jobKey (k', j')) :
    j'.priority < j.priority ∨ (j'.priority = j.priority ∧ (j.ticket < j'.ticket ∨ (j.ticket = j'.ticket ∧ k ≤ k'))) := by
  rw [Fin.le_def]
  simp only [jobKey] at le
  have := k.isLt
  have := k'.isLt
  omega

/-- Settles O26. -/
theorem pairingIsFirst : Obligations.PairingIsFirst := by
  intro r dr n s drive bounds fits
  have fits_iff (j : Job) : fits j ↔ jobEligible j r n = true ∧ s.binFor j.mediaClass ≠ none := by
    rw [jobEligible_iff drive, ne_eq, binFor_eq_none, not_not]
    simp only [fits]
    tauto
  clear_value fits
  refine ⟨fun k j i paired => ?_, fun unpaired k j job fit => ?_⟩
  · obtain ⟨job, able, bin⟩ := pairing_some paired
    refine ⟨job, (fits_iff j).mpr ⟨able, by simp [bin]⟩, (binFor_eq_some _ _ bin).2, fun k' j' job' fit => ?_⟩
    obtain ⟨able', bin'⟩ := (fits_iff j').mp fit
    obtain ⟨low, small⟩ := bounds k j job
    obtain ⟨low', small'⟩ := bounds k' j' job'
    exact jobKey_le ⟨low, low'⟩ ⟨small, small'⟩ (pairing_first paired job' able' bin')
  · obtain ⟨able, bin⟩ := (fits_iff j).mp fit
    exact bin (by simpa using List.findSome?_eq_none_iff.mp unpaired _ (mem_candidates.mpr ⟨job, able⟩))

/-! ### The docket created (R2, R41) -/

theorem mem_allDockets (d : DocketNo) : d ∈ Config.allDockets := by revert d; decide

theorem freeDocket_of_lowest {d : DocketNo} (free : s.docket d = none) (lower : ∀ x : DocketNo, x < d → s.docket x ≠ none) :
    s.freeDocket = some d :=
  find?_lowest (by decide) (mem_allDockets d) (by simp [free]) fun x less => by
    simpa [Option.isSome_iff_ne_none] using lower x less

theorem freeDocket_of_full (full : ∀ d : DocketNo, s.docket d ≠ none) : s.freeDocket = none :=
  List.find?_eq_none.mpr fun d _ => by simpa using full d

theorem bayOfLogical_of_holder {b n : BayNo} (distinct : s.numbersDistinct) (number : (s.bay b).logical = some n) :
    s.bayOfLogical n = some b := by
  cases found : s.bayOfLogical n with
  | none => exact absurd (List.find?_eq_none.mp found b (mem_allBays b)) (by simp [number])
  | some x =>
    have holds : (s.bay x).logical = some n := by simpa using List.find?_some found
    rw [distinct x b n holds number]

theorem bayOfLogical_of_none {n : BayNo} (unheld : ∀ b : BayNo, (s.bay b).logical ≠ some n) : s.bayOfLogical n = none :=
  List.find?_eq_none.mpr fun b _ => by simpa using unheld b

theorem Bay.idle_iff (r : Bay) : r.idle = true ↔ r.state = .idle ∧ r.failing = false := by
  simp [Bay.idle]

theorem considerBay_of_pairing {n b : BayNo} {k : SlotNo} {j : Job} {i : InputBin} {d : DocketNo} (number : s.bayOfLogical n = some b)
    (idle : (s.bay b).state = .idle ∧ (s.bay b).failing = false) (paired : s.pairing (s.bay b) n = some (k, j, i))
    (free : s.freeDocket = some d) : considerBay n s = createDocket d k j i b n s := by
  simp [considerBay, number, (Bay.idle_iff _).mpr idle, paired, free]

/-- A round's consideration of a number creates a docket for a pairing or does nothing. -/
theorem considerBay_cases (n : BayNo) (s : State) : considerBay n s = s
    ∨ ∃ b k j i d, s.pairing (s.bay b) n = some (k, j, i) ∧ considerBay n s = createDocket d k j i b n s := by
  unfold considerBay
  split
  · exact .inl rfl
  split
  · split
    · next b _ _ _ _ k j i d paired _ => exact .inr ⟨b, k, j, i, d, paired, rfl⟩
    · exact .inl rfl
  · exact .inl rfl

theorem queueTask_of_new {d : DocketNo} (kind : TaskKind) (source dest : Station) (queue : ∀ t ∈ s.transport.queue, t.docket ≠ d)
    (flight : ∀ t, s.taskInFlight = some t → t.docket ≠ d) :
    (queueTask d kind source dest s).transport.queue
      = s.transport.queue ++ [{ docket := d, kind := kind, source := source, dest := dest, age := s.transport.nextAge }] := by
  unfold queueTask
  rw [if_neg (by simpa using queue), if_neg]
  intro h
  obtain ⟨t, task, same⟩ := Option.map_eq_some_iff.mp h
  exact flight t task same

/-- The state in which the LOAD of a new docket is queued. -/
def reserved (d : DocketNo) (k : SlotNo) (j : Job) (i : InputBin) (b n : BayNo) (s : State) : State :=
  (setBayState b .reserved ((s.setDocket d (some (newDocket k j i b n))).setBay b { s.bay b with docket := some d })).setJob k
    (some { j with inFlight := j.inFlight + 1 })

theorem createDocket_eq (d : DocketNo) (k : SlotNo) (j : Job) (i : InputBin) (b n : BayNo) (s : State) :
    createDocket d k j i b n s = queueTask d .load (.input i) (.bay b) (reserved d k j i b n s) := rfl

theorem createDocket_job (d : DocketNo) (k : SlotNo) (j : Job) (i : InputBin) (b n : BayNo) (s : State) (x : SlotNo) :
    (createDocket d k j i b n s).job x = if x = k then some { j with inFlight := j.inFlight + 1 } else s.job x := by
  rw [createDocket_eq, queueTask_job, reserved, State.job_setJob]
  simp

theorem createDocket_docket (d : DocketNo) (k : SlotNo) (j : Job) (i : InputBin) (b n : BayNo) (s : State) (x : DocketNo) :
    (createDocket d k j i b n s).docket x = if x = d then some (newDocket k j i b n) else s.docket x := by
  rw [createDocket_eq, queueTask_docket, reserved]
  simp [State.docket_setDocket]

theorem createDocket_bay (d : DocketNo) (k : SlotNo) (j : Job) (i : InputBin) (b n : BayNo) (s : State) (x : BayNo) :
    (createDocket d k j i b n s).bay x = if x = b then { s.bay b with docket := some d, state := .reserved } else s.bay x := by
  rw [createDocket_eq, queueTask_bay, reserved, State.bay_setJob, setBayState_bay]
  split
  · rw [State.bay_setBay, if_pos rfl]
  · next other => rw [State.bay_setBay, if_neg other, State.bay_setDocket]

theorem createDocket_queue {d : DocketNo} {k : SlotNo} {j : Job} {i : InputBin} {b n : BayNo}
    (queue : ∀ t ∈ s.transport.queue, t.docket ≠ d) (flight : ∀ t, s.taskInFlight = some t → t.docket ≠ d) :
    (createDocket d k j i b n s).transport.queue = s.transport.queue ++
      [{ docket := d, kind := .load, source := .input i, dest := .bay b, age := s.transport.nextAge }] := by
  have same : (reserved d k j i b n s).transport = s.transport := by simp [reserved]
  rw [createDocket_eq, queueTask_of_new]
  · rw [same]
  · rw [same]; exact queue
  · rw [taskInFlight_congr (congrArg Transport.errand same)]; exact flight

theorem mayDispatch_iff (s : State) : s.mayDispatch = true ↔ (s.tower.state = .running ∨ s.tower.state = .halted) ∧ s.regs.run = true := by
  simp [State.mayDispatch]

/-- Settles O25: the round, and what it makes of one logical number. -/
theorem dispatchRound_holds : Obligations.DispatchRound := by
  have round {v w : State} (h : dispatchRound v = w) : exec .dispatchRound v = .next (conclude w) := next_conclude h
  refine ⟨fun s => ⟨fun idle => round ?_, fun due closed => round ?_, fun due open_ => round ?_⟩, fun n s unheld => ?_,
    fun n b s distinct number kept => ?_,
    fun n b k j i d s distinct number state sound paired free lower queue flight => ?_⟩
  · simp [dispatchRound, idle]
  · rw [dispatchRound, if_pos due]
    exact if_neg (by rwa [mayDispatch_iff])
  · rw [dispatchRound, if_pos due]
    exact if_pos ((mayDispatch_iff s).mpr open_)
  · simp [considerBay, bayOfLogical_of_none unheld]
  · have here := bayOfLogical_of_holder distinct number
    unfold considerBay
    rw [here]
    dsimp only
    split
    · next idle =>
      obtain ⟨state, sound⟩ := (Bay.idle_iff _).mp idle
      rcases kept with h | h | h | h
      · exact absurd state h
      · rw [sound] at h; cases h
      · rw [h]
      · rw [freeDocket_of_full h]
        cases s.pairing (s.bay b) n <;> rfl
    · rfl
  · rw [considerBay_of_pairing (bayOfLogical_of_holder distinct number) ⟨state, sound⟩ paired (freeDocket_of_lowest free lower)]
    refine ⟨⟨by simp, by simp, by simp, by simp⟩, ⟨by simp, by simp, by simp⟩, by simp, newDocket k j i b n, ?_, rfl, rfl, rfl, rfl, rfl, rfl,
      rfl, rfl, rfl, rfl, rfl, rfl, rfl, fun unlabelled => if_pos unlabelled, fun labelled => if_neg labelled, rfl, rfl, rfl, rfl, rfl, rfl, ?_, ?_, ?_,
      createDocket_queue queue flight, fun x other => ?_, fun x other => ?_, fun x other => ?_⟩
    · rw [createDocket_docket, if_pos rfl]
    · rw [createDocket_bay, if_pos rfl]
    · rw [createDocket_bay, if_pos rfl]
    · rw [createDocket_job, if_pos rfl]
    · rw [createDocket_docket, if_neg other]
    · rw [createDocket_job, if_neg other]
    · rw [createDocket_bay, if_neg other]

/-! ### The copies of a job (R23) -/

theorem considerBay_demandKept (n : BayNo) (kept : s.demandKept) : (considerBay n s).demandKept := by
  rcases considerBay_cases n s with same | ⟨b, k, j, i, d, paired, made⟩
  · rwa [same]
  · rw [made]
    intro x job held
    rw [createDocket_job] at held
    split at held
    · cases held
      obtain ⟨-, able, -⟩ := pairing_some paired
      have demand : 0 < j.demand := by
        simp only [jobEligible, Bool.and_eq_true, decide_eq_true_eq] at able
        exact able.1.1.1.2
      unfold Job.demand at demand
      dsimp only
      omega
    · exact kept x job held

theorem considerAll_demandKept (l : List BayNo) (kept : s.demandKept) : (l.foldl (fun u n => considerBay n u) s).demandKept := by
  induction l generalizing s with
  | nil => exact kept
  | cons n l ih => exact ih (considerBay_demandKept n kept)

/-- Settles O27: a docket is created only where the demand is not 0. -/
theorem demandKept : Obligations.DemandKept := by
  intro s kept
  unfold dispatchRound
  split
  · dsimp only
    split
    · exact considerAll_demandKept _ kept
    · exact kept
  · exact kept

end Sys2Proof.Machine
end

section
/-! PROOFS. The drives' messages: those discarded (O40), IDENTITY (O41) and the trays (O42). -/

namespace Sys2Proof.Machine

variable {s t u : State}

/-! ### Messages discarded (R68, R70) -/

theorem Bay.inBurn_iff (r : Bay) : r.inBurn = true ↔ r.state = .burning ∨ r.state = .finalizing := by
  simp [Bay.inBurn]

/-- Settles O40: each message that answers nothing. -/
theorem messagesDiscarded : Obligations.MessagesDiscarded := by
  intro b s r counted discarded inBurn
  have discard : discardMsg b s = discarded := rfl
  have gives {v : State} (h : v = discardMsg b s) : (Host.Outcome.next (conclude v) : Result) = .next (conclude discarded) := by
    rw [h, discard]
  have burn : (s.bay b).inBurn = true ↔ inBurn := Bay.inBurn_iff _
  have outside (h : ¬ inBurn) : (s.bay b).inBurn = false := Bool.eq_false_iff.mpr fun busy => h (burn.mp busy)
  have noBurn (h : r.state ≠ .burning) : (s.bay b).state ≠ .burning := h
  refine ⟨rfl, fun cls speed credits link unasked => gives ?_, fun unasked => gives ?_, fun unasked => gives ?_,
    fun kind cls cap unasked => gives ?_, fun n idle => gives ?_, fun g unasked oldest => gives ?_,
    fun unasked idle => ⟨gives ?_, gives ?_⟩, fun unhalted unasked => gives ?_, fun g unasked => gives ?_, fun unasked => gives ?_,
    fun unasked => gives ?_, fun code resting => next_conclude ?_,
    fun n halting busy => ⟨next_conclude ?_, next_conclude ?_, next_conclude ?_, next_conclude ?_⟩⟩
  · simp only [onIdentity, show s.hasReq b .identify = false from unasked]; rfl
  · simp only [onTrayOpen, show s.hasReq b .trayOpen = false from unasked]; rfl
  · simp only [onTrayClosed, show s.hasReq b .trayClose = false from unasked]; rfl
  · simp only [onMedia, show s.hasReq b .probe = false from unasked]; rfl
  · simp only [onCredit, outside idle]; rfl
  · have other : (s.bay b).oldestGroup ≠ some g := oldest
    unfold onWritten
    split
    · rfl
    · simp [show s.hasReq b .halt = false from unasked, other]
  · simp [onStarvedLinked, show s.hasReq b .halt = false from unasked, noBurn idle]
  · simp [onStarvedFailed, show s.hasReq b .halt = false from unasked, noBurn idle]
  · simp [onClosed, show s.hasReq b .halt = false from unhalted, show s.hasReq b .burnClose = false from unasked]
  · simp only [onReadFail, show s.hasReq b (.read g) = false from unasked]; rfl
  · simp only [onHalted, show s.hasReq b .halt = false from unasked]; rfl
  · simp only [onResetDone, show s.hasReq b .reset = false from unasked]; rfl
  · have state : (s.bay b).state = .resetting ∨ (s.bay b).state = .retired := resting
    rcases state with h | h <;> simp [onFault, h]
  · simp [onCredit, halting, burn.mpr busy]
  · simp [onStarvedLinked, halting, burn.mpr busy]
  · simp [onStarvedFailed, halting, burn.mpr busy]
  · simp [onClosed, halting, burn.mpr busy]

/-! ### IDENTITY (R73) -/

/-- The state in which an identified bay leaves DISCOVERING. -/
def identified (b : BayNo) (d : Drive) (s : State) : State :=
  (dropReq b .identify s).setBay b { (dropReq b .identify s).bay b with drive := some d }

theorem identified_bay (b x : BayNo) (d : Drive) (s : State) : (identified b d s).bay x =
    if x = b then { s.bay b with drive := some d, reqs := (s.bay b).reqs.eraseP fun o => o.req == .identify } else s.bay x := by
  rw [identified, State.bay_setBay]
  split
  · rw [dropReq_bay, if_pos rfl]
  · next other => rw [dropReq_bay, if_neg other]

@[simp] theorem identified_health (b : BayNo) (d : Drive) (s : State) : (identified b d s).health = s.health := by
  simp [identified]

theorem onIdentity_of_asked {b : BayNo} (d : Drive) (asked : s.hasReq b .identify = true) (state : (s.bay b).state = .discovering) :
    onIdentity b d s = leaveDiscovering (s.bay b).takingOver b (identified b d s) := by
  simp [onIdentity, asked, state, identified]

theorem enterSpare_self (b : BayNo) (s : State) : (enterSpare b s).bay b =
    if (s.bay b).failing then { s.bay b with state := .retired, logical := none } else { s.bay b with state := .spare } := by
  have entered : (setBayState b .spare s).bay b = { s.bay b with state := .spare } := by rw [setBayState_bay, if_pos rfl]
  unfold enterSpare
  dsimp only
  split
  · rw [retireSpare, retire_bay_self, endDesignation_bay, entered]
  · exact entered

/-- The first state of R73 that applies. -/
theorem leaveDiscovering_bay (k : Bool) (b : BayNo) (s : State) : (leaveDiscovering k b s).bay b =
    if (s.bay b).docket.isSome then { s.bay b with state := .holding }
    else if (s.bay b).stranded then { (sendReq b .probe .completion .probe s).bay b with state := .probing }
    else if (s.bay b).failing then { s.bay b with state := .retired, logical := none }
    else if s.health.spare = some b ∧ k = false then { s.bay b with state := .spare } else { s.bay b with state := .idle } := by
  unfold leaveDiscovering
  dsimp only
  split
  · rw [setBayState_bay, if_pos rfl]
  split
  · rw [setBayState_bay, if_pos rfl]
  split
  · rw [enterSpare_self]
  · rw [enterIdle_self]

theorem clampDrive_eq (cls : DriveClasses) (speed credits : Nat) (link : Bool) : clampDrive cls speed credits link =
    { classes := cls, linkCapable := link
      maxSpeed := if speed < 1 then 1 else if 16 < speed then 16 else speed
      maxCredits := if credits < 1 then 1 else if 8 < credits then 8 else credits } := by
  have clamp (n m : Nat) (pos : 1 ≤ m) : min m (max 1 n) = if n < 1 then 1 else if m < n then m else n := by
    split
    · omega
    · split <;> omega
  simp only [clampDrive, clamp _ _ (show 1 ≤ 16 by decide), clamp _ _ (show 1 ≤ 8 by decide)]

/-- Settles O41. -/
theorem identityTaken : Obligations.IdentityTaken := by
  intro b cls speed credits link s asked state
  have made := onIdentity_of_asked (clampDrive cls speed credits link) asked state
  have after := leaveDiscovering_bay (s.bay b).takingOver b (identified b (clampDrive cls speed credits link) s)
  rw [← made, identified_bay, if_pos rfl, identified_health] at after
  refine ⟨onIdentity b (clampDrive cls speed credits link) s, rfl, ⟨by simp, by simp, by simp, by simp⟩, ⟨by simp, by simp⟩,
    ⟨by simp, by simp, by simp⟩, by simp, ?_, fun holds => ?_, fun empty stranded => ?_, fun empty free failing => ?_,
    fun empty free sound spare fresh => ?_, fun empty free sound other => ?_⟩
  · rw [← clampDrive_eq]
    rw [after]
    split
    · rfl
    split
    · simp [sendReq_bay, identified_bay]
    split
    · rfl
    split <;> rfl
  · rw [after, if_pos (by simpa [Option.isSome_iff_ne_none] using holds)]
  · rw [after, State.hasReq, after, if_neg (by simp [empty]), if_pos stranded]
    exact ⟨rfl, sendReq_hasReq ..⟩
  · rw [after, if_neg (by simp [empty]), if_neg (by simp [free]), if_pos failing]
  · rw [after, if_neg (by simp [empty]), if_neg (by simp [free]), if_neg (by simp [sound]), if_pos ⟨spare, fresh⟩]
  · have notSpare : ¬ (s.health.spare = some b ∧ (s.bay b).takingOver = false) := by
      rintro ⟨spare, fresh⟩
      rcases other with h | h
      · exact h spare
      · rw [fresh] at h; cases h
    have idle : leaveDiscovering (s.bay b).takingOver b (identified b (clampDrive cls speed credits link) s)
        = enterIdle b (identified b (clampDrive cls speed credits link) s) := by
      simp only [leaveDiscovering, identified_bay, if_true, identified_health, empty, free, notSpare]
      rfl
    rw [after, if_neg (by simp [empty]), if_neg (by simp [free]), if_neg (by simp [sound]), if_neg notSpare]
    refine ⟨rfl, ?_⟩
    rw [made, idle, enterIdle_of_sound (by rw [identified_bay, if_pos rfl]; exact sound)]
    simp

/-! ### The trays (R75, R76) -/

/-- The state in which a tray has reported. -/
def trayAt (b : BayNo) (q : Request) (tray : Tray) (s : State) : State :=
  (dropReq b q s).setBay b { (dropReq b q s).bay b with tray := tray }

theorem trayAt_bay (b x : BayNo) (q : Request) (tray : Tray) (s : State) : (trayAt b q tray s).bay x =
    if x = b then { s.bay b with tray := tray, reqs := (s.bay b).reqs.eraseP fun o => o.req == q } else s.bay x := by
  rw [trayAt, State.bay_setBay]
  split
  · rw [dropReq_bay, if_pos rfl]
  · next other => rw [dropReq_bay, if_neg other]

@[simp] theorem trayAt_frame (b : BayNo) (q : Request) (tray : Tray) (s : State) :
    (trayAt b q tray s).dockets = s.dockets ∧ (trayAt b q tray s).health = s.health ∧ (trayAt b q tray s).tower = s.tower
    ∧ (trayAt b q tray s).regs = s.regs ∧ (trayAt b q tray s).jobs = s.jobs ∧ (trayAt b q tray s).faults = s.faults
    ∧ (trayAt b q tray s).pending = s.pending ∧ (trayAt b q tray s).board = s.board ∧ (trayAt b q tray s).sensors = s.sensors
    ∧ (trayAt b q tray s).bins = s.bins ∧ (trayAt b q tray s).printer = s.printer ∧ (trayAt b q tray s).transport = s.transport := by
  simp [trayAt]

theorem discInBay_of_place {b : BayNo} {d : DocketNo} {r : Docket} (docket : (s.bay b).docket = some d) (holds : s.docket d = some r)
    (place : r.place = some .bay) : s.discInBay b = some d := by
  simp [State.discInBay, docket, holds, place]

theorem toRejectWait_docket {d : DocketNo} {r : Docket} (holds : s.docket d = some r) (x : DocketNo) :
    (toRejectWait d s).docket x = if x = d then some { r with
      state := .rejectWait, place := some .bay
      burnEnd := if (r.state = .burning ∨ r.state = .finalizing) ∧ r.burnEnd = none then some s.tower.time else r.burnEnd }
    else s.docket x := by
  simp only [toRejectWait, holds, queueTask_docket, State.docket_setDocket]

theorem onTrayOpen_of_opening {b : BayNo} (asked : s.hasReq b .trayOpen = true) (state : (s.bay b).state = .opening)
    (held : (s.bay b).heldClose = false) : onTrayOpen b s = setBayState b .open (trayAt b .trayOpen .open s) := by
  simp [onTrayOpen, asked, state, held, trayAt]

/-- The state in which the held close of a tray just opened is asked for. -/
def closeHeld (b : BayNo) (s : State) : State :=
  (setBayState b .open (trayAt b .trayOpen .open s)).setBay b
    { (setBayState b .open (trayAt b .trayOpen .open s)).bay b with heldClose := false }

theorem onTrayOpen_of_held {b : BayNo} (asked : s.hasReq b .trayOpen = true) (state : (s.bay b).state = .opening)
    (held : (s.bay b).heldClose = true) : onTrayOpen b s = askTrayClose b (closeHeld b s) := by
  simp [onTrayOpen, asked, state, held, trayAt, closeHeld]

theorem closeHeld_bay (b x : BayNo) (s : State) : (closeHeld b s).bay x =
    if x = b then { (trayAt b .trayOpen .open s).bay b with state := .open, heldClose := false } else s.bay x := by
  rw [closeHeld, State.bay_setBay]
  split
  · rw [setBayState_bay, if_pos rfl]
  · next other => rw [setBayState_bay, if_neg other, trayAt_bay, if_neg other]

theorem onTrayOpen_of_other {b : BayNo} (asked : s.hasReq b .trayOpen = true) (state : (s.bay b).state ≠ .opening) :
    onTrayOpen b s = trayAt b .trayOpen .open s
    ∨ ∃ d, s.discInBay b = some d ∧ onTrayOpen b s = toRejectWait d (trayAt b .trayOpen .open s) := by
  unfold onTrayOpen
  rw [if_pos asked]
  dsimp only
  split
  · contradiction
  · split
    · next d disc => exact .inr ⟨d, disc, rfl⟩
    · exact .inl rfl
  · exact .inl rfl

theorem onTrayOpen_of_absent {b : BayNo} {d : DocketNo} (asked : s.hasReq b .trayOpen = true) (state : (s.bay b).state = .absent)
    (disc : s.discInBay b = some d) : onTrayOpen b s = toRejectWait d (trayAt b .trayOpen .open s) := by
  simp [onTrayOpen, asked, state, disc, trayAt]

/-- What TRAY_DONE open makes of the bays. -/
theorem onTrayOpen_bay {b : BayNo} (asked : s.hasReq b .trayOpen = true) :
    s.otherBays (onTrayOpen b s) b ∧ ((onTrayOpen b s).bay b).tray = .open
    ∧ ((s.bay b).state ≠ .opening → ((onTrayOpen b s).bay b).state = (s.bay b).state) := by
  by_cases state : (s.bay b).state = .opening
  · cases held : (s.bay b).heldClose with
    | false =>
      rw [onTrayOpen_of_opening asked state held]
      refine ⟨fun x other => ?_, ?_, fun h => absurd state h⟩
      · rw [setBayState_bay, if_neg other, trayAt_bay, if_neg other]
      · rw [setBayState_bay, if_pos rfl, trayAt_bay, if_pos rfl]
    | true =>
      rw [onTrayOpen_of_held asked state held]
      have open_ : ((closeHeld b s).bay b).state = .open := by rw [closeHeld_bay, if_pos rfl]
      refine ⟨fun x other => ?_, ?_, fun h => absurd state h⟩
      · rw [askTrayClose_bay_other other, closeHeld_bay, if_neg other]
      · rw [askTrayClose_of_open open_, setBayState_bay, if_pos rfl, sendReq_bay, if_pos rfl, closeHeld_bay, if_pos rfl, trayAt_bay,
          if_pos rfl]
  · have self (v : State) (bays : v.bays = (trayAt b .trayOpen .open s).bays) :
        s.otherBays v b ∧ (v.bay b).tray = .open ∧ ((s.bay b).state ≠ .opening → (v.bay b).state = (s.bay b).state) := by
      refine ⟨fun x other => ?_, ?_, fun _ => ?_⟩ <;> rw [State.bay_congr bays, trayAt_bay]
      · rw [if_neg other]
      · rw [if_pos rfl]
      · rw [if_pos rfl]
    rcases onTrayOpen_of_other asked state with made | ⟨d, disc, made⟩ <;> rw [made] <;> exact self _ (by simp)

theorem bayEmptied_bay (b : BayNo) (s : State) : (bayEmptied b s).bay b =
    if (s.bay b).failing then { s.bay b with state := .retired, logical := none }
    else if s.health.spare = some b then { s.bay b with state := .spare } else { s.bay b with state := .idle } := by
  unfold bayEmptied
  split
  · next spare => rw [enterSpare_self]
  · next spare => rw [enterIdle_self]

theorem onTrayClosed_of_empty {b : BayNo} (asked : s.hasReq b .trayClose = true) (state : (s.bay b).state = .closing)
    (empty : (s.bay b).docket = none) : onTrayClosed b s = bayEmptied b (trayAt b .trayClose .closed s) := by
  simp [onTrayClosed, asked, state, empty, trayAt]

theorem onTrayClosed_of_docket {b : BayNo} {d : DocketNo} {r : Docket} (asked : s.hasReq b .trayClose = true)
    (state : (s.bay b).state = .closing) (docket : (s.bay b).docket = some d) (holds : s.docket d = some r) :
    onTrayClosed b s = match r.state, r.verdict with
      | .seated, none => setBayState b .probing (sendReq b .probe .normal .probe (trayAt b .trayClose .closed s))
      | .seated, some _ => trayAt b .trayClose .closed s
      | _, _ => setBayState b .holding (trayAt b .trayClose .closed s) := by
  simp only [onTrayClosed, asked, if_true, state, docket, holds] <;> rfl

theorem onTrayClosed_tray {b : BayNo} (asked : s.hasReq b .trayClose = true) (state : (s.bay b).state = .closing) :
    ((onTrayClosed b s).bay b).tray = .closed := by
  have here : ((trayAt b .trayClose .closed s).bay b).tray = .closed := by rw [trayAt_bay, if_pos rfl]
  have empty : ((bayEmptied b (trayAt b .trayClose .closed s)).bay b).tray = .closed := by
    rw [bayEmptied_bay]
    (repeat' split) <;> exact here
  unfold onTrayClosed
  rw [if_pos asked]
  dsimp only
  rw [if_pos state]
  split
  · exact empty
  split
  · exact empty
  split
  · rw [setBayState_bay, if_pos rfl, sendReq_bay, if_pos rfl]; exact here
  · exact here
  · rw [setBayState_bay, if_pos rfl]; exact here

/-- Settles O42. -/
theorem traysReported : Obligations.TraysReported := by
  intro b s
  refine ⟨fun asked => ?_, fun asked state => ?_⟩
  · obtain ⟨others, tray, other⟩ := onTrayOpen_bay asked
    refine ⟨onTrayOpen b s, rfl, tray, ⟨by simp, by simp, by simp, by simp⟩, ⟨by simp, by simp, by simp⟩, by simp, by simp, others,
      fun ⟨state, held⟩ => ?_, fun ⟨state, held⟩ => ?_, other, fun d r state docket holds place => ?_⟩
    · rw [onTrayOpen_of_opening asked state held, setBayState_bay, if_pos rfl]
    · have self := closeHeld_bay b b s
      rw [if_pos rfl] at self
      have open_ : ((closeHeld b s).bay b).state = .open := by rw [self]
      rw [onTrayOpen_of_held asked state held]
      obtain ⟨closing, sent⟩ := askTrayClose_closes open_
      refine ⟨closing, ?_, sent⟩
      rw [askTrayClose_of_open open_, setBayState_bay, if_pos rfl, sendReq_bay, if_pos rfl, self]
    · have holds' : (trayAt b .trayOpen .open s).docket d = some r := by rw [State.docket_congr (s := s) (by simp)]; exact holds
      rw [onTrayOpen_of_absent asked state (discInBay_of_place docket holds place), toRejectWait_docket holds', if_pos rfl]
      exact ⟨_, rfl, rfl, rfl⟩
  · have self := trayAt_bay b b .trayClose .closed s
    rw [if_pos rfl] at self
    have emptied := bayEmptied_bay b (trayAt b .trayClose .closed s)
    rw [self] at emptied
    refine ⟨onTrayClosed b s, rfl, onTrayClosed_tray asked state, ⟨by simp, by simp, by simp, by simp⟩, ⟨by simp, by simp⟩,
      ⟨by simp, by simp, by simp⟩, by simp, fun empty failing => ?_, fun empty sound spare => ?_, fun empty sound spare => ?_,
      fun d r docket holds seated verdict => ?_, fun d r docket holds waits => ?_⟩
    · rw [onTrayClosed_of_empty asked state empty, emptied, if_pos failing]
    · rw [onTrayClosed_of_empty asked state empty, emptied, if_neg (by simp [sound]), if_pos (by simpa using spare)]
    · have made : onTrayClosed b s = enterIdle b (trayAt b .trayClose .closed s) := by
        rw [onTrayClosed_of_empty asked state empty, bayEmptied, if_neg (by simpa using spare)]
      rw [made]
      refine ⟨by rw [enterIdle_self, self, if_neg (by simp [sound])], fun ⟨allowed, run⟩ => ?_⟩
      rw [enterIdle_of_sound (by rw [self]; exact sound)]
      exact triggerRound_roundDue (by simpa using allowed) (by simpa using run)
    · rw [onTrayClosed_of_docket asked state docket holds, seated, verdict]
      exact ⟨by rw [setBayState_bay, if_pos rfl], by rw [setBayState_hasReq]; exact sendReq_hasReq ..⟩
    · rw [onTrayClosed_of_docket asked state docket holds]
      rcases waits with h | h <;> rw [h] <;> simp [setBayState_bay]

end Sys2Proof.Machine
end

section
/-! PROOFS. Health events of a bay at work, HALT, and the drives' messages of a burn and of a read-back (O45, O46, O47). -/

namespace Sys2Proof.Machine

variable {s t u : State}

/-! ### A hard event of a bay at work (R137, R138) -/

/-- A bay in a state in which a mark has no further effect. -/
def BayState.quiet (st : BayState) : Prop := st ≠ .retired ∧ st ≠ .idle ∧ st ≠ .spare

/-- The bay with a hard event counted. -/
def counted (b : BayNo) (s : State) : State := reportStatus (s.setBay b { s.bay b with hard := (s.bay b).hard + 1 })

theorem counted_bay (b x : BayNo) (s : State) :
    (counted b s).bay x = if x = b then { s.bay b with hard := (s.bay b).hard + 1 } else s.bay x := by
  rw [counted, reportStatus_bay, State.bay_setBay]

theorem hardUp_of_below {b : BayNo} (live : (s.bay b).state ≠ .retired) (below : (s.bay b).hard < 15) :
    hardUp b s = testLimits b (counted b s) := by
  rw [hardUp, if_neg (by rintro (h | h) <;> [exact live h; omega])]
  rfl

/-- A hard event raises the counter and may mark the bay; all else stays. -/
theorem hardUp_quiet {b : BayNo} (quiet : (s.bay b).state.quiet) (below : (s.bay b).hard < 15) :
    (∃ f, ∀ x, (hardUp b s).bay x = if x = b then { s.bay b with hard := (s.bay b).hard + 1, failing := f } else s.bay x)
    ∧ (hardUp b s).health = s.health ∧ (hardUp b s).faults = s.faults ∧ (hardUp b s).out = s.out := by
  obtain ⟨live, idle, spare⟩ := quiet
  have self : ((counted b s).bay b) = { s.bay b with hard := (s.bay b).hard + 1 } := by rw [counted_bay, if_pos rfl]
  rw [hardUp_of_below live below]
  unfold testLimits
  split
  · have made : markFailing b (counted b s) = marked b (counted b s) :=
      (markFailing_of_state b _).2.2 (by rw [self]; exact idle) (by rw [self]; exact spare)
    rw [made]
    refine ⟨⟨true, fun x => ?_⟩, by simp [counted], by simp [marked, counted], by simp [marked, counted]⟩
    rw [marked_bay, self, counted_bay]
    split <;> rfl
  · refine ⟨⟨(s.bay b).failing, fun x => counted_bay b x s⟩, by simp [counted], by simp [counted], by simp [counted]⟩

/-! ### Requests that leave a list -/

theorem dropReq_hasReq_other {q r : Request} (b x : BayNo) (s : State) (other : q ≠ r) : (dropReq b q s).hasReq x r = s.hasReq x r := by
  unfold State.hasReq
  rw [dropReq_bay]
  split
  · next same =>
    subst same
    rw [Bool.eq_iff_iff, List.any_eq_true, List.any_eq_true]
    refine exists_congr fun o => and_congr_left fun is => ?_
    have asks : o.req = r := by simpa using is
    exact List.mem_eraseP_of_neg (by simp [asks, Ne.symm other])
  · rfl

theorem dropReq_length {b : BayNo} {q : Request} (asked : s.hasReq b q = true) :
    ((dropReq b q s).bay b).reqs.length + 1 = (s.bay b).reqs.length := by
  rw [dropReq_bay, if_pos rfl]
  obtain ⟨o, mem, is⟩ := List.any_eq_true.mp asked
  exact List.length_eraseP_add_one mem is

/-! ### HALT (R82) -/

theorem sendHalt_of_live {b : BayNo} (unasked : s.hasReq b .halt = false) (live : (s.bay b).driveStopped = false) :
    sendHalt b s = sendReq b .halt .normal .halt ((withdrawBurn b s).setBay b { (withdrawBurn b s).bay b with credits := 0 }) := by
  simp [sendHalt, unasked, live]

/-- A request that a HALT leaves outstanding. -/
def outlivesHalt : Request → Bool
  | .burnOpen => false
  | .group _ => false
  | .burnClose => false
  | _ => true

theorem withdrawBurn_reqs (b : BayNo) (s : State) :
    ((withdrawBurn b s).bay b).reqs = (s.bay b).reqs.filter fun o => outlivesHalt o.req := by
  unfold withdrawBurn
  rw [State.bay_setBay, if_pos rfl]
  refine congrArg (fun p => List.filter p (s.bay b).reqs) (funext fun o => ?_)
  cases o.req <;> rfl

theorem withdrawBurn_hasReq (b : BayNo) (s : State) :
    (withdrawBurn b s).hasReq b .burnOpen = false ∧ (withdrawBurn b s).hasReq b .burnClose = false
    ∧ (withdrawBurn b s).hasReq b .halt = s.hasReq b .halt ∧ ((withdrawBurn b s).bay b).groupsOut = 0 := by
  unfold State.hasReq Bay.groupsOut
  rw [withdrawBurn_reqs]
  refine ⟨?_, ?_, ?_, ?_⟩
  · rw [Bool.eq_false_iff, ne_eq, List.any_eq_true]
    rintro ⟨o, mem, is⟩
    rw [List.mem_filter, beq_iff_eq.mp is] at mem
    cases mem.2
  · rw [Bool.eq_false_iff, ne_eq, List.any_eq_true]
    rintro ⟨o, mem, is⟩
    rw [List.mem_filter, beq_iff_eq.mp is] at mem
    cases mem.2
  · rw [Bool.eq_iff_iff, List.any_eq_true, List.any_eq_true]
    refine exists_congr fun o => and_congr_left fun is => ?_
    rw [List.mem_filter, beq_iff_eq.mp is]
    exact and_iff_left rfl
  · rw [List.length_eq_zero_iff, List.filter_eq_nil_iff]
    intro o mem
    rw [List.mem_filter] at mem
    have kept := mem.2
    cases ask : o.req <;> simp_all [outlivesHalt]

/-- What a HALT leaves of its bay. -/
theorem sendHalt_bay {b : BayNo} (unasked : s.hasReq b .halt = false) (live : (s.bay b).driveStopped = false) :
    s.otherBays (sendHalt b s) b ∧ (sendHalt b s).hasReq b .halt = true ∧ ((sendHalt b s).bay b).credits = 0
    ∧ ((sendHalt b s).bay b).groupsOut = 0 := by
  rw [sendHalt_of_live unasked live]
  refine ⟨fun x other => ?_, sendReq_hasReq .., ?_, ?_⟩
  · rw [sendReq_bay, if_neg other, State.bay_setBay, if_neg other, withdrawBurn_bay _ _ _ other]
  · rw [sendReq_bay, if_pos rfl, State.bay_setBay, if_pos rfl]
  · have none : ((withdrawBurn b s).setBay b { (withdrawBurn b s).bay b with credits := 0 }).hasReq b .halt = false := by
      rw [(setBay_hasReq (by rfl) b .halt), (withdrawBurn_hasReq b s).2.2.1, unasked]
    rw [sendReq_bay, if_pos rfl, none, State.bay_setBay, if_pos rfl]
    have before := (withdrawBurn_hasReq b s).2.2.2
    unfold Bay.groupsOut at before ⊢
    simp [List.filter_append, before]

theorem abortBurn_bay (b : BayNo) (s : State) : s.otherBays (abortBurn b s) b
    ∧ ((abortBurn b s).bay b).reqs = (s.bay b).reqs ∧ ((abortBurn b s).bay b).driveStopped = (s.bay b).driveStopped
    ∧ ((abortBurn b s).bay b).credits = (s.bay b).credits := by
  unfold abortBurn
  split
  · split
    · exact ⟨fun _ _ => rfl, rfl, rfl, rfl⟩
    · refine ⟨fun x other => ?_, ?_, ?_, ?_⟩ <;> rw [State.bay_setBay]
      · rw [if_neg other]
      all_goals rw [if_pos rfl]
  · exact ⟨fun _ _ => rfl, rfl, rfl, rfl⟩

/-- A cause given to a docket that burns: the channel aborts and, where asked, the drive is halted. -/
theorem giveCause_of_burning {d : DocketNo} {r : Docket} (holds : s.docket d = some r) (state : r.state = .burning ∨ r.state = .finalizing)
    (causeless : r.cause = .none) (halt : Bool) (c : Cause) : giveCause halt d c s =
      let v := abortBurn r.bay (rejectQueued d (s.setDocket d (some { r with
        cause := c, verdict := some .reject, verdictTime := some s.tower.time })))
      if halt then sendHalt r.bay v else v := by
  rw [giveCause_of_some holds, if_pos causeless]
  rcases state with h | h <;> simp only [stopWork, h]

theorem giveCause_burning_bay {b : BayNo} {d : DocketNo} {r : Docket} (holds : s.docket d = some r)
    (state : r.state = .burning ∨ r.state = .finalizing) (own : r.bay = b) (causeless : r.cause = .none) (c : Cause)
    (unasked : s.hasReq b .halt = false) (live : (s.bay b).driveStopped = false) :
    s.otherBays (giveCause true d c s) b ∧ (giveCause true d c s).hasReq b .halt = true
    ∧ ((giveCause true d c s).bay b).credits = 0 ∧ ((giveCause true d c s).bay b).groupsOut = 0 := by
  subst own
  rw [giveCause_of_burning holds state causeless]
  dsimp only
  rw [if_pos rfl]
  generalize before : rejectQueued d _ = v
  have same (x : BayNo) : v.bay x = s.bay x := by rw [← before]; simp
  obtain ⟨others, reqs, stopped, _⟩ := abortBurn_bay r.bay v
  have unasked' : (abortBurn r.bay v).hasReq r.bay .halt = false := by
    rw [State.hasReq_of_reqs (s := s) (by rw [reqs, same]), unasked]
  obtain ⟨others', halted, credits, groups⟩ := sendHalt_bay unasked' (by rw [stopped, same, live])
  exact ⟨fun x other => by rw [others' x other, others x other, same], halted, credits, groups⟩

/-! ### STARVED (R120, R121) -/

theorem onStarvedLinked_eq {b : BayNo} {d : DocketNo} {r : Docket} {c : Burn} (state : (s.bay b).state = .burning)
    (unasked : s.hasReq b .halt = false) (docket : (s.bay b).docket = some d) (burn : s.burnOf b = some c)
    (holds : s.docket d = some r) (below : r.links < 255) :
    onStarvedLinked b s =
      ((linkCause c.linkPermitted ((s.jobOf d).bind fun j => j.starvation.limit) (r.links + 1)).map fun cause =>
        giveCause true d cause (s.setDocket d (some { r with links := r.links + 1 }))).getD
      (s.setDocket d (some { r with links := r.links + 1 })) := by
  have up : countUp 255 r.links = r.links + 1 := if_pos below
  have calm : ¬ (s.hasReq b .halt = true ∧ (s.bay b).inBurn = true) := by simp [unasked]
  unfold onStarvedLinked
  rw [if_neg calm, if_pos state, docket, burn]
  dsimp only
  rw [holds]
  dsimp only
  rw [up]
  cases linkCause c.linkPermitted ((s.jobOf d).bind fun j => j.starvation.limit) (r.links + 1) <;> rfl

theorem jobOf_eq {d : DocketNo} {r : Docket} (holds : s.docket d = some r) : s.jobOf d = s.job r.slot := by
  simp [State.jobOf, holds]

/-- Settles O45. -/
theorem driveStarves : Obligations.DriveStarves := by
  intro b d r j c s state unasked live docket holds burning own causeless job burn below
  have unasked : s.hasReq b .halt = false := unasked
  have made := onStarvedLinked_eq state unasked docket burn holds below
  rw [jobOf_eq holds, job] at made
  refine ⟨fun l permitted limit within => next_conclude ?_, fun starves => ?_, ?_⟩
  · have calm : linkCause c.linkPermitted ((some j).bind fun j => j.starvation.limit) (r.links + 1) = none := by
      simp [linkCause, permitted, limit, Starvation.limit]
      omega
    rw [made, calm]
    rfl
  · have cause : linkCause c.linkPermitted ((some j).bind fun j => j.starvation.limit) (r.links + 1)
        = some (if c.linkPermitted = true then .linkLimit else .underrun) := by
      cases permitted : c.linkPermitted with
      | false => rfl
      | true =>
        obtain ⟨l, limit, passed⟩ := starves.resolve_left (by simp [permitted])
        simp [linkCause, limit, Starvation.limit, passed]
    rw [cause, Option.map_some, Option.getD_some] at made
    have holds' : (s.setDocket d (some { r with links := r.links + 1 })).docket d = some { r with links := r.links + 1 } := by
      rw [State.docket_setDocket, if_pos rfl]
    obtain ⟨others, halted, credits, groups⟩ := giveCause_burning_bay holds' (.inl burning) own causeless
      (if c.linkPermitted = true then .linkLimit else .underrun) unasked live
    refine ⟨_, rfl, ?_⟩
    show _ ∧ _ ∧ _ ∧ _ ∧ _ ∧ _
    rw [made]
    refine ⟨⟨by simp, by simp, by simp, by simp⟩, ⟨by simp, by simp, by simp⟩, by simp, by simp, others, halted, credits, groups, ?_⟩
    rw [giveCause_docket, if_pos rfl, holds']
    exact ⟨_, rfl, by simp [Docket.giveCause, causeless]⟩
  · have made' : onStarvedFailed b s = (withdrawBurn b (giveCause false d .underrun s)).setBay b
        { (withdrawBurn b (giveCause false d .underrun s)).bay b with driveStopped := true } := by
      simp [onStarvedFailed, unasked, state, docket]
    have holds' := giveCause_docket false d .underrun s d
    rw [if_pos rfl, holds] at holds'
    have given := giveCause_of_burning holds (.inl burning) causeless false .underrun
    dsimp only at given
    rw [if_neg (by decide), own] at given
    generalize before : rejectQueued d _ = v at given
    have same (x : BayNo) : v.bay x = s.bay x := by rw [← before]; simp
    obtain ⟨others, reqs, _, _⟩ := abortBurn_bay b v
    rw [← given] at others reqs
    obtain ⟨noOpen, noClose, halts, groups⟩ := withdrawBurn_hasReq b (giveCause false d .underrun s)
    have kept (q : Request) : ((withdrawBurn b (giveCause false d .underrun s)).setBay b
        { (withdrawBurn b (giveCause false d .underrun s)).bay b with driveStopped := true }).hasReq b q
        = (withdrawBurn b (giveCause false d .underrun s)).hasReq b q := setBay_hasReq (by rfl) b q
    refine ⟨onStarvedFailed b s, rfl, ?_⟩
    rw [made']
    refine ⟨⟨by simp, by simp, by simp, by simp⟩, ⟨by simp, by simp, by simp⟩, by simp, by simp, fun x other => ?_, ?_, ?_, ?_, ?_, ?_⟩
    · rw [State.bay_setBay, if_neg other, withdrawBurn_bay _ _ _ other, others x other, same]
    · rw [kept, halts, State.hasReq_of_reqs reqs, State.hasReq_congr (same b), unasked]
    · rw [kept, noOpen]
    · rw [kept, noClose]
    · unfold Bay.groupsOut at groups ⊢
      rw [State.bay_setBay, if_pos rfl]
      exact groups
    · rw [State.docket_congr (s := giveCause false d .underrun s) (by simp), holds']
      exact ⟨_, rfl, by simp [Docket.giveCause, causeless]⟩

/-! ### CLOSED (R81, R119, R124) -/

/-- The state in which a burn has closed, its burn end time set. -/
def burnClosed (b : BayNo) (d : DocketNo) (s : State) : State :=
  (dropChannel b ((dropReq b .burnClose s).setBay b { (dropReq b .burnClose s).bay b with credits := 0 })).updDocket d
    fun r => { r with burnEnd := some s.tower.time }

theorem burnClosed_bay (b x : BayNo) (d : DocketNo) (s : State) : (burnClosed b d s).bay x =
    if x = b then { (s.bay b).dropped with credits := 0, reqs := (s.bay b).reqs.eraseP fun o => o.req == .burnClose } else s.bay x := by
  rw [burnClosed, State.updDocket_bay, dropChannel_bay, State.bay_setBay, if_pos rfl, dropReq_bay, if_pos rfl]
  split
  · rfl
  · next other => rw [State.bay_setBay, if_neg other, dropReq_bay, if_neg other]

theorem burnClosed_docket {b : BayNo} {d : DocketNo} {r : Docket} (holds : s.docket d = some r) :
    (burnClosed b d s).docket d = some { r with burnEnd := some s.tower.time } := by
  rw [burnClosed, updDocket_docket, if_pos rfl, State.docket_congr (s := s) (by simp), holds]
  rfl

theorem burnClosed_frame (b : BayNo) (d : DocketNo) (s : State) :
    s.sameHost (burnClosed b d s) ∧ s.samePlant (burnClosed b d s) ∧ (burnClosed b d s).jobs = s.jobs
    ∧ (burnClosed b d s).faults = s.faults ∧ (burnClosed b d s).transport = s.transport := by
  unfold burnClosed
  exact ⟨⟨by simp, by simp, by simp, by simp⟩, ⟨by simp, by simp, by simp⟩, by simp, by simp, by simp⟩

theorem onClosed_of_docket {b : BayNo} {d : DocketNo} {r : Docket} {j : Job} (unasked : s.hasReq b .halt = false)
    (asked : s.hasReq b .burnClose = true) (docket : (s.bay b).docket = some d) (holds : s.docket d = some r)
    (job : s.job r.slot = some j) : onClosed b s =
      if j.verify then
        setBayState b .verifying (setDocketState d .verifying (setChannel b (.verify (newVerify d j)) (burnClosed b d s)))
      else goodInBay b d (burnClosed b d s) := by
  have owner : s.jobOf d = some j := by rw [jobOf_eq holds, job]
  simp [onClosed, unasked, asked, docket, owner, burnClosed]

/-- The docket of a disc that is good in its bay. -/
def good (d : DocketNo) (s : State) : State := setDocketState d .goodWait (giveGood d s)

theorem good_docket {d : DocketNo} {r : Docket} (holds : s.docket d = some r) : (good d s).docket d = some { r with
    state := .goodWait, verdict := some .good, verdictTime := some s.tower.time } := by
  rw [good, setDocketState, updDocket_docket, if_pos rfl, giveGood, updDocket_docket, if_pos rfl, holds]
  rfl

@[simp] theorem good_frame (d : DocketNo) (s : State) : (good d s).jobs = s.jobs ∧ (good d s).transport = s.transport
    ∧ (good d s).bays = s.bays ∧ (good d s).pending = s.pending ∧ (good d s).tower = s.tower ∧ (good d s).regs = s.regs
    ∧ (good d s).board = s.board ∧ (good d s).faults = s.faults ∧ (good d s).sensors = s.sensors ∧ (good d s).bins = s.bins
    ∧ (good d s).printer = s.printer := by
  simp [good, setDocketState, giveGood]

theorem goodInBay_eq (b : BayNo) (d : DocketNo) (s : State) :
    goodInBay b d s = queueTask d .unload (.bay b) ((good d s).goodDest d) (setBayState b .holding (good d s)) := rfl

theorem goodDest_of_job {d : DocketNo} {r : Docket} {j : Job} (holds : s.docket d = some r) (job : s.job r.slot = some j) :
    s.goodDest d = if j.bandCount = 0 then .output .good else .printer := by
  simp [State.goodDest, jobOf_eq holds, job]

/-- Settles O46. -/
theorem burnCloses : Obligations.BurnCloses := by
  intro b d r j s state unasked asked docket holds job queue flight
  have made := onClosed_of_docket unasked asked docket holds job
  have bays := burnClosed_bay b (d := d) (s := s)
  have self := bays b
  rw [if_pos rfl] at self
  have held := burnClosed_docket (b := b) holds
  obtain ⟨⟨pending, tower, regs, board⟩, ⟨sensors, bins, printer⟩, jobs, faults, arm⟩ := burnClosed_frame b d s
  generalize burnClosed b d s = v at *
  have time : v.tower.time = s.tower.time := by rw [tower]
  have framed {w : State} (same : w.pending = v.pending ∧ w.tower = v.tower ∧ w.regs = v.regs ∧ w.board = v.board
        ∧ w.sensors = v.sensors ∧ w.bins = v.bins ∧ w.printer = v.printer ∧ w.jobs = v.jobs ∧ w.faults = v.faults) :
      s.sameHost w ∧ s.samePlant w ∧ w.jobs = s.jobs ∧ w.faults = s.faults := by
    obtain ⟨h1, h2, h3, h4, h5, h6, h7, h8, h9⟩ := same
    exact ⟨⟨h1.trans pending, h2.trans tower, h3.trans regs, h4.trans board⟩,
      ⟨h5.trans sensors, h6.trans bins, h7.trans printer⟩, h8.trans jobs, h9.trans faults⟩
  refine ⟨onClosed b s, rfl, ?_⟩
  cases verify : j.verify with
  | true =>
    rw [made, if_pos verify]
    have bay (x : BayNo) : (setBayState b .verifying (setDocketState d .verifying (setChannel b (.verify (newVerify d j)) v))).bay x
        = if x = b then { v.bay b with channel := .verify (newVerify d j), state := .verifying } else v.bay x := by
      rw [setBayState_bay]
      simp only [setDocketState, State.updDocket_bay, setChannel_bay, if_true]
      split <;> rfl
    obtain ⟨host, plant, sameJobs, sameFaults⟩ := framed
      (w := setBayState b .verifying (setDocketState d .verifying (setChannel b (.verify (newVerify d j)) v))) (by simp [setChannel])
    refine ⟨?_, host, plant, sameJobs, sameFaults, fun x other => ?_, fun _ => ⟨?_, ?_, newVerify d j, ?_, rfl, rfl, rfl, rfl, rfl⟩, nofun⟩
    · rw [bay, if_pos rfl, self]
    · rw [bay, if_neg other, bays, if_neg other]
    · rw [bay, if_pos rfl]
    · rw [setBayState_docket, setDocketState, updDocket_docket, if_pos rfl, State.docket_congr (s := v) (by simp [setChannel]), held]
      rfl
    · simp [State.verifyOf, bay]
  | false =>
    rw [made, if_neg (by simp [verify]), goodInBay_eq]
    have bay (x : BayNo) : (queueTask d .unload (.bay b) ((good d v).goodDest d) (setBayState b .holding (good d v))).bay x
        = if x = b then { v.bay b with state := .holding } else v.bay x := by
      have same (y : BayNo) : (good d v).bay y = v.bay y := State.bay_congr (by simp) y
      rw [queueTask_bay, setBayState_bay, same, same]
    obtain ⟨host, plant, sameJobs, sameFaults⟩ := framed
      (w := queueTask d .unload (.bay b) ((good d v).goodDest d) (setBayState b .holding (good d v))) (by simp)
    have sameArm : (setBayState b .holding (good d v)).transport = s.transport := by simp [arm]
    refine ⟨?_, host, plant, sameJobs, sameFaults, fun x other => ?_, nofun, fun _ => ⟨?_, ?_, ?_,
      { docket := d, kind := .unload, source := .bay b, dest := (good d v).goodDest d, age := s.transport.nextAge },
      (queueTask_of_new _ _ _ (by rw [sameArm]; exact queue)
        (by rw [taskInFlight_congr (congrArg Transport.errand sameArm)]; exact flight)).trans ?_, rfl, rfl, rfl, ?_⟩⟩
    · rw [bay, if_pos rfl, self]
    · rw [bay, if_neg other, bays, if_neg other]
    · rw [bay, if_pos rfl]
    · rw [bay, if_pos rfl, self]; rfl
    · rw [queueTask_docket, setBayState_docket, good_docket held, time]
    · rw [sameArm]
    · refine goodDest_of_job (good_docket held) ?_
      rw [State.job_congr (s := s) (by simp [jobs])]
      exact job

/-! ### READ_DATA and READ_FAIL (R126, R129) -/

theorem verifyOf_setChannel (b : BayNo) (c : Verify) (s : State) : (setChannel b (.verify c) s).verifyOf b = some c := by
  simp [State.verifyOf, setChannel_bay]

theorem readLength_eq {b : BayNo} {d : DocketNo} {r : Docket} (docket : (s.bay b).docket = some d) (holds : s.docket d = some r)
    (g : Nat) : s.readLength b g = (s.job r.slot).map fun j => 2048 * min 16 (j.totalSectors - 16 * g) := by
  simp only [State.readLength, docket, Option.bind_some, jobOf_eq holds]
  rfl

/-- The answer to a READ taken off the list, with the channel as it then is. -/
def answered (b : BayNo) (g : Nat) (c : Verify) (s : State) : State := setChannel b (.verify c) (dropReq b (.read g) s)

theorem answered_spec {b : BayNo} {g : Nat} (c : Verify) (asked : s.hasReq b (.read g) = true) :
    (answered b g c s).verifyOf b = some c ∧ ((answered b g c s).bay b).reqs.length + 1 = (s.bay b).reqs.length
    ∧ answered b g c s = { s with bays := (answered b g c s).bays } ∧ s.otherBays (answered b g c s) b
    ∧ (answered b g c s).bay b = { s.bay b with
        reqs := (s.bay b).reqs.eraseP (fun o => o.req == .read g), channel := .verify c } := by
  have self : (answered b g c s).bay b = { s.bay b with
      reqs := (s.bay b).reqs.eraseP (fun o => o.req == .read g), channel := .verify c } := by
    rw [answered, setChannel_bay, if_pos rfl, dropReq_bay, if_pos rfl]
  refine ⟨verifyOf_setChannel .., ?_, rfl, fun x other => ?_, self⟩
  · rw [self, ← dropReq_length asked, dropReq_bay, if_pos rfl]
  · rw [answered, setChannel_bay, if_neg other, dropReq_bay, if_neg other]

theorem onReadData_of_length {b : BayNo} {g : Nat} {data : List Byte} {c : Verify} (verify : s.verifyOf b = some c)
    (asked : s.hasReq b (.read g) = true) (length : s.readLength b g = some data.length) : onReadData b g data s =
      answered b g { c with pages := if c.state = .reading then fillPage g data c.pages else dropPage g c.pages } s := by
  simp only [onReadData, length, ne_eq, not_true_eq_false, if_false, asked, if_true, verify, answered]
  cases state : c.state <;> rfl

theorem onReadFail_of_reading {b : BayNo} {g : Nat} {c : Verify} (verify : s.verifyOf b = some c) (asked : s.hasReq b (.read g) = true)
    (state : c.state = .reading) : onReadFail b g s =
      if c.marks.contains g then
        hardUp b (giveCause true c.docket .verify (answered b g { c with pages := dropPage g c.pages } s))
      else answered b g { c with pages := dropPage g c.pages, marks := g :: c.marks } s := by
  simp only [onReadFail, asked, if_true, verify, answered]
  rw [state]

theorem stopVerify_of_verify {b : BayNo} {c : Verify} (verify : (s.bay b).channel = .verify c) (reading : c.state = .reading) :
    stopVerify b s = { s.setBay b { s.bay b with compare := none, channel := .verify { c with state := .stopped } } with
      pageWaiters := s.pageWaiters.filter (· != b) } := by
  simp [stopVerify, verify, reading]

/-- A cause given to a docket in VERIFYING stops its channel. -/
theorem giveCause_of_verifying {b : BayNo} {d : DocketNo} {r : Docket} {c : Verify} (holds : s.docket d = some r)
    (state : r.state = .verifying) (own : r.bay = b) (causeless : r.cause = .none) (verify : (s.bay b).channel = .verify c)
    (reading : c.state = .reading) (halt : Bool) (cause : Cause) (x : BayNo) :
    (giveCause halt d cause s).bay x =
      if x = b then { s.bay b with compare := none, channel := .verify { c with state := .stopped } } else s.bay x := by
  subst own
  rw [giveCause_of_some holds, if_pos causeless]
  simp only [stopWork, state]
  generalize before : rejectQueued d _ = v
  have same (x : BayNo) : v.bay x = s.bay x := by rw [← before]; simp
  rw [stopVerify_of_verify (by rw [same]; exact verify) reading]
  exact (State.bay_setBay ..).trans (by rw [same, same])

/-- Settles O47. -/
theorem readsAnswered : Obligations.ReadsAnswered := by
  intro b g data c d r s verify owner docket holds asked
  subst owner
  refine ⟨readLength_eq docket holds g, fun length state => ?_, fun length state => ?_, fun n length other => next_conclude ?_,
    fun state unmarked => ?_, fun state marked causeless verifying own working below => ?_⟩
  · have made := onReadData_of_length verify asked length
    rw [if_pos state] at made
    obtain ⟨after, fewer, only, others, -⟩ := answered_spec { c with pages := fillPage g data c.pages } asked
    refine ⟨onReadData b g data s, rfl, ?_⟩
    rw [made]
    exact ⟨after, fewer, only, others⟩
  · have made := onReadData_of_length verify asked length
    rw [if_neg (by simp [state])] at made
    obtain ⟨after, fewer, only, others, -⟩ := answered_spec { c with pages := dropPage g c.pages } asked
    refine ⟨onReadData b g data s, rfl, ?_⟩
    rw [made]
    exact ⟨after, only, others⟩
  · simp only [onReadData, length, ne_eq, Ne.symm other, not_false_eq_true, if_true]
    rfl
  · have made := onReadFail_of_reading verify asked state
    rw [if_neg (by simpa using unmarked)] at made
    obtain ⟨after, fewer, only, others, self⟩ := answered_spec { c with pages := dropPage g c.pages, marks := g :: c.marks } asked
    refine ⟨onReadFail b g s, rfl, ?_⟩
    rw [made]
    exact ⟨after, only, others, by rw [self]⟩
  · have made := onReadFail_of_reading verify asked state
    rw [if_pos (by simpa using marked)] at made
    obtain ⟨-, -, only, others, self⟩ := answered_spec { c with pages := dropPage g c.pages } asked
    generalize answered b g { c with pages := dropPage g c.pages } s = v at *
    have holds' : v.docket c.docket = some r := by rw [only]; exact holds
    have bays := giveCause_of_verifying holds' verifying own causeless (congrArg Bay.channel self) state true .verify
    have here := bays b
    rw [if_pos rfl] at here
    obtain ⟨⟨f, raised⟩, -, -, -⟩ := hardUp_quiet (b := b) (s := giveCause true c.docket .verify v)
      (by rw [here, self]; simp [working, BayState.quiet]) (by rw [here, self]; exact below)
    refine ⟨onReadFail b g s, rfl, ?_⟩
    rw [made]
    refine ⟨?_, ⟨?_, ?_, ?_, ?_⟩, ⟨?_, ?_, ?_⟩, ?_, fun x other => ?_, ⟨{ c with pages := dropPage g c.pages, state := .stopped }, ?_, rfl, rfl⟩, ?_⟩
    · rw [raised, if_pos rfl, here, self]
    iterate 8 · simp; rw [only]
    · rw [raised, if_neg other, bays, if_neg other, others x other]
    · rw [State.verifyOf, raised, if_pos rfl, here]
    · rw [hardUp_docket, giveCause_docket, if_pos rfl, holds']
      exact ⟨_, rfl, by simp [Docket.giveCause, causeless]⟩

end Sys2Proof.Machine
end

section
/-! PROOFS. A job that stops, as later proofs use it, and MEDIA for a SEATED docket (O43). -/

namespace Sys2Proof.Machine

variable {s t u : State}

/-! ### What the end of a job and a dissolve leave of the jobs -/

/-- Of a job the in-flight count and the state alone differ, and it does not become ACTIVE again. -/
def Job.runsDown (j j' : Job) : Prop :=
  j' = { j with inFlight := j'.inFlight, state := j'.state } ∧ (j.state ≠ .active → j'.state ≠ .active)

theorem Job.runsDown_refl (j : Job) : j.runsDown j := ⟨rfl, id⟩

theorem Job.runsDown.trans {a b c : Job} (h : a.runsDown b) (k : b.runsDown c) : a.runsDown c := by
  obtain ⟨h, h'⟩ := h
  obtain ⟨k, k'⟩ := k
  exact ⟨by rw [k, h], fun stopped => k' (h' stopped)⟩

/-- Every job that is held stays held, at most run down. -/
def State.jobsRunDown (s t : State) : Prop := ∀ x j, s.job x = some j → ∃ j', t.job x = some j' ∧ j.runsDown j'

theorem State.jobsRunDown_of_eq (h : ∀ x, t.job x = s.job x) : s.jobsRunDown t :=
  fun x j held => ⟨j, (h x).trans held, j.runsDown_refl⟩

theorem State.jobsRunDown.trans (h : s.jobsRunDown t) (k : t.jobsRunDown u) : s.jobsRunDown u := by
  intro x j held
  obtain ⟨j', held', down⟩ := h x j held
  obtain ⟨j'', held'', down'⟩ := k x j' held'
  exact ⟨j'', held'', down.trans down'⟩

theorem updJob_jobsRunDown (k : SlotNo) (f : Job → Job) (s : State) (down : ∀ j : Job, j.runsDown (f j)) : s.jobsRunDown (s.updJob k f) := by
  intro x j held
  rw [updJob_job]
  split
  · next same => subst same; exact ⟨f j, by rw [held]; rfl, down j⟩
  · exact ⟨j, held, j.runsDown_refl⟩

theorem endJob_job (k x : SlotNo) (s : State) :
    (endJob k s).job x = if x = k then (s.job k).map fun j => { j with state := .ended } else s.job x := by
  unfold endJob
  dsimp only
  split <;> simp [updJob_job]

theorem endJob_jobsRunDown (k : SlotNo) (s : State) : s.jobsRunDown (endJob k s) := by
  intro x j held
  rw [endJob_job]
  split
  · next same => subst same; exact ⟨_, by rw [held]; rfl, rfl, fun _ => by simp⟩
  · exact ⟨j, held, j.runsDown_refl⟩

theorem endIfStopped_jobsRunDown (k : SlotNo) (s : State) : s.jobsRunDown (endIfStopped k s) := by
  unfold endIfStopped
  split
  · split
    · exact endJob_jobsRunDown k s
    · exact State.jobsRunDown_of_eq fun _ => rfl
  · exact State.jobsRunDown_of_eq fun _ => rfl

theorem forgetDissolved_jobsRunDown (d : DocketNo) (k : SlotNo) (s : State) : s.jobsRunDown (forgetDissolved d k s) := by
  refine State.jobsRunDown.trans ?_ (endIfStopped_jobsRunDown _ _)
  refine State.jobsRunDown.trans ?_ (State.jobsRunDown_of_eq fun x => triggerRound_job ..)
  exact State.jobsRunDown.trans (State.jobsRunDown_of_eq fun x => by simp) (updJob_jobsRunDown k _ _ fun j => ⟨rfl, id⟩)

theorem forgetDissolved_docket_other {d x : DocketNo} (other : x ≠ d) (k : SlotNo) (s : State) :
    (forgetDissolved d k s).docket x = s.docket x := by
  simp [forgetDissolved, State.docket_setDocket, other]

/-- The state of a dissolve in which the docket is forgotten: the task is gone and the bay released. -/
def undone (d : DocketNo) (r : Docket) (s : State) : State :=
  releaseOf d r.bay (if ((unqueueTask d s).taskInFlight.map (·.docket)) = some d then stopPick (unqueueTask d s) else unqueueTask d s)

theorem dissolve_of_some {d : DocketNo} {r : Docket} (holds : s.docket d = some r) :
    dissolve d s = forgetDissolved d r.slot (undone d r s) := by
  simp only [dissolve, holds]
  rfl

theorem undone_frame (d : DocketNo) (r : Docket) (s : State) :
    (undone d r s).jobs = s.jobs ∧ (undone d r s).dockets = s.dockets := by
  unfold undone releaseOf
  (repeat' split) <;> simp

theorem dissolve_jobsRunDown (d : DocketNo) (s : State) : s.jobsRunDown (dissolve d s) := by
  cases holds : s.docket d with
  | none => exact State.jobsRunDown_of_eq fun x => by simp [dissolve, holds]
  | some r =>
    rw [dissolve_of_some holds]
    exact State.jobsRunDown.trans (State.jobsRunDown_of_eq fun x => State.job_congr (undone_frame d r s).1 x)
      (forgetDissolved_jobsRunDown _ _ _)

theorem dissolve_docket_other {d x : DocketNo} (other : x ≠ d) (s : State) : (dissolve d s).docket x = s.docket x := by
  cases holds : s.docket d with
  | none => simp [dissolve, holds]
  | some r =>
    rw [dissolve_of_some holds, forgetDissolved_docket_other other]
    exact State.docket_congr (undone_frame d r s).2 x

theorem reroute_docket_other {d x : DocketNo} (other : x ≠ d) (c : Cause) (s : State) : (reroute d c s).docket x = s.docket x := by
  have given : (giveCause false d c s).docket x = s.docket x := by rw [giveCause_docket, if_neg other]
  unfold reroute
  dsimp only
  (repeat' split) <;> simp [setDocketState, updDocket_docket, other, given]

/-! ### One docket of a job that stops (R17) -/

/-- The table of R17: what is done with a docket of a stopping job, by its state. -/
theorem stopDocket_cases {d : DocketNo} {r : Docket} (holds : s.docket d = some r) (c : Cause) :
    (r.state = .reserved ∧ stopDocket c d s = dissolve d s) ∨ (r.state = .inbound ∧ stopDocket c d s = reroute d c s)
    ∨ ((r.state = .seated ∨ r.state = .burning ∨ r.state = .finalizing ∨ r.state = .verifying) ∧ stopDocket c d s = giveCause true d c s)
    ∨ ((r.state ≠ .seated ∧ r.state ≠ .burning ∧ r.state ≠ .finalizing ∧ r.state ≠ .verifying) ∧ stopDocket c d s = s) := by
  cases state : r.state <;> simp [stopDocket, holds, state]

theorem stopDocket_of_free {d : DocketNo} (free : s.docket d = none) (c : Cause) : stopDocket c d s = s := by
  simp [stopDocket, free]

/-- The treatment of a docket is one of these. -/
theorem stopDocket_is (c : Cause) (d : DocketNo) (s : State) : stopDocket c d s = dissolve d s ∨ stopDocket c d s = reroute d c s
    ∨ stopDocket c d s = giveCause true d c s ∨ stopDocket c d s = s := by
  cases holds : s.docket d with
  | none => exact .inr (.inr (.inr (stopDocket_of_free holds c)))
  | some r =>
    rcases stopDocket_cases holds c with ⟨_, h⟩ | ⟨_, h⟩ | ⟨_, h⟩ | ⟨_, h⟩
    · exact .inl h
    · exact .inr (.inl h)
    · exact .inr (.inr (.inl h))
    · exact .inr (.inr (.inr h))

theorem stopDocket_docket_other {d x : DocketNo} (other : x ≠ d) (c : Cause) (s : State) :
    (stopDocket c d s).docket x = s.docket x := by
  rcases stopDocket_is c d s with h | h | h | h <;> rw [h]
  · exact dissolve_docket_other other s
  · exact reroute_docket_other other c s
  · rw [giveCause_docket, if_neg other]

theorem stopDocket_jobsRunDown (c : Cause) (d : DocketNo) (s : State) : s.jobsRunDown (stopDocket c d s) := by
  rcases stopDocket_is c d s with h | h | h | h <;> rw [h]
  · exact dissolve_jobsRunDown d s
  · exact State.jobsRunDown_of_eq fun x => by simp
  · exact State.jobsRunDown_of_eq fun x => by simp
  · exact State.jobsRunDown_of_eq fun _ => rfl

theorem giveCause_docket_of_caused {d : DocketNo} {r : Docket} (holds : s.docket d = some r) (caused : r.cause ≠ .none) (halt : Bool)
    (c : Cause) : (giveCause halt d c s).docket d = some r := by
  rw [giveCause_docket, if_pos rfl, holds, Option.map_some, Docket.giveCause, if_neg caused]

/-- A docket that has its cause already and is neither RESERVED nor INBOUND keeps what it has. -/
theorem stopDocket_docket_of_caused {d : DocketNo} {r : Docket} (holds : s.docket d = some r) (caused : r.cause ≠ .none)
    (state : r.state ≠ .reserved ∧ r.state ≠ .inbound) (c : Cause) (x : DocketNo) : (stopDocket c x s).docket d = some r := by
  by_cases other : d = x
  · subst other
    have given := giveCause_docket_of_caused holds caused true c
    rcases stopDocket_cases holds c with ⟨h, _⟩ | ⟨h, _⟩ | ⟨_, h⟩ | ⟨_, h⟩
    · exact absurd h state.1
    · exact absurd h state.2
    · rw [h]; exact given
    · rw [h]; exact holds
  · rw [stopDocket_docket_other other, holds]

/-- The treatment of a list of dockets. -/
def stopAll (c : Cause) (l : List DocketNo) (s : State) : State := l.foldl (fun u d => stopDocket c d u) s

theorem stopAll_jobsRunDown (c : Cause) (l : List DocketNo) (s : State) : s.jobsRunDown (stopAll c l s) := by
  induction l generalizing s with
  | nil => exact State.jobsRunDown_of_eq fun _ => rfl
  | cons d l ih => exact (stopDocket_jobsRunDown c d s).trans (ih _)

theorem stopAll_docket_of_caused {d : DocketNo} {r : Docket} (holds : s.docket d = some r) (caused : r.cause ≠ .none)
    (state : r.state ≠ .reserved ∧ r.state ≠ .inbound) (c : Cause) (l : List DocketNo) : (stopAll c l s).docket d = some r := by
  induction l generalizing s with
  | nil => exact holds
  | cons x l ih => exact ih (stopDocket_docket_of_caused holds caused state c x)

/-! ### A job that stops (R17, R27) -/

/-- The job as it begins to stop. -/
def stopping (k : SlotNo) (j : Job) (outcome : JobOutcome) (fail : Cause) (s : State) : State :=
  s.setJob k (some { j with state := .stopping, outcome := some outcome, failCause := fail })

/-- The state in which the dockets of a stopping job have been treated. -/
def treated (k : SlotNo) (j : Job) (outcome : JobOutcome) (fail given : Cause) (s : State) : State :=
  stopAll given ((stopping k j outcome fail s).docketsOf k) (stopping k j outcome fail s)

theorem stopJob_of_inactive {k : SlotNo} (inactive : ∀ j, s.job k = some j → j.state ≠ .active) (outcome : JobOutcome)
    (fail given : Cause) : stopJob k outcome fail given s = s := by
  unfold stopJob
  split
  · rfl
  · next j held => exact if_neg (inactive j held)

theorem treated_job {k : SlotNo} {j : Job} (outcome : JobOutcome) (fail given : Cause) (s : State) :
    ∃ j', (treated k j outcome fail given s).job k = some j' ∧ j'.state ≠ .active ∧ j'.outcome = some outcome ∧ j'.failCause = fail := by
  obtain ⟨j', held, same, stays⟩ := stopAll_jobsRunDown given ((stopping k j outcome fail s).docketsOf k) (stopping k j outcome fail s) k
    { j with state := .stopping, outcome := some outcome, failCause := fail } (by rw [stopping, State.job_setJob, if_pos rfl])
  exact ⟨j', held, stays (by simp), by rw [same], by rw [same]⟩

theorem stopJob_of_active {k : SlotNo} {j : Job} (held : s.job k = some j) (active : j.state = .active) (outcome : JobOutcome)
    (fail given : Cause) : ∃ j', (treated k j outcome fail given s).job k = some j'
      ∧ j'.state ≠ .active ∧ j'.outcome = some outcome ∧ j'.failCause = fail
      ∧ stopJob k outcome fail given s = if j'.state = .stopping ∧ j'.inFlight = 0 then endJob k (treated k j outcome fail given s)
          else treated k j outcome fail given s := by
  obtain ⟨j', after, stopped, out, cause⟩ := treated_job (k := k) (j := j) outcome fail given s
  refine ⟨j', after, stopped, out, cause, ?_⟩
  have step : stopJob k outcome fail given s =
      match (treated k j outcome fail given s).job k with
      | some j2 => if j2.state = .stopping ∧ j2.inFlight = 0 then endJob k (treated k j outcome fail given s)
          else treated k j outcome fail given s
      | none => treated k j outcome fail given s := by
    simp only [stopJob, held, active, if_true]
    rfl
  rw [step, after]

/-- The job of a stop: its outcome and fail cause stand. -/
theorem stopJob_job {k : SlotNo} {j : Job} (held : s.job k = some j) (active : j.state = .active) (outcome : JobOutcome)
    (fail given : Cause) :
    ∃ j', (stopJob k outcome fail given s).job k = some j' ∧ j'.state ≠ .active ∧ j'.outcome = some outcome ∧ j'.failCause = fail := by
  obtain ⟨j', after, stopped, out, cause, made⟩ := stopJob_of_active held active outcome fail given
  rw [made]
  split
  · rw [endJob_job, if_pos rfl, after]
    exact ⟨_, rfl, by simp, out, cause⟩
  · exact ⟨j', after, stopped, out, cause⟩

theorem stopJob_docket_of_caused {d : DocketNo} {r : Docket} (holds : s.docket d = some r) (caused : r.cause ≠ .none)
    (state : r.state ≠ .reserved ∧ r.state ≠ .inbound) (k : SlotNo) (outcome : JobOutcome) (fail given : Cause) :
    (stopJob k outcome fail given s).docket d = some r := by
  by_cases active : ∃ j, s.job k = some j ∧ j.state = .active
  · obtain ⟨j, held, active⟩ := active
    obtain ⟨j', -, -, -, -, made⟩ := stopJob_of_active held active outcome fail given
    have after : (treated k j outcome fail given s).docket d = some r :=
      stopAll_docket_of_caused (by rw [stopping, State.docket_setJob]; exact holds) caused state ..
    rw [made]
    split
    · rw [endJob_docket, after]
    · exact after
  · rw [stopJob_of_inactive (fun j held h => active ⟨j, held, h⟩), holds]

/-! ### The hard counter through what befalls a docket -/

/-- No bay's hard counter changes. -/
def State.sameHard (s t : State) : Prop := ∀ x : BayNo, (t.bay x).hard = (s.bay x).hard

theorem State.sameHard_of_bays (h : t.bays = s.bays) : s.sameHard t := fun x => by rw [State.bay_congr h]

theorem State.sameHard.trans (h : s.sameHard t) (k : t.sameHard u) : s.sameHard u := fun x => (k x).trans (h x)

theorem retire_sameHard (b : BayNo) (s : State) : s.sameHard (retire b s) := by
  intro x
  by_cases self : x = b
  · subst self; rw [retire_bay_self]
  · rcases (retire_other self s).1 with same | ⟨⟨_, _, n, taken⟩, _⟩
    · rw [same]
    · rw [taken]; rfl

theorem enterIdle_sameHard (b : BayNo) (s : State) : s.sameHard (enterIdle b s) := by
  unfold enterIdle
  split
  · exact retire_sameHard b s
  · intro x
    rw [triggerRound_bay, setBayState_bay]
    split
    · next same => rw [same]
    · rfl

theorem askTrayClose_sameHard (b : BayNo) (s : State) : s.sameHard (askTrayClose b s) := by
  intro x
  by_cases self : x = b
  · subst self
    unfold askTrayClose
    split <;> simp [setBayState_bay, sendReq_bay]
  · rw [askTrayClose_bay_other self]

theorem releaseBay_sameHard (b : BayNo) (s : State) : s.sameHard (releaseBay b s) := by
  have freed : s.sameHard (s.setBay b { s.bay b with docket := none }) := by
    intro x
    rw [State.bay_setBay]
    split
    · next same => rw [same]
    · rfl
  unfold releaseBay
  dsimp only
  split
  · exact freed.trans (enterIdle_sameHard _ _)
  · exact freed.trans (askTrayClose_sameHard _ _)
  · exact freed.trans (askTrayClose_sameHard _ _)
  · exact freed

theorem releaseOf_sameHard (d : DocketNo) (b : BayNo) (s : State) : s.sameHard (releaseOf d b s) := by
  unfold releaseOf
  split
  · exact releaseBay_sameHard b s
  · exact fun _ => rfl

theorem giveCause_sameHard (halt : Bool) (d : DocketNo) (c : Cause) (s : State) : s.sameHard (giveCause halt d c s) :=
  fun x => (giveCause_bay_keeps halt d c s x).hard

theorem undone_sameHard (d : DocketNo) (r : Docket) (s : State) : s.sameHard (undone d r s) := by
  refine State.sameHard.trans (State.sameHard_of_bays ?_) (releaseOf_sameHard _ _ _)
  split <;> simp

theorem dissolve_sameHard (d : DocketNo) (s : State) : s.sameHard (dissolve d s) := by
  cases holds : s.docket d with
  | none => exact fun _ => by simp [dissolve, holds]
  | some r =>
    rw [dissolve_of_some holds]
    exact (undone_sameHard d r s).trans (State.sameHard_of_bays (by simp))

theorem reroute_sameHard (d : DocketNo) (c : Cause) (s : State) : s.sameHard (reroute d c s) := by
  have given := giveCause_sameHard false d c s
  unfold reroute
  dsimp only
  split
  · exact given
  split
  · exact given
  · refine given.trans (State.sameHard.trans (State.sameHard_of_bays ?_) (releaseOf_sameHard d _ _))
    split <;> simp [setDocketState]

theorem stopDocket_sameHard (c : Cause) (d : DocketNo) (s : State) : s.sameHard (stopDocket c d s) := by
  rcases stopDocket_is c d s with h | h | h | h <;> rw [h]
  · exact dissolve_sameHard d s
  · exact reroute_sameHard d c s
  · exact giveCause_sameHard true d c s
  · exact fun _ => rfl

theorem stopAll_sameHard (c : Cause) (l : List DocketNo) (s : State) : s.sameHard (stopAll c l s) := by
  induction l generalizing s with
  | nil => exact fun _ => rfl
  | cons d l ih => exact (stopDocket_sameHard c d s).trans (ih _)

theorem stopJob_sameHard (k : SlotNo) (outcome : JobOutcome) (fail given : Cause) (s : State) :
    s.sameHard (stopJob k outcome fail given s) := by
  by_cases active : ∃ j, s.job k = some j ∧ j.state = .active
  · obtain ⟨j, held, active⟩ := active
    obtain ⟨j', -, -, -, -, made⟩ := stopJob_of_active held active outcome fail given
    have after : s.sameHard (treated k j outcome fail given s) :=
      State.sameHard.trans (State.sameHard_of_bays (by simp [stopping])) (stopAll_sameHard _ _ _)
    rw [made]
    split
    · exact after.trans (State.sameHard_of_bays (by simp))
    · exact after
  · rw [stopJob_of_inactive (fun j held h => active ⟨j, held, h⟩)]
    exact fun _ => rfl

/-! ### MEDIA for a SEATED docket (R5, R78) -/

theorem failJob_of_some {d : DocketNo} {r : Docket} (holds : s.docket d = some r) (c : Cause) :
    failJob d c s = stopJob r.slot .failed c .jobFailed (giveCause true d c s) := by
  simp [failJob, holds]

theorem failJob_sameHard (d : DocketNo) (c : Cause) (s : State) : s.sameHard (failJob d c s) := by
  unfold failJob
  split
  · exact fun _ => rfl
  · exact (giveCause_sameHard true d c s).trans (stopJob_sameHard _ _ _ _ _)

/-- The docket of a job fault: the cause is its own first (R30). -/
theorem failJob_docket {d : DocketNo} {r : Docket} (holds : s.docket d = some r) (state : r.state ≠ .reserved ∧ r.state ≠ .inbound)
    {c : Cause} (given : c ≠ .none) : (failJob d c s).docket d = some (r.giveCause c s.tower.time) := by
  rw [failJob_of_some holds]
  refine stopJob_docket_of_caused (by rw [giveCause_docket, if_pos rfl, holds]; rfl) ?_ ?_ ..
  · unfold Docket.giveCause
    split
    · exact given
    · assumption
  · unfold Docket.giveCause
    split <;> exact state

/-- The bay's part of a probe that answers: the request is off the list. -/
theorem onMedia_of_seated {b : BayNo} {d : DocketNo} {r : Docket} (asked : s.hasReq b .probe = true)
    (docket : (s.bay b).docket = some d) (holds : s.docket d = some r) (seated : r.state = .seated) (kind : MediaKind)
    (cls : MediaClass) (cap : Nat) : onMedia b kind cls cap s = mediaSeated b d r kind cls cap (dropReq b .probe s) := by
  simp [onMedia, asked, docket, holds, seated]

theorem mediaSeated_blank {b : BayNo} {d : DocketNo} {r : Docket} {j : Job} (job : s.job r.slot = some j) (cls : MediaClass)
    (cap : Nat) : mediaSeated b d r .blank cls cap s =
      if cls = j.mediaClass then
        if j.totalSectors ≤ cap then (if r.verdict = none then openBurn b d j s else s) else failJob d .tooLarge s
      else giveCause true d .mediaUnsuitable s := by
  simp [mediaSeated, job]

/-- Any disc but a blank: MEDIA_UNSUITABLE and a hard event, and where there is none a fault besides. -/
theorem mediaSeated_other {b : BayNo} {d : DocketNo} {r : Docket} {kind : MediaKind} (other : kind ≠ .blank) (cls : MediaClass)
    (cap : Nat) : mediaSeated b d r kind cls cap s = hardUp b (giveCause true d .mediaUnsuitable s)
      ∨ mediaSeated b d r kind cls cap s = reportFault .noMedia (some b) (some d) (hardUp b (giveCause true d .mediaUnsuitable s)) := by
  cases kind with
  | blank => exact absurd rfl other
  | written => exact .inl rfl
  | unsuitable => exact .inl rfl
  | none => exact .inr rfl

/-- The state in which a burn has been opened, but for the bay's own. -/
theorem openBurn_bay (b x : BayNo) (d : DocketNo) (j : Job) (s : State) : (openBurn b d j s).bay x =
    if x = b then { (sendReq b .burnOpen .normal
          (.burnOpen j.totalSectors (min j.speed (s.bay b).driveOr.maxSpeed) (linkPermitted j (s.bay b).driveOr)) s).bay b with
        credits := 0, withdrawn := [], driveStopped := false
        channel := .burn (newBurn d j (linkPermitted j (s.bay b).driveOr)), state := .burning }
      else s.bay x := by
  unfold openBurn
  dsimp only
  rw [setBayState_bay]
  split
  · rw [State.updDocket_bay, State.bay_setBay, if_pos rfl]
  · next other => rw [State.updDocket_bay, State.bay_setBay, if_neg other, sendReq_bay, if_neg other]

theorem openBurn_docket {b : BayNo} {d : DocketNo} {r : Docket} (j : Job) (holds : s.docket d = some r) :
    (openBurn b d j s).docket d = some { r with state := .burning, burnStart := some s.tower.time } := by
  unfold openBurn
  dsimp only
  rw [setBayState_docket, updDocket_docket, if_pos rfl, State.docket_congr (s := s) (by simp), holds]
  rfl

theorem openBurn_out {b : BayNo} (d : DocketNo) (j : Job) (unasked : s.hasReq b .burnOpen = false) : (openBurn b d j s).out =
    s.out ++ [.drive b (.burnOpen j.totalSectors (min j.speed (s.bay b).driveOr.maxSpeed) (linkPermitted j (s.bay b).driveOr))] := by
  simp [openBurn, sendReq, unasked, enterReq, emit]

theorem linkPermitted_eq (j : Job) (dr : Drive) : linkPermitted j dr = (dr.linkCapable && j.starvation.limit.isSome) := by
  unfold linkPermitted
  cases j.starvation <;> simp [Starvation.limit]

/-- A hard event of a bay at work whatever its counter. -/
theorem hardUp_hard {b : BayNo} (quiet : (s.bay b).state.quiet) (within : (s.bay b).hard ≤ 15) :
    ((hardUp b s).bay b).hard = if (s.bay b).hard < 15 then (s.bay b).hard + 1 else 15 := by
  split
  · next below =>
    obtain ⟨⟨f, raised⟩, -⟩ := hardUp_quiet quiet below
    rw [raised, if_pos rfl]
  · next full =>
    rw [hardUp, if_pos (.inr (by omega))]
    omega

/-- Settles O43. -/
theorem mediaAnswers : Obligations.MediaAnswers := by
  intro b kind cls cap d r j s asked probing docket holds seated own job within
  have made := onMedia_of_seated asked docket holds seated kind cls cap
  have bays (x : BayNo) := dropReq_bay b x .probe s
  have self := bays b
  rw [if_pos rfl] at self
  have holds' : (dropReq b .probe s).docket d = some r := by rw [dropReq_docket]; exact holds
  have job' : (dropReq b .probe s).job r.slot = some j := by rw [dropReq_job]; exact job
  have notOpen : (dropReq b .probe s).hasReq b .burnOpen = s.hasReq b .burnOpen := dropReq_hasReq_other b b s (by decide)
  have out : (dropReq b .probe s).out = s.out := by simp
  have time : (dropReq b .probe s).tower.time = s.tower.time := by simp
  refine ⟨onMedia b kind cls cap s, rfl, ⟨by simp, by simp, by simp, by simp⟩, ⟨by simp, by simp, by simp⟩, ?_⟩
  rw [made]
  generalize dropReq b .probe s = v at *
  refine ⟨fun ⟨blank, same, room, undecided⟩ => ?_, fun ⟨blank, same, small, causeless⟩ => ?_, fun ⟨blank, same, small, active⟩ => ?_,
    fun unfit causeless => ?_, fun blank => ?_, fun other => ?_⟩
  · subst blank
    rw [mediaSeated_blank job', if_pos same, if_pos room, if_pos undecided, openBurn_bay, if_pos rfl, openBurn_docket j holds', time,
      State.hasReq, openBurn_bay, if_pos rfl]
    refine ⟨rfl, sendReq_hasReq .., rfl, rfl, fun fresh => ?_, newBurn d j (linkPermitted j (v.bay b).driveOr), ?_, rfl, rfl, rfl, rfl, rfl⟩
    · have drive : (v.bay b).driveOr = (s.bay b).driveOr := by rw [self]; rfl
      rw [openBurn_out d j (by rw [notOpen]; exact fresh), out, drive, linkPermitted_eq]
      rfl
    · rw [State.burnOf, openBurn_bay, if_pos rfl]
  · subst blank
    rw [mediaSeated_blank job', if_pos same, if_neg (by omega), failJob_docket holds' (by simp [seated]) (by decide)]
    exact ⟨_, rfl, by simp [Docket.giveCause, causeless], by simp [Docket.giveCause, causeless]⟩
  · subst blank
    rw [mediaSeated_blank job', if_pos same, if_neg (by omega), failJob_of_some holds']
    exact stopJob_job (by rw [giveCause_job]; exact job') active ..
  · have given : (giveCause true d .mediaUnsuitable v).docket d = some (r.giveCause .mediaUnsuitable v.tower.time) := by
      rw [giveCause_docket, if_pos rfl, holds']; rfl
    have caused : (r.giveCause .mediaUnsuitable v.tower.time).cause = .mediaUnsuitable
        ∧ (r.giveCause .mediaUnsuitable v.tower.time).verdict = some .reject := by simp [Docket.giveCause, causeless]
    refine ⟨_, ?_, caused⟩
    by_cases blank : kind = .blank
    · rw [blank, mediaSeated_blank job', if_neg (unfit blank), given]
    · rcases mediaSeated_other (s := v) (b := b) (d := d) (r := r) blank cls cap with h | h <;> rw [h] <;> simp [given]
  · subst blank
    have hard : (v.bay b).hard = (s.bay b).hard := by rw [self]
    rw [mediaSeated_blank job']
    split
    · split
      · split
        · rw [openBurn_bay, if_pos rfl, sendReq_bay, if_pos rfl]; exact hard
        · exact hard
      · exact (failJob_sameHard d .tooLarge v b).trans hard
    · exact (giveCause_sameHard true d .mediaUnsuitable v b).trans hard
  · have keeps := giveCause_bay_keeps true d .mediaUnsuitable v b
    have raised := hardUp_hard (s := giveCause true d .mediaUnsuitable v) (b := b)
      (by rw [keeps.state, self]; simp [probing, BayState.quiet]) (by rw [keeps.hard, self]; exact within)
    rw [keeps.hard, self] at raised
    rcases mediaSeated_other (s := v) (b := b) (d := d) (r := r) other cls cap with h | h <;> rw [h]
    · exact raised
    · rw [reportFault_bay]; exact raised

end Sys2Proof.Machine
end

section
/-! PROOFS. FAULT (O48), HALTED, RESET_DONE and the reject hand-off (O49). -/

namespace Sys2Proof.Machine

variable {s t u : State}

/-! ### The first fault stays (R173) -/

/-- A fault that was the first to be recorded still is. -/
def State.firstStays (s t : State) : Prop := ∀ e, s.faults.first = some e → t.faults.first = some e

theorem State.firstStays_of_eq (h : t.faults = s.faults) : s.firstStays t := fun e first => by rw [h, first]

theorem State.firstStays.trans (h : s.firstStays t) (k : t.firstStays u) : s.firstStays u := fun e first => k e (h e first)

theorem FaultRecord.after_first {f : FaultRecord} {e : FaultEntry} (first : f.first = some e) (code : FaultCode) (bay : Option BayNo)
    (docket : Option DocketNo) (time : Nat) : (f.after code bay docket time).first = some e := by
  rw [FaultRecord.after_of_some (by simp [first]), FaultRecord.raise_first, first]

theorem reportFault_firstStays (code : FaultCode) (bay : Option BayNo) (docket : Option DocketNo) (s : State) :
    s.firstStays (reportFault code bay docket s) := fun e first => by
  rw [reportFault_faults, FaultRecord.after_first first]

theorem enterIdle_firstStays (b : BayNo) (s : State) : s.firstStays (enterIdle b s) := by
  unfold enterIdle
  split
  · exact fun e first => by rw [retire_faults, FaultRecord.after_first first]
  · exact State.firstStays_of_eq (by simp)

theorem releaseBay_firstStays (b : BayNo) (s : State) : s.firstStays (releaseBay b s) := by
  unfold releaseBay
  dsimp only
  split
  · exact State.firstStays.trans (State.firstStays_of_eq (by simp)) (enterIdle_firstStays _ _)
  all_goals exact State.firstStays_of_eq (by simp)

theorem releaseOf_firstStays (d : DocketNo) (b : BayNo) (s : State) : s.firstStays (releaseOf d b s) := by
  unfold releaseOf
  split
  · exact releaseBay_firstStays b s
  · exact fun _ => id

theorem undone_firstStays (d : DocketNo) (r : Docket) (s : State) : s.firstStays (undone d r s) := by
  refine State.firstStays.trans (State.firstStays_of_eq ?_) (releaseOf_firstStays _ _ _)
  split <;> simp

theorem dissolve_firstStays (d : DocketNo) (s : State) : s.firstStays (dissolve d s) := by
  cases holds : s.docket d with
  | none => exact State.firstStays_of_eq (by simp [dissolve, holds])
  | some r =>
    rw [dissolve_of_some holds]
    exact (undone_firstStays d r s).trans (State.firstStays_of_eq (by simp))

theorem reroute_firstStays (d : DocketNo) (c : Cause) (s : State) : s.firstStays (reroute d c s) := by
  unfold reroute
  dsimp only
  split
  · exact State.firstStays_of_eq (by simp)
  split
  · exact State.firstStays_of_eq (by simp)
  · refine State.firstStays.trans (State.firstStays_of_eq ?_) (releaseOf_firstStays d _ _)
    split <;> simp [setDocketState]

theorem startReset_firstStays (b : BayNo) (s : State) : s.firstStays (startReset b s) := by
  by_cases live : (s.bay b).state ≠ .retired ∧ (s.bay b).state ≠ .resetting
  · rw [startReset_of_live live]
    refine State.firstStays.trans (t := resetErrand b (discardChannel b (resetSent b s)))
      (State.firstStays_of_eq (by simp [resetSent])) ?_
    unfold resetDocket
    split
    · exact fun _ => id
    split
    · exact fun _ => id
    split
    · exact dissolve_firstStays _ _
    · exact reroute_firstStays _ _ _
    · exact State.firstStays_of_eq (by simp)
  · have same : startReset b s = s := if_pos (by tauto)
    rw [same]
    exact fun _ => id

/-! ### A bay after its reset has begun -/

/-- What a bay reset leaves of the bay. -/
theorem startReset_self {b : BayNo} (live : (s.bay b).state ≠ .retired ∧ (s.bay b).state ≠ .resetting) :
    ((startReset b s).bay b).state = .resetting ∧ ((startReset b s).bay b).hard = (s.bay b).hard
    ∧ ((startReset b s).bay b).failing = (s.bay b).failing ∧ ((startReset b s).bay b).logical = (s.bay b).logical
    ∧ ((startReset b s).bay b).reqs = [{ req := .reset, purpose := .normal, left := timeoutOf .reset }] := by
  obtain ⟨left, made⟩ := startReset_bay live
  unfold Bay.left at left
  rcases made with ⟨made, _⟩ | made <;> rw [made] at left <;> rw [left] <;> exact ⟨rfl, rfl, rfl, rfl, rfl⟩

theorem startReset_hasReq {b : BayNo} (live : (s.bay b).state ≠ .retired ∧ (s.bay b).state ≠ .resetting) (q : Request) :
    (startReset b s).hasReq b q = (q == .reset) := by
  rw [State.hasReq, (startReset_self live).2.2.2.2]
  cases q <;> rfl

/-! ### A hard event in IDLE -/

theorem hardUp_idle {b : BayNo} (idle : (s.bay b).state = .idle) (sound : (s.bay b).failing = false) (below : (s.bay b).hard < 15) :
    ((counted b s).overLimit b = true → (hardUp b s).bay b = { s.bay b with
        hard := (s.bay b).hard + 1, failing := true, state := .retired, logical := none })
    ∧ ((counted b s).overLimit b = false → hardUp b s = counted b s) := by
  have self : ((counted b s).bay b) = { s.bay b with hard := (s.bay b).hard + 1 } := by rw [counted_bay, if_pos rfl]
  have live : ((counted b s).bay b).state ≠ .retired := by rw [self]; simp [idle]
  rw [hardUp_of_below (by simp [idle]) below]
  refine ⟨fun caught => ?_, fun calm => testLimits_of_not (.inr fun c => by simp [c.2] at calm)⟩
  rw [testLimits_of_caught live ⟨by rw [self]; exact sound, caught⟩,
    (markFailing_of_state b _).1 (by rw [self]; exact idle), retire_bay_self, marked_bay, if_pos rfl, self]

/-! ### FAULT (R83) -/

theorem onFault_of_burn {b : BayNo} {d : DocketNo} (state : (s.bay b).state = .burning ∨ (s.bay b).state = .finalizing)
    (unasked : s.hasReq b .halt = false) (docket : (s.bay b).docket = some d) :
    onFault b s = reportFault .driveFault (some b) (some d) (hardUp b (giveCause true d .writeFault s)) := by
  rcases state with h | h <;> simp [onFault, h, unasked, docket]

/-- The states in which a FAULT resets the bay. -/
theorem onFault_of_reset {b : BayNo} (state : (s.bay b).state = .idle ∨ (s.bay b).state = .reserved ∨ (s.bay b).state = .opening
      ∨ (s.bay b).state = .open ∨ (s.bay b).state = .closing ∨ (s.bay b).state = .probing ∨ (s.bay b).state = .verifying
      ∨ (s.bay b).state = .holding) :
    onFault b s = startReset b (reportFault .driveFault (some b) (s.bay b).docket (hardUp b s)) := by
  rcases state with h | h | h | h | h | h | h | h <;> simp [onFault, h]

/-- A hard event leaves a bay at work in its state. -/
theorem hardUp_state {b : BayNo} (quiet : (s.bay b).state.quiet) : ((hardUp b s).bay b).state = (s.bay b).state := by
  by_cases below : (s.bay b).hard < 15
  · obtain ⟨⟨f, raised⟩, -⟩ := hardUp_quiet quiet below
    rw [raised, if_pos rfl]
  · rw [hardUp, if_pos (.inr (by omega))]

/-- Settles O48: the table of R83. -/
theorem driveFaults : Obligations.DriveFaults := by
  intro b code s entry
  refine ⟨fun state => next_conclude ?_, fun state halting => next_conclude ?_,
    fun d r state unasked running docket holds own causeless below => ?_, fun state => ?_, fun idle sound below => ?_⟩
  · rcases state with h | h | h <;> simp [onFault, h, entry]
  · rcases state with h | h <;> simp [onFault, h, halting, entry]
  · have unasked : s.hasReq b .halt = false := unasked
    have bay : (s.bay b).state = .burning ∨ (s.bay b).state = .finalizing := state.imp And.left And.left
    have disc : r.state = .burning ∨ r.state = .finalizing := state.imp And.right And.right
    have made := onFault_of_burn bay unasked docket
    obtain ⟨others, halted, -, -⟩ := giveCause_burning_bay holds disc own causeless .writeFault unasked running
    have keeps := giveCause_bay_keeps true d .writeFault s b
    have given : (giveCause true d .writeFault s).docket d = some (r.giveCause .writeFault s.tower.time) := by
      rw [giveCause_docket, if_pos rfl, holds]; rfl
    obtain ⟨⟨f, raised⟩, -⟩ := hardUp_quiet (s := giveCause true d .writeFault s) (b := b)
      (by rw [keeps.state]; rcases bay with h | h <;> simp [h, BayState.quiet]) (by rw [keeps.hard]; exact below)
    have self := raised b
    rw [if_pos rfl] at self
    refine ⟨onFault b s, rfl, ?_⟩
    rw [made]
    refine ⟨?_, ?_, ?_, ⟨by simp, by simp, by simp, by simp⟩, ⟨by simp, by simp, by simp⟩, by simp, fun x other => ?_,
      r.giveCause .writeFault s.tower.time, ?_, ?_⟩
    · rw [State.hasReq, reportFault_bay, self]
      exact halted
    · rw [reportFault_bay, self, keeps.hard]
    · rw [reportFault_bay, self, keeps.state]
    · rw [reportFault_bay, raised, if_neg other, others x other]
    · rw [reportFault_docket, hardUp_docket, given]
    · simp [Docket.giveCause, causeless]
  · have quiet : (s.bay b).state.quiet := by rcases state with h | h | h | h | h | h | h <;> simp [h, BayState.quiet]
    have calm : (s.bay b).state ≠ .resetting := by rcases state with h | h | h | h | h | h | h <;> simp [h]
    have same : ((entry (hardUp b s)).bay b) = (hardUp b s).bay b := by simp [entry]
    have live : ((entry (hardUp b s)).bay b).state ≠ .retired ∧ ((entry (hardUp b s)).bay b).state ≠ .resetting := by
      rw [same, hardUp_state quiet]
      exact ⟨quiet.1, calm⟩
    obtain ⟨resetting, hard, -⟩ := startReset_self live
    refine ⟨next_conclude (onFault_of_reset (.inr state)), resetting, fun below => ?_⟩
    rw [hard, same, hardUp_hard quiet (by omega), if_pos below]
  · intro caught
    have made := onFault_of_reset (.inl idle)
    obtain ⟨ifCaught, ifCalm⟩ := hardUp_idle idle sound below
    have self : (counted b s).bay b = { s.bay b with hard := (s.bay b).hard + 1 } := by rw [counted_bay, if_pos rfl]
    have reaches : (counted b s).overLimit b = true ↔ caught := by
      rw [overLimit_iff, self]
      simp [counted, caught]
    clear_value caught
    refine ⟨onFault b s, rfl, ?_⟩
    rw [made]
    have host : s.sameHost (startReset b (entry (hardUp b s))) := ⟨by simp [entry], by simp [entry], by simp [entry], by simp [entry]⟩
    have plant : s.samePlant (startReset b (entry (hardUp b s))) := ⟨by simp [entry], by simp [entry], by simp [entry]⟩
    have same : ((entry (hardUp b s)).bay b) = (hardUp b s).bay b := by simp [entry]
    by_cases high : (counted b s).overLimit b = true
    · have retired := ifCaught high
      have stays : startReset b (entry (hardUp b s)) = entry (hardUp b s) := if_pos (.inl (by rw [same, retired]))
      refine ⟨?_, host, plant, fun _ => ?_, fun calm => absurd (reaches.mp high) calm⟩
      · show ((startReset b (entry (hardUp b s))).bay b).hard = _
        rw [stays, same, retired]
      · show ((startReset b (entry (hardUp b s))).bay b).state = _ ∧ ((startReset b (entry (hardUp b s))).bay b).failing = _
          ∧ ((startReset b (entry (hardUp b s))).bay b).logical = _ ∧ (startReset b (entry (hardUp b s))).hasReq b .reset = _
        rw [stays, State.hasReq, same, retired]
        exact ⟨rfl, rfl, rfl, rfl⟩
    · have up : hardUp b s = counted b s := ifCalm (by simpa using high)
      rw [up, self] at same
      have live : ((entry (counted b s)).bay b).state ≠ .retired ∧ ((entry (counted b s)).bay b).state ≠ .resetting := by
        rw [same]; simp [idle]
      obtain ⟨resetting, hard, failing, logical, -⟩ := startReset_self live
      rw [same] at hard failing logical
      rw [up] at host plant ⊢
      refine ⟨hard, host, plant, fun c => absurd (reaches.mpr c) high, fun _ => ⟨resetting, failing.trans sound, logical,
        by rw [startReset_hasReq live]; rfl, fun first => startReset_firstStays _ _ _ ?_⟩⟩
      rw [reportFault_faults, FaultRecord.after_of_none (by simpa [counted] using first)]
      simp [counted]

/-! ### A channel discarded, as the engine sees it (R90, R95) -/

theorem recordSignature_slots (b : BayNo) (j : Job) (g : Nat) (crc : BitVec 32) (s : State) :
    (recordSignature b j g crc s).engine.slots = s.engine.slots := by
  unfold recordSignature
  split
  · rfl
  · split <;> rfl

theorem openEntry_slots (j : SlotNo) (g : Nat) (s : State) : (openEntry j g s).engine.slots = s.engine.slots := by
  unfold openEntry
  split
  · rfl
  split
  · rfl
  split
  · rw [recordSignature_slots]; rfl
  · rfl

theorem openEntries_engine (j : SlotNo) (l : List (Nat × BitVec 32)) (s : State) :
    (l.foldl (fun u h => openEntry j h.1 u) s).engine.slots = s.engine.slots
    ∧ (l.foldl (fun u h => openEntry j h.1 u) s).pageWaiters = s.pageWaiters := by
  induction l generalizing s with
  | nil => exact ⟨rfl, rfl⟩
  | cons h l ih =>
    obtain ⟨slots, waiters⟩ := ih (openEntry j h.1 s)
    exact ⟨slots.trans (openEntry_slots ..), waiters.trans (by simp)⟩

theorem endBurstOf_slots (b : BayNo) (s : State) : (endBurstOf b s).engine.slots = s.engine.slots := by
  unfold endBurstOf
  (repeat' split) <;> rfl

/-- The lines of a bay's channel. -/
def linesOf (b : BayNo) : List LineId := [.image b, .extent b, .compare b]

/-- A fetch as the end of a bay's channel leaves it. -/
def orphanOf (b : BayNo) (f : Fetch) : Fetch := if f.line ∈ linesOf b then { f with orphan := true } else f

theorem dropChannel_fetch (b : BayNo) (s : State) (k : FetchNo) : (dropChannel b s).fetch k = (s.fetch k).map (orphanOf b) := by
  have slots : (dropChannel b s).engine.slots
      = (orphanLine (.image b) (orphanLine (.extent b) (orphanLine (.compare b) s))).engine.slots := by
    unfold dropChannel
    dsimp only
    rw [endBurstOf_slots]
    rfl
  have same : (dropChannel b s).fetch k = (orphanLine (.image b) (orphanLine (.extent b) (orphanLine (.compare b) s))).fetch k := by
    rw [State.fetch, slots]; rfl
  rw [same, orphanLine_fetch, orphanLine_fetch, orphanLine_fetch]
  cases s.fetch k with
  | none => rfl
  | some f =>
    simp only [Option.map_some, orphanOf, linesOf, List.mem_cons, List.not_mem_nil, or_false]
    by_cases c : f.line = .compare b
    · simp [c]
    · by_cases e : f.line = .extent b
      · simp [e]
      · simp [c, e]

theorem dropChannel_waiters (b : BayNo) (s : State) : (dropChannel b s).pageWaiters = s.pageWaiters.filter (· != b) := by
  unfold dropChannel
  simp

/-- What a discard of an open channel leaves of the pool's list and of the fetches. -/
theorem discardChannel_engine {b : BayNo} (open_ : (s.bay b).channel ≠ .closed) :
    b ∉ (discardChannel b s).pageWaiters ∧ ∀ k, (discardChannel b s).fetch k = (s.fetch k).map (orphanOf b) := by
  have gone : b ∉ (dropChannel b s).pageWaiters := by simp [dropChannel_waiters]
  unfold discardChannel
  split
  · contradiction
  · exact ⟨gone, dropChannel_fetch b s⟩
  · dsimp only
    split
    · next r _ =>
      obtain ⟨slots, waiters⟩ := openEntries_engine r.slot _ (dropChannel b s)
      refine ⟨by rw [waiters]; exact gone, fun k => ?_⟩
      rw [State.fetch, slots]
      exact dropChannel_fetch b s k
    · exact ⟨gone, dropChannel_fetch b s⟩

/-- Where no write is held a discard drops the channel alone. -/
theorem discardChannel_of_nothing_held {b : BayNo} (held : ∀ c, s.burnOf b = some c → c.held = []) :
    discardChannel b s = s ∨ discardChannel b s = dropChannel b s := by
  unfold discardChannel
  split
  · exact .inl rfl
  · exact .inr rfl
  · next c burn =>
    dsimp only
    rw [held c (by simp [State.burnOf, burn])]
    split <;> exact .inr rfl

/-! ### HALTED and RESET_DONE (R82, R85) -/

theorem onResetDone_of_asked {b : BayNo} (asked : s.hasReq b .reset = true) : onResetDone b s =
    match s.discInBay b with
    | some d => openAfterReset b .completion d (discover .completion b (dropReq b .reset s))
    | none => discover .completion b (dropReq b .reset s) := by
  exact if_pos asked

/-- The bays after RESET_DONE. -/
theorem onResetDone_bay {b : BayNo} (asked : s.hasReq b .reset = true) :
    s.otherBays (onResetDone b s) b ∧ ((onResetDone b s).bay b).state = .discovering
    ∧ ((onResetDone b s).bay b).identified = true ∧ (onResetDone b s).hasReq b .identify = true := by
  have bays (x : BayNo) := discover_bay .completion b x (dropReq b .reset s)
  have asks := discover_hasReq .completion b (dropReq b .reset s)
  have others : s.otherBays (discover .completion b (dropReq b .reset s)) b := fun x other => by
    rw [bays, if_neg other, dropReq_bay, if_neg other]
  have self := bays b
  rw [if_pos rfl] at self
  rw [onResetDone_of_asked asked]
  split
  · next d _ =>
    have same (x : BayNo) : (openAfterReset b .completion d (discover .completion b (dropReq b .reset s))).bay x
        = (sendReq b .trayOpen .completion .trayOpen (discover .completion b (dropReq b .reset s))).bay x := by
      simp [openAfterReset]
    refine ⟨fun x other => ?_, ?_, ?_, ?_⟩
    · rw [same, sendReq_bay, if_neg other, others x other]
    · rw [same, sendReq_bay, if_pos rfl, self]
    · rw [same, sendReq_bay, if_pos rfl, self]
    · rw [State.hasReq_congr (same b), sendReq_hasReq_other _ _ _ _ _ (by decide), asks]
  · exact ⟨others, by rw [self], by rw [self], asks⟩

/-! ### The reject hand-off (R8) -/

theorem handOffDue_iff (b : BayNo) (d : DocketNo) (s : State) : s.handOffDue b = some d ↔
    ∃ r, (s.bay b).docket = some d ∧ s.docket d = some r
      ∧ (r.state = .seated ∨ r.state = .burning ∨ r.state = .finalizing ∨ r.state = .verifying) ∧ r.verdict = some .reject
      ∧ ((s.bay b).state = .closing ∨ (s.bay b).state = .probing ∨ (s.bay b).state = .burning ∨ (s.bay b).state = .finalizing
        ∨ (s.bay b).state = .verifying) ∧ (s.bay b).reqs = [] := by
  unfold State.handOffDue
  cases docket : (s.bay b).docket with
  | none => simp
  | some n =>
    dsimp only
    cases holds : s.docket n with
    | none =>
      simp only [reduceCtorEq, false_iff, Option.some.injEq]
      rintro ⟨r, rfl, found, -⟩
      rw [holds] at found
      cases found
    | some r =>
      dsimp only
      constructor
      · intro h
        split at h
        · next due =>
          cases h
          obtain ⟨inBay, working, verdict, idle⟩ := due
          exact ⟨r, rfl, holds, inBay, verdict, working, idle⟩
        · cases h
      · rintro ⟨r', rfl', found, inBay, verdict, working, idle⟩
        cases rfl'
        rw [holds] at found
        cases found
        exact if_pos ⟨inBay, working, verdict, idle⟩

/-- The state in which the channel of a hand-off is gone. -/
def cleanBay (b : BayNo) (s : State) : State :=
  (discardChannel b s).setBay b { (discardChannel b s).bay b with withdrawn := [], driveStopped := false }

theorem handOff_eq (b : BayNo) (d : DocketNo) (s : State) : handOff b d s = setBayState b .holding (toRejectWait d (cleanBay b s)) := rfl

@[simp] theorem cleanBay_frame (b : BayNo) (s : State) : (cleanBay b s).pending = s.pending ∧ (cleanBay b s).tower = s.tower
    ∧ (cleanBay b s).regs = s.regs ∧ (cleanBay b s).board = s.board ∧ (cleanBay b s).faults = s.faults
    ∧ (cleanBay b s).dockets = s.dockets ∧ (cleanBay b s).transport = s.transport ∧ (cleanBay b s).sensors = s.sensors
    ∧ (cleanBay b s).bins = s.bins ∧ (cleanBay b s).printer = s.printer := by
  simp [cleanBay]

theorem cleanBay_bay (b : BayNo) (s : State) : ((cleanBay b s).bay b).docket = (s.bay b).docket
    ∧ ((cleanBay b s).bay b).reqs = (s.bay b).reqs ∧ ((cleanBay b s).bay b).channel = .closed
    ∧ ((s.bay b).channel ≠ .closed → ((cleanBay b s).bay b).image = none ∧ ((cleanBay b s).bay b).extent = none
      ∧ ((cleanBay b s).bay b).compare = none) := by
  have self : (cleanBay b s).bay b = { (discardChannel b s).bay b with withdrawn := [], driveStopped := false } := by
    rw [cleanBay, State.bay_setBay, if_pos rfl]
  have closed := discardChannel_closed b s
  rw [self]
  refine ⟨?_, ?_, closed, fun open_ => ?_⟩
  · dsimp only; rw [discardChannel_bay]; split <;> rfl
  · dsimp only; rw [discardChannel_bay]; split <;> rfl
  · rw [discardChannel_bay, if_neg open_]; exact ⟨rfl, rfl, rfl⟩

theorem queueTask_transport_of_new {d : DocketNo} (kind : TaskKind) (source dest : Station)
    (queue : ∀ t ∈ s.transport.queue, t.docket ≠ d) (flight : ∀ t, s.taskInFlight = some t → t.docket ≠ d) :
    (queueTask d kind source dest s).transport = { s.transport with
      queue := s.transport.queue ++ [{ docket := d, kind := kind, source := source, dest := dest, age := s.transport.nextAge }]
      nextAge := s.transport.nextAge + 1 } := by
  unfold queueTask
  rw [if_neg (by simpa using queue), if_neg]
  intro h
  obtain ⟨t, task, same⟩ := Option.map_eq_some_iff.mp h
  exact flight t task same

theorem toRejectWait_engine (d : DocketNo) (s : State) :
    (toRejectWait d s).engine = s.engine ∧ (toRejectWait d s).pageWaiters = s.pageWaiters := by
  unfold toRejectWait
  split <;> simp

theorem reportStatus_slots (s : State) : (reportStatus s).engine.slots = s.engine.slots := by
  unfold reportStatus queueStatus
  (repeat' split) <;> rfl

theorem setBayState_slots (b : BayNo) (st : BayState) (s : State) : (setBayState b st s).engine.slots = s.engine.slots := by
  unfold setBayState
  split
  · rfl
  · rw [reportStatus_slots]; rfl

/-- Settles O49. -/
theorem haltAndResetEnd : Obligations.HaltAndResetEnd := by
  intro b s
  refine ⟨fun asked => ⟨dropReq b .halt s, next_conclude (if_pos asked), ?_, dropReq_length asked,
    fun q other => dropReq_hasReq_other b b s (Ne.symm other)⟩, fun asked => ?_, ?_⟩
  · have reqs : ((dropReq b .halt s).bay b).reqs = (s.bay b).reqs.eraseP fun o => o.req == .halt := by rw [dropReq_bay, if_pos rfl]
    rw [reqs]
    rfl
  · obtain ⟨others, state, known, asks⟩ := onResetDone_bay asked
    refine ⟨onResetDone b s, rfl, state, asks, known, ⟨by simp, by simp, by simp, by simp⟩, ⟨by simp, by simp, by simp⟩, by simp, by simp,
      others, fun d r docket holds place own => ?_⟩
    have disc := discInBay_of_place docket holds place
    have made : onResetDone b s = toRejectWait d (sendReq b .trayOpen .completion .trayOpen
        (discover .completion b (dropReq b .reset s))) := by rw [onResetDone_of_asked asked, disc]; rfl
    rw [made]
    refine ⟨?_, ?_⟩
    · rw [State.hasReq_congr (toRejectWait_bay ..)]; exact sendReq_hasReq ..
    · rw [toRejectWait_docket (r := r) (by rw [State.docket_congr (s := s) (by simp)]; exact holds), if_pos rfl]
      exact ⟨_, rfl, rfl, rfl⟩
  · intro due
    refine ⟨fun idle => ?_, fun d r isDue own queue flight => ?_⟩
    · rw [handOffRule, Option.map_eq_none_iff, Option.eq_none_iff_forall_ne_some]
      intro d found
      obtain ⟨r, holds⟩ := (handOffDue_iff b d s).mp found
      exact idle d r holds
    · have found : s.handOffDue b = some d := (handOffDue_iff b d s).mpr ⟨r, isDue⟩
      obtain ⟨docket, holds, inBay, verdict, working, noneOut⟩ := isDue
      have holds' : (cleanBay b s).docket d = some r := by rw [State.docket_congr (s := s) (by simp)]; exact holds
      obtain ⟨keptDocket, keptReqs, closed, noLines⟩ := cleanBay_bay b s
      have bays (x : BayNo) : (handOff b d s).bay x = if x = b then { (cleanBay b s).bay b with state := .holding } else (cleanBay b s).bay x := by
        rw [handOff_eq, setBayState_bay, toRejectWait_bay, toRejectWait_bay]
      have self := bays b
      rw [if_pos rfl] at self
      refine ⟨handOff b d s, by rw [handOffRule, found]; rfl, by rw [self], by rw [self]; exact closed, by rw [self]; exact keptDocket.trans docket,
        by rw [self]; exact keptReqs.trans noneOut, ?_, fun x other => ?_, ?_, ⟨by simp [handOff_eq], by simp [handOff_eq], by simp [handOff_eq], by simp [handOff_eq]⟩,
        ⟨by simp [handOff_eq], by simp [handOff_eq], by simp [handOff_eq]⟩, by simp [handOff_eq], fun open_ => ?_, fun held => ?_⟩
      · rw [handOff_eq, setBayState_docket, toRejectWait_docket holds', if_pos rfl]
        simp
      · rw [handOff_eq, setBayState_docket, toRejectWait_docket holds', if_neg other]
        exact State.docket_congr (by simp) x
      · have place : toRejectWait d (cleanBay b s) = queueTask d .unload (.bay r.bay) (.output .reject)
            ((cleanBay b s).setDocket d (some { r with
              state := .rejectWait, place := some .bay
              burnEnd := if (r.state = .burning ∨ r.state = .finalizing) ∧ r.burnEnd = none then some (cleanBay b s).tower.time
                else r.burnEnd })) := by
          simp only [toRejectWait, holds']
        have arm : ((cleanBay b s).setDocket d (some { r with
              state := .rejectWait, place := some .bay
              burnEnd := if (r.state = .burning ∨ r.state = .finalizing) ∧ r.burnEnd = none then some (cleanBay b s).tower.time
                else r.burnEnd })).transport = s.transport := by simp
        have kept : (setBayState b .holding (toRejectWait d (cleanBay b s))).transport = (toRejectWait d (cleanBay b s)).transport := by
          simp
        rw [handOff_eq, kept, place, queueTask_transport_of_new _ _ _ (by rw [arm]; exact queue)
          (by rw [taskInFlight_congr (congrArg Transport.errand arm)]; exact flight), arm, own]
      · obtain ⟨gone, fetches⟩ := discardChannel_engine open_
        obtain ⟨noImage, noExtent, noCompare⟩ := noLines open_
        have engine : (handOff b d s).engine.slots = (discardChannel b s).engine.slots := by
          rw [handOff_eq, setBayState_slots, (toRejectWait_engine ..).1]; rfl
        have waiters : (handOff b d s).pageWaiters = (discardChannel b s).pageWaiters := by
          simp [handOff_eq, cleanBay]
        refine ⟨by rw [waiters]; exact gone, fun id line => ⟨?_, fun k f fetched same => ?_⟩⟩
        · simp only [List.mem_cons, List.not_mem_nil, or_false] at line
          rcases line with rfl | rfl | rfl <;> simp [State.line, self, noImage, noExtent, noCompare]
        · rw [State.fetch, engine]
          refine (fetches k).trans ?_
          rw [fetched, Option.map_some, orphanOf, if_pos (by rw [same]; exact line)]
      · have clean : (cleanBay b s).jobs = s.jobs ∧ s.otherBays (cleanBay b s) b := by
          rcases discardChannel_of_nothing_held held with same | same
          · rw [cleanBay, same]
            exact ⟨rfl, fun x other => by rw [State.bay_setBay, if_neg other]⟩
          · rw [cleanBay, same]
            exact ⟨by simp, fun x other => by rw [State.bay_setBay, if_neg other, dropChannel_bay, if_neg other]⟩
        refine ⟨by simp [handOff_eq, clean.1], fun x other => ?_⟩
        rw [bays, if_neg other, clean.2 x other]

end Sys2Proof.Machine
end

section
/-! PROOFS. A request that times out (O50). -/

namespace Sys2Proof.Machine

variable {s t u : State}

/-! ### The common steps of a timeout (R71) -/

/-- The state in which a timeout has been reported and counted. -/
def timedOut (b : BayNo) (q : Request) (s : State) : State :=
  hardUp b (reportFault .timeout (some b) (s.bay b).docket (dropReq b q s))

/-- The state in which the bay's docket has its cause. -/
def timeoutCaused (b : BayNo) (q : Request) (s : State) : State :=
  match (s.bay b).docket with
  | some n => giveCause false n .bayTimeout (timedOut b q s)
  | none => timedOut b q s

theorem onTimeout_of_asked {b : BayNo} {q : Request} {o : Outstanding} (found : (s.bay b).reqs.find? (fun x => x.req == q) = some o) :
    onTimeout b q s = afterTimeout b o (timeoutCaused b q s) := by
  unfold onTimeout timeoutCaused
  rw [found]
  rfl

theorem find?_req {l : List Outstanding} {q : Request} {o : Outstanding} (found : l.find? (fun x => x.req == q) = some o) : o.req = q := by
  simpa using List.find?_some found

@[simp] theorem timeoutCaused_frame (b : BayNo) (q : Request) (s : State) :
    (timeoutCaused b q s).pending = s.pending ∧ (timeoutCaused b q s).tower = s.tower ∧ (timeoutCaused b q s).regs = s.regs
    ∧ (timeoutCaused b q s).board = s.board ∧ (timeoutCaused b q s).jobs = s.jobs ∧ (timeoutCaused b q s).sensors = s.sensors
    ∧ (timeoutCaused b q s).bins = s.bins ∧ (timeoutCaused b q s).printer = s.printer := by
  unfold timeoutCaused timedOut
  split <;> simp

/-- The bays once a timeout has been reported and counted. -/
theorem timedOut_bay {b : BayNo} (quiet : (s.bay b).state.quiet) (below : (s.bay b).hard < 15) (q : Request) :
    (∃ f, ∀ x, (timedOut b q s).bay x = if x = b then { s.bay b with
        reqs := (s.bay b).reqs.eraseP (fun o => o.req == q), hard := (s.bay b).hard + 1, failing := f } else s.bay x)
    ∧ (timedOut b q s).faults = s.faults.after .timeout (some b) (s.bay b).docket s.tower.time
    ∧ (timedOut b q s).out = s.out := by
  have before (x : BayNo) : (reportFault .timeout (some b) (s.bay b).docket (dropReq b q s)).bay x
      = if x = b then { s.bay b with reqs := (s.bay b).reqs.eraseP (fun o => o.req == q) } else s.bay x := by
    rw [reportFault_bay, dropReq_bay]
  have self := before b
  rw [if_pos rfl] at self
  obtain ⟨⟨f, raised⟩, -, faults, out⟩ := hardUp_quiet (s := reportFault .timeout (some b) (s.bay b).docket (dropReq b q s)) (b := b)
    (by rw [self]; exact quiet) (by rw [self]; exact below)
  refine ⟨⟨f, fun x => ?_⟩, ?_, ?_⟩
  · rw [timedOut, raised, self, before]
    split <;> rfl
  · rw [timedOut, faults]; simp
  · rw [timedOut, out]; simp

/-- The bay once its docket has its cause: its work alone has changed besides. -/
theorem timeoutCaused_bay {b : BayNo} (quiet : (s.bay b).state.quiet) (below : (s.bay b).hard < 15) (q : Request) :
    ((timeoutCaused b q s).bay b).state = (s.bay b).state ∧ ((timeoutCaused b q s).bay b).hard = (s.bay b).hard + 1
    ∧ ((timeoutCaused b q s).bay b).docket = (s.bay b).docket
    ∧ (timeoutCaused b q s).faults = s.faults.after .timeout (some b) (s.bay b).docket s.tower.time := by
  obtain ⟨⟨f, raised⟩, faults, -⟩ := timedOut_bay quiet below q
  have self := raised b
  rw [if_pos rfl] at self
  unfold timeoutCaused
  split
  · next n docket =>
    have keeps := giveCause_bay_keeps false n .bayTimeout (timedOut b q s) b
    rw [keeps.state, keeps.hard, keeps.docket, self]
    exact ⟨rfl, rfl, rfl, by rw [← faults]; simp⟩
  · rw [self]
    exact ⟨rfl, rfl, rfl, faults⟩

theorem timeoutCaused_docket {b : BayNo} {d : DocketNo} {r : Docket} (docket : (s.bay b).docket = some d) (holds : s.docket d = some r)
    (q : Request) : (timeoutCaused b q s).docket d = some (r.giveCause .bayTimeout s.tower.time) := by
  simp only [timeoutCaused, docket]
  rw [giveCause_docket, if_pos rfl, State.docket_congr (s := s) (by simp [timedOut]), holds]
  simp [timedOut]

/-! ### What follows by the request and its purpose -/

theorem afterTimeout_resets {b : BayNo} {o : Outstanding} (purpose : o.purpose = .normal ∨ o.purpose = .takeover) (other : o.req ≠ .reset) :
    afterTimeout b o s = startReset b s := by
  unfold afterTimeout
  cases req : o.req with
  | reset => exact absurd req other
  | _ => rcases purpose with h | h <;> rw [h]

theorem afterTimeout_absent {b : BayNo} {o : Outstanding}
    (kind : o.req = .reset ∨ (o.purpose = .completion ∧ (o.req = .identify ∨ o.req = .probe))) :
    afterTimeout b o s = resetFailed b s ∨ afterTimeout b o s = goAbsent b s := by
  rcases kind with h | ⟨h, k | k⟩
  · exact .inl (by simp [afterTimeout, h])
  · exact .inr (by simp [afterTimeout, h, k])
  · exact .inr (by simp [afterTimeout, h, k])

theorem afterTimeout_strands {b : BayNo} {o : Outstanding} (req : o.req = .trayOpen)
    (purpose : o.purpose = .completion ∨ o.purpose = .absent ∨ o.purpose = .sweep) : afterTimeout b o s = strand b s := by
  rcases purpose with h | h | h <;> simp [afterTimeout, req, h]

theorem goAbsent_of_live {b : BayNo} (live : (s.bay b).state ≠ .retired) : goAbsent b s = setBayState b .absent s := if_neg live

theorem goAbsent_bay {b : BayNo} (live : (s.bay b).state ≠ .retired) (x : BayNo) :
    (goAbsent b s).bay x = if x = b then { s.bay b with state := .absent } else s.bay x := by
  rw [goAbsent_of_live live, setBayState_bay]

/-- A bay that is ABSENT and stranded. -/
def stranded (b : BayNo) (s : State) : State :=
  (goAbsent b s).setBay b { (goAbsent b s).bay b with stranded := true, heldClose := false }

theorem stranded_bay {b : BayNo} (live : (s.bay b).state ≠ .retired) (x : BayNo) : (stranded b s).bay x =
    if x = b then { s.bay b with state := .absent, stranded := true, heldClose := false } else s.bay x := by
  rw [stranded, State.bay_setBay]
  split
  · rw [goAbsent_bay live, if_pos rfl]
  · next other => rw [goAbsent_bay live, if_neg other]

@[simp] theorem stranded_frame (b : BayNo) (s : State) : (stranded b s).pending = s.pending ∧ (stranded b s).tower = s.tower
    ∧ (stranded b s).regs = s.regs ∧ (stranded b s).board = s.board ∧ (stranded b s).jobs = s.jobs ∧ (stranded b s).dockets = s.dockets
    ∧ (stranded b s).sensors = s.sensors ∧ (stranded b s).bins = s.bins ∧ (stranded b s).printer = s.printer
    ∧ (stranded b s).transport = s.transport := by
  simp [stranded]

theorem strand_of_docket {b : BayNo} {d : DocketNo} (docket : (s.bay b).docket = some d) :
    strand b s = loseDisc false d .bay (stranded b s) := by
  simp [strand, docket, stranded]

theorem strand_of_sweep {b : BayNo} {e : Errand} (docket : (s.bay b).docket = none) (errand : s.transport.errand = some e)
    (work : e.work = .sweep) (source : e.source = some (.bay b)) (held : e.held = false) : strand b s = endErrand (stranded b s) := by
  simp [strand, docket, stranded, errand, work, source, held]

/-- A disc lost in its bay leaves the bay. -/
theorem loseDisc_bay {d : DocketNo} {r : Docket} (holds : s.docket d = some r) (docket : (s.bay r.bay).docket = some d)
    (state : r.state ≠ .inbound) (place : Place) (x : BayNo) :
    (loseDisc false d place s).bay x = if x = r.bay then { s.bay r.bay with docket := none } else s.bay x := by
  have same (y : BayNo) : (endErrandOf d (unqueueTask d (dropCause false d s))).bay y = s.bay y := by
    rw [State.bay_congr (s := unqueueTask d (dropCause false d s)) (by simp), unqueueTask_bay]
    rfl
  rw [loseDisc_of_some holds, land_bay, State.bay_congr (leavePrinter_frame ..).2.2.2.1, leaveBay, same, if_pos docket, if_neg state,
    State.bay_setBay, same]

/-- Settles O50. -/
theorem requestsTimeOut : Obligations.RequestsTimeOut := by
  intro b q s below
  refine ⟨fun unasked => next_conclude ?_, fun o found purpose other working => ?_, fun o found kind state => ?_,
    fun o d r found is purpose notRetired notIdle notSpare docket holds waits own => ?_,
    fun o e found is purpose state empty sweeping errand work source held => ?_, fun o found is purpose state empty => ?_⟩
  · have absent : (s.bay b).reqs.find? (fun o => o.req == q) = none := by
      rw [List.find?_eq_none]
      intro o mem is
      have asked : s.hasReq b q = true := List.any_eq_true.mpr ⟨o, mem, is⟩
      rw [show s.hasReq b q = false from unasked] at asked
      cases asked
    simp only [onTimeout, absent]
  · have quiet : (s.bay b).state.quiet ∧ (s.bay b).state ≠ .resetting := by
      rcases working with h | h
      · cases st : (s.bay b).state <;> simp_all [BayState.quiet, BayState.working]
      · simp [h, BayState.quiet]
    obtain ⟨state, hard, docketOf, faults⟩ := timeoutCaused_bay quiet.1 below q
    have live : ((timeoutCaused b q s).bay b).state ≠ .retired ∧ ((timeoutCaused b q s).bay b).state ≠ .resetting := by
      rw [state]; exact ⟨quiet.1.1, quiet.2⟩
    obtain ⟨resetting, hardKept, -⟩ := startReset_self live
    have made := onTimeout_of_asked found
    rw [afterTimeout_resets purpose (by rw [find?_req found]; exact other)] at made
    refine ⟨onTimeout b q s, rfl, ?_⟩
    rw [made]
    refine ⟨resetting, hardKept.trans hard, by rw [startReset_hasReq live]; rfl, ?_, ⟨by simp, by simp, by simp, by simp⟩,
      ⟨by simp, by simp, by simp⟩, fun first => startReset_firstStays _ _ _ ?_, fun d r docket holds place notReserved notInbound causeless => ?_⟩
    · rw [State.unasked, startReset_hasReq live]
      simpa using other
    · rw [faults, FaultRecord.after_of_none first]
    · obtain ⟨st, after⟩ := (startReset_docket live (docketOf.trans docket) (timeoutCaused_docket docket holds q)).2
        (by simpa [Docket.giveCause, causeless] using notReserved)
      exact ⟨_, after, by simp [Docket.giveCause, causeless], by simp [Docket.giveCause, causeless]⟩
  · have quiet : (s.bay b).state.quiet := by rcases state with h | h | h <;> simp [h, BayState.quiet]
    obtain ⟨state, hard, -, -⟩ := timeoutCaused_bay quiet below q
    have gone := goAbsent_bay (s := timeoutCaused b q s) (b := b) (by rw [state]; exact quiet.1) b
    rw [if_pos rfl] at gone
    have made := onTimeout_of_asked found
    refine ⟨onTimeout b q s, rfl, ?_⟩
    rw [made]
    rcases afterTimeout_absent (s := timeoutCaused b q s) (b := b) (by rw [find?_req found]; exact kind) with h | h <;> rw [h]
    · have self : ((resetFailed b (timeoutCaused b q s)).bay b).state = .absent
          ∧ ((resetFailed b (timeoutCaused b q s)).bay b).hard = (s.bay b).hard + 1 := by
        unfold resetFailed
        dsimp only
        split
        · rw [sendReq_bay, if_pos rfl, gone]; exact ⟨rfl, hard⟩
        · rw [gone]; exact ⟨rfl, hard⟩
      exact ⟨self.1, self.2, ⟨by simp, by simp, by simp, by simp⟩, ⟨by simp, by simp, by simp⟩, by simp⟩
    · rw [gone]
      exact ⟨rfl, hard, ⟨by simp, by simp, by simp, by simp⟩, ⟨by simp, by simp, by simp⟩, by simp⟩
  · obtain ⟨state, -, docketOf, -⟩ := timeoutCaused_bay (s := s) (b := b) ⟨notRetired, notIdle, notSpare⟩ below q
    have caused := timeoutCaused_docket docket holds q
    have made := onTimeout_of_asked found
    rw [afterTimeout_strands ((find?_req found).trans is) (purpose.imp_right .inl), strand_of_docket (docketOf.trans docket)] at made
    have bays := stranded_bay (s := timeoutCaused b q s) (b := b) (by rw [state]; exact notRetired)
    have self := bays b
    rw [if_pos rfl] at self
    have caused' : (stranded b (timeoutCaused b q s)).docket d = some (r.giveCause .bayTimeout s.tower.time) := by
      rw [State.docket_congr (s := timeoutCaused b q s) (by simp), caused]
    have keeps : (r.giveCause .bayTimeout s.tower.time).bay = b ∧ (r.giveCause .bayTimeout s.tower.time).state ≠ .inbound := by
      unfold Docket.giveCause
      split <;> simp [own, waits]
    have after := loseDisc_bay caused' (by rw [keeps.1, self]; exact docketOf.trans docket) keeps.2 .bay b
    rw [if_pos keeps.1.symm, keeps.1, self] at after
    refine ⟨onTimeout b q s, rfl, ?_⟩
    rw [made]
    refine ⟨by rw [after], by rw [after], by rw [after], ⟨by simp, by simp, by simp, by simp⟩, by simp, _, loseDisc_docket caused' .., rfl, rfl, rfl, ?_⟩
    unfold Docket.giveCause
    by_cases causeless : r.cause = .none <;> simp [causeless]
  · have quiet : (s.bay b).state.quiet := by rcases state with h | h <;> simp [h, BayState.quiet]
    have same : timeoutCaused b q s = timedOut b q s := by simp only [timeoutCaused, empty]
    obtain ⟨stateOf, hard, docketOf, -⟩ := timeoutCaused_bay quiet below q
    have bays := stranded_bay (s := timeoutCaused b q s) (b := b) (by rw [stateOf]; exact quiet.1)
    have self := bays b
    rw [if_pos rfl] at self
    have arm : (timeoutCaused b q s).transport = s.transport := by simp [same, timedOut]
    have dockets : (timeoutCaused b q s).dockets = s.dockets := by simp [same, timedOut]
    have made := onTimeout_of_asked found
    rw [afterTimeout_strands ((find?_req found).trans is) (by tauto),
      strand_of_sweep (docketOf.trans empty) (by rw [arm]; exact errand) work source held] at made
    refine ⟨onTimeout b q s, rfl, ?_⟩
    rw [made]
    refine ⟨by rw [endErrand_bay, self], by rw [endErrand_bay, self], by rw [endErrand_bay, self]; exact hard, ?_⟩
    rw [endErrand_transport]
    have freed : (stranded b (timeoutCaused b q s)).transport = s.transport := by simp [arm]
    rw [freed, Transport.free, if_neg (by simp [sweeping])]
    exact ⟨rfl, rfl, by simp [sweeping], rfl, rfl, ⟨by simp, by simp, by simp, by simp⟩, ⟨by simp, by simp [dockets]⟩,
      ⟨by simp, by simp, by simp⟩⟩
  · have quiet : (s.bay b).state.quiet := by simp [state, BayState.quiet]
    have same : timeoutCaused b q s = timedOut b q s := by simp only [timeoutCaused, empty]
    obtain ⟨⟨f, raised⟩, -, out⟩ := timedOut_bay quiet below q
    have here := raised b
    rw [if_pos rfl] at here
    have gone := goAbsent_bay (s := timedOut b q s) (b := b) (by rw [here]; exact quiet.1) b
    rw [if_pos rfl, here] at gone
    have live : ((timedOut b q s).bay b).state ≠ .retired := by rw [here]; exact quiet.1
    have made : onTimeout b q s = (goAbsent b (timedOut b q s)).setBay b
        { (goAbsent b (timedOut b q s)).bay b with stranded := true, sweepProbe := none } := by
      rw [onTimeout_of_asked found, same]
      simp [afterTimeout, (find?_req found).trans is, purpose]
    refine ⟨onTimeout b q s, rfl, ?_⟩
    rw [made, State.bay_setBay, if_pos rfl, gone]
    refine ⟨rfl, rfl, rfl, rfl, ?_, ?_, ?_, ⟨?_, ?_, ?_, ?_⟩, ⟨?_, ?_⟩, ⟨?_, ?_, ?_⟩⟩
    · rw [State.hasReq, State.bay_setBay, if_pos rfl]
      have kept := dropReq_hasReq_other (q := .probe) (r := .reset) b b s (by decide)
      rw [State.hasReq, dropReq_bay, if_pos rfl] at kept
      rw [is]
      exact kept
    · simp [goAbsent_of_live live, out]
    all_goals simp [timedOut]

end Sys2Proof.Machine
end

section
/-! PROOFS. The printer's timers (O55), the spindle's events (O56), and the firing of dots with the carriage (O59). -/

namespace Sys2Proof.Machine

variable {s t u : State}

/-! ### A print aborted (R159) -/

/-- The printer as it brakes the spindle. -/
def Printer.spinningDown (p : Printer) : Printer :=
  { p with state := .spindown, carriageTarget := none, clampTimer := none, spinupTimer := none, settleTimer := none
           spindownTimer := some 10000, quietTimer := some 200 }

theorem enterSpindown_printer (s : State) : (enterSpindown s).printer = s.printer.spinningDown := by
  unfold enterSpindown
  rw [setPrinter_printer]
  split
  · next same =>
    unfold Printer.spinningDown
    rw [← show s.printer.state = .spindown from same]
  · rfl

/-- The printer as an abort leaves it. -/
def Printer.aborted (p : Printer) : Printer :=
  { p with lanes := p.lanes.map Lane.stop, active := none, shadow := none, load := [] }.spinningDown

/-- The docket of a print that is aborted. -/
def Docket.aborted (r : Docket) (cause : Cause) (now : Nat) : Docket :=
  { r.giveCause cause now with state := .rejectWait, place := some .printer }

/-- The state in which an aborted print has its cause. -/
def printCaused (cause : Cause) (code : FaultCode) (d : DocketNo) (s : State) : State :=
  giveCause false d cause (reportFault code none (some d) s)

/-- The state in which the spindle of an aborted print is braked. -/
def braked (cause : Cause) (code : FaultCode) (d : DocketNo) (s : State) : State :=
  enterSpindown (staleBand (endLoad { printCaused cause code d s with printer := { (printCaused cause code d s).printer with
    lanes := (printCaused cause code d s).printer.lanes.map Lane.stop, active := none, shadow := none } }))

theorem abortPrint_eq {d : DocketNo} {r : Docket} (docket : s.printer.docket = some d) (holds : s.docket d = some r)
    (printing : r.state = .printing) (cause : Cause) (code : FaultCode) :
    abortPrint cause (some code) s = queueTask d .printerOut .printer (.output .reject)
      ((braked cause code d s).updDocket d fun r => { r with state := .rejectWait, place := some .printer }) := by
  have state : (s.docket d).map (·.state) = some .printing := by rw [holds, Option.map_some, printing]
  simp only [abortPrint, docket, state, if_true]
  rfl

theorem braked_printer (cause : Cause) (code : FaultCode) (d : DocketNo) (s : State) :
    (braked cause code d s).printer = s.printer.aborted := by
  have same : (printCaused cause code d s).printer = s.printer := by simp [printCaused]
  rw [braked, enterSpindown_printer, Printer.aborted, ← same]
  rfl

/-- What an abort leaves of the printer, the docket and the fault record. -/
theorem abortPrint_of_printing {d : DocketNo} {r : Docket} (docket : s.printer.docket = some d) (holds : s.docket d = some r)
    (printing : r.state = .printing) (cause : Cause) (code : FaultCode) :
    (abortPrint cause (some code) s).printer = s.printer.aborted
    ∧ (abortPrint cause (some code) s).docket d = some (r.aborted cause s.tower.time)
    ∧ (abortPrint cause (some code) s).faults = s.faults.after code none (some d) s.tower.time := by
  rw [abortPrint_eq docket holds printing]
  refine ⟨by simp [braked_printer], ?_, ?_⟩
  · rw [queueTask_docket, updDocket_docket, if_pos rfl, State.docket_congr (s := printCaused cause code d s) (by simp [braked]),
      printCaused, giveCause_docket, if_pos rfl, reportFault_docket, holds]
    simp [Docket.aborted]
  · simp [braked, printCaused]

theorem Docket.aborted_of_causeless {r : Docket} (causeless : r.cause = .none) (cause : Cause) (now : Nat) : r.aborted cause now = { r with
    state := .rejectWait, place := some .printer, cause := cause, verdict := some .reject, verdictTime := some now } := by
  simp [Docket.aborted, Docket.giveCause, causeless]

/-- Every lane of an aborted print has stopped. -/
theorem Printer.aborted_lane (p : Printer) (lane : LaneNo) :
    (p.aborted.lanes.get lane).enabled = false ∧ (p.aborted.lanes.get lane).waiting = [] := by
  simp [Printer.aborted, Printer.spinningDown, Lane.stop]

/-! ### The printer's timers (R148 to R150, R160) -/

theorem enterSpinup_printer (s : State) : (enterSpinup s).printer = { s.printer with
    state := .spinup, clampTimer := none, spinupTimer := some 3000, edge := none, edgeTime := none, interval := none } := by
  unfold enterSpinup
  rw [setPrinter_printer]
  split
  · next same => rw [← show s.printer.state = .spinup from same]
  · rfl

theorem printerEmpties_of_not (h : ¬ (s.printer.state = .readyOut ∧ s.printer.docket = none ∧ s.sensor .trayPresent = false)) :
    printerEmpties s = none := if_neg h

theorem printerEmpties_of (h : s.printer.state = .readyOut ∧ s.printer.docket = none ∧ s.sensor .trayPresent = false) :
    printerEmpties s = some (setPrinter .empty s) := if_pos h

/-- Settles O55. -/
theorem printerTimers : Obligations.PrinterTimers := by
  intro s
  refine ⟨fun on state => ⟨enterSpinup s, if_pos ⟨Option.isSome_iff_ne_none.mpr on, state⟩, enterSpinup_printer s,
      ⟨by simp, by simp, by simp, by simp⟩, ⟨by simp, by simp⟩, by simp, by simp⟩,
    fun off => if_neg (by simp [off]), fun off => if_neg (by simp [off]), fun off => if_neg (by simp [off]),
    fun d r docket holds printing causeless => ?_, fun on state => ?_, fun off => if_neg (by simp [off]), fun on state => ?_,
    fun off => if_neg (by simp [off]), ?_⟩
  · obtain ⟨printer, given, faults⟩ := abortPrint_of_printing docket holds printing .printSpindle .spindle
    refine ⟨abortPrint .printSpindle (some .spindle) s, fun on => if_pos (Option.isSome_iff_ne_none.mpr on),
      fun on => if_pos (Option.isSome_iff_ne_none.mpr on), by rw [printer]; rfl, by rw [printer]; rfl, by rw [printer]; rfl,
      ⟨by simp, by simp, by simp, by simp⟩, by simp, by simp, by simp, by rw [printer]; rfl, by rw [printer]; rfl, fun lane => ?_,
      fun first => by rw [faults, FaultRecord.after_of_none first], by rw [given, Docket.aborted_of_causeless causeless]⟩
    rw [printer]
    exact (Printer.aborted_lane _ lane).2
  · refine ⟨setPrinter .readyOut { s with printer := { s.printer with spindownTimer := none, quietTimer := none } },
      if_pos ⟨Option.isSome_iff_ne_none.mpr on, state⟩, ?_, ⟨by simp, by simp, by simp, by simp⟩, ⟨by simp, by simp⟩, by simp, by simp⟩
    rw [setPrinter_printer, if_neg (by rcases state with h | h <;> simp [h])]
    rfl
  · refine ⟨reportFault .spindown none s.printer.docket (setPrinter .fault { s with printer := { s.printer with spindownTimer := none } }),
      if_pos ⟨Option.isSome_iff_ne_none.mpr on, state⟩, ?_, ⟨by simp, by simp, by simp, by simp⟩, ⟨by simp, by simp⟩, by simp, by simp,
      fun first => ?_⟩
    · rw [(reportFault_frame ..).2.2.2.2.2.2.2.2.2.2.2.2.2.1, setPrinter_printer, if_neg (by simp [state])]
      rfl
    · rw [reportFault_faults, FaultRecord.after_of_none (by simpa using first)]
      simp
  · intro empties
    refine ⟨printerEmpties_of_not, fun e => ?_⟩
    have made := printerEmpties_of e
    refine ⟨settleStep_of_rule (r := printerEmpties) (by simp [rules]) (by rw [made]; nofun), _, made, ?_,
      ⟨by simp, by simp, by simp, by simp⟩, ⟨by simp, by simp⟩, by simp, by simp, by simp, by simp, by simp⟩
    rw [setPrinter_printer, if_neg (by simp [e.1])]
    rfl

/-! ### Edges, indexes and breaches (R149, R150) -/

/-- What an abort for the spindle leaves of the tower, for the docket `d` with the record `r`. -/
def State.spindleAborted (s : State) (d : DocketNo) (r : Docket) (t : State) : Prop :=
  t.printer.state = .spindown ∧ t.printer.spindownTimer = some 10000 ∧ t.printer.quietTimer = some 200
  ∧ t.printer.carriageTarget = none ∧ t.printer.active = none ∧ t.printer.shadow = none ∧ t.printer.load = []
  ∧ (∀ lane : LaneNo, (t.printer.lanes.get lane).enabled = false ∧ (t.printer.lanes.get lane).waiting = [])
  ∧ (s.faults.first = none → t.faults.first = some { code := .spindle, bay := none, docket := some d, time := s.tower.time })
  ∧ s.sameHost t ∧ t.jobs = s.jobs ∧ t.bins = s.bins ∧ t.sensors = s.sensors
  ∧ t.docket d = some { r with
      state := .rejectWait, place := some .printer, cause := .printSpindle, verdict := some .reject
      verdictTime := some s.tower.time }

/-- A breach in PRINTING aborts the print, whatever the capture has taken. -/
theorem breach_of_printing {q : Printer} {d : DocketNo} {r : Docket} (state : q.state = .printing) (docket : q.docket = some d)
    (holds : s.docket d = some r) (printing : r.state = .printing) (causeless : r.cause = .none) (atIndex : Bool) :
    s.spindleAborted d r (breach atIndex (setPrinterRec q s)) := by
  have abort : breach atIndex (setPrinterRec q s) = abortPrint .printSpindle (some .spindle) (setPrinterRec q s) := by
    simp [breach, setPrinterRec, state]
  obtain ⟨printer, given, faults⟩ := abortPrint_of_printing (s := setPrinterRec q s) (d := d) (r := r) docket holds printing
    .printSpindle .spindle
  rw [abort]
  unfold State.spindleAborted
  rw [printer, given, Docket.aborted_of_causeless causeless]
  refine ⟨rfl, rfl, rfl, rfl, rfl, rfl, rfl, Printer.aborted_lane _, fun first => ?_, ⟨by simp, by simp, by simp, by simp⟩, by simp, by simp,
    by simp, by simp⟩
  rw [faults, FaultRecord.after_of_none (by simpa using first)]
  simp

theorem enterSettling_printer (b : Bool) (s : State) : (enterSettling b s).printer = { s.printer with
    state := .settling, spinupTimer := none, settleTimer := some 5000, clean := 0, breached := b } := by
  unfold enterSettling
  rw [setPrinter_printer]
  split
  · next same => rw [← show s.printer.state = .settling from same]
  · rfl

theorem badInterval_eq_false_iff (time : PrintTime) (last : Option PrintTime) :
    badInterval (last.map fun x => time - x) = false
      ↔ ∀ x, last = some x → 2000 ≤ (time - x).toNat ∧ (time - x).toNat ≤ 50000 := by
  cases last <;> simp [badInterval]

/-- An edge counts a 2,048th of the revolution exactly where 2,047 were counted before it. -/
theorem edgeOverflows_iff (e : Option Nat) : e.map (· + 1) = some 2048 ↔ e = some 2047 := by
  cases e <;> simp

/-- The capture outside SPINDOWN and FAULT. -/
theorem captureEdge_of_driven {p : Printer} (driven : ¬ (p.state = .spindown ∨ p.state = .fault)) (e : Option Nat) (t : PrintTime) :
    p.captureEdge e t = { p with edge := e, edgeTime := some t, interval := p.edgeTime.map fun x => t - x } := by
  simp only [Printer.captureEdge, if_neg driven]

/-- The capture while the spindle is braked. -/
theorem captureEdge_of_braked {p : Printer} (braked : p.state = .spindown ∨ p.state = .fault) (e : Option Nat) (t : PrintTime) :
    p.captureEdge e t = { p with edge := e, edgeTime := some t, interval := p.edgeTime.map fun x => t - x, quietTimer := some 200 } := by
  simp only [Printer.captureEdge, if_pos braked]

/-- An edge is a breach by its number or by its interval. -/
def Printer.edgeBreaches (p : Printer) (time : PrintTime) : Prop :=
  p.edge = some 2047 ∨ ¬ ∀ x, p.edgeTime = some x → 2000 ≤ (time - x).toNat ∧ (time - x).toNat ≤ 50000

/-- An index is a breach by its interval or by coming early. -/
def Printer.indexBreaches (p : Printer) (time : PrintTime) : Prop :=
  (¬ ∀ x, p.edgeTime = some x → 2000 ≤ (time - x).toNat ∧ (time - x).toNat ≤ 50000) ∨ ∃ n, p.edge = some n ∧ n < 2047

theorem onEdge_of_breach {time : PrintTime} (bad : s.printer.edgeBreaches time) : onEdge time s =
    breach false (setPrinterRec (s.printer.captureEdge (s.printer.edge.map (· + 1)) time) s) := by
  refine if_pos ?_
  rcases bad with h | h
  · exact .inr ((edgeOverflows_iff _).mpr h)
  · exact .inl (Bool.not_eq_false _ ▸ fun e => h ((badInterval_eq_false_iff _ _).mp e))

theorem onEdge_of_sound {time : PrintTime} (sound : ¬ s.printer.edgeBreaches time) (state : s.printer.state ≠ .printing) : onEdge time s =
    setPrinterRec (s.printer.captureEdge (s.printer.edge.map (· + 1)) time) s := by
  obtain ⟨count, clean⟩ := not_or.mp sound
  refine (if_neg ?_).trans (if_neg state)
  rintro (h | h)
  · exact Bool.noConfusion (h.symm.trans ((badInterval_eq_false_iff _ _).mpr (not_not.mp clean)))
  · exact count ((edgeOverflows_iff _).mp h)

theorem breach_of_idle {state : PrinterState} (is : s.printer.state = state) (settling : state ≠ .settling) (stepping : state ≠ .stepping)
    (printing : state ≠ .printing) (atIndex : Bool) : breach atIndex s = s := by
  subst is
  unfold breach
  split <;> simp_all

theorem onEdge_of_idle (time : PrintTime) {state : PrinterState} (is : s.printer.state = state) (settling : state ≠ .settling)
    (stepping : state ≠ .stepping) (printing : state ≠ .printing) : onEdge time s =
      setPrinterRec (s.printer.captureEdge (s.printer.edge.map (· + 1)) time) s := by
  by_cases bad : s.printer.edgeBreaches time
  · rw [onEdge_of_breach bad]
    exact breach_of_idle (s := setPrinterRec (s.printer.captureEdge (s.printer.edge.map (· + 1)) time) s) is settling stepping printing false
  · exact onEdge_of_sound bad (is ▸ printing)

theorem onIndex_of_breach {time : PrintTime} (spinup : s.printer.state ≠ .spinup) (bad : s.printer.indexBreaches time) : onIndex time s =
    breach true (setPrinterRec (s.printer.captureEdge (some 0) time) s) := by
  refine (if_neg spinup).trans (if_pos ?_)
  rcases bad with h | ⟨n, h, lt⟩
  · exact .inl (Bool.not_eq_false _ ▸ fun e => h ((badInterval_eq_false_iff _ _).mp e))
  · exact .inr (by simp [h, lt])

/-- An index that is no breach, by the printer's state. -/
theorem onIndex_of_sound {time : PrintTime} (spinup : s.printer.state ≠ .spinup) (sound : ¬ s.printer.indexBreaches time) :
    onIndex time s =
      let s1 := setPrinterRec (s.printer.captureEdge (some 0) time) s
      let i := (s1.printer.interval.map (·.toNat)).getD 0
      match s.printer.state with
      | .settling =>
        if s.printer.breached then { s1 with printer := { s1.printer with breached := false } }
        else if s.printer.clean + 1 < 2 then { s1 with printer := { s1.printer with clean := s.printer.clean + 1 } }
        else testBand i time (setPrinter .stepping { s1 with printer := { s1.printer with clean := 0, settleTimer := none } })
      | .stepping => testBand i time s1
      | .printing => endRevolution i time s1
      | _ => s1 := by
  obtain ⟨clean, count⟩ := not_or.mp sound
  refine (if_neg spinup).trans ((if_neg ?_).trans (by rfl))
  rintro (h | h)
  · exact Bool.noConfusion (h.symm.trans ((badInterval_eq_false_iff _ _).mpr (not_not.mp clean)))
  · revert h
    split
    · next n e => exact fun h => count ⟨n, e, of_decide_eq_true h⟩
    · nofun

/-- The test for a band leaves a carriage that is not at its ring, and the label with it. -/
theorem testBand_of_away {r : BandRecord} (next : s.printer.nextRecord = some r) (away : s.printer.position ≠ r.ring) (i : Nat)
    (time : PrintTime) : testBand i time s = s := by
  rw [testBand, next]
  exact if_pos (.inl away)

theorem onIndex_of_idle (time : PrintTime) {state : PrinterState} (is : s.printer.state = state) (spinup : state ≠ .spinup)
    (settling : state ≠ .settling) (stepping : state ≠ .stepping) (printing : state ≠ .printing) : onIndex time s =
      setPrinterRec (s.printer.captureEdge (some 0) time) s := by
  by_cases bad : s.printer.indexBreaches time
  · rw [onIndex_of_breach (is ▸ spinup) bad]
    exact breach_of_idle (s := setPrinterRec (s.printer.captureEdge (some 0) time) s) is settling stepping printing true
  · rw [onIndex_of_sound (is ▸ spinup) bad]
    subst is
    dsimp only
    split <;> simp_all

/-- A settling entered changes the printer alone. -/
theorem enterSettling_keeps (b : Bool) (q : Printer) (s : State) : s.sameHost (enterSettling b (setPrinterRec q s))
    ∧ s.sameWork (enterSettling b (setPrinterRec q s)) ∧ (enterSettling b (setPrinterRec q s)).bays = s.bays
    ∧ (enterSettling b (setPrinterRec q s)).transport = s.transport :=
  ⟨⟨by simp [setPrinterRec], by simp [setPrinterRec], by simp [setPrinterRec], by simp [setPrinterRec]⟩,
    ⟨by simp [setPrinterRec], by simp [setPrinterRec]⟩, by simp [setPrinterRec], by simp [setPrinterRec]⟩

/-- Settles O56. -/
theorem spindleEvents : Obligations.SpindleEvents := by
  intro time s
  have driven : ∀ {p : PrinterState}, s.printer.state = p → p ≠ .spindown → p ≠ .fault →
      ¬ (s.printer.state = .spindown ∨ s.printer.state = .fault) := fun is a b h => h.elim (is ▸ a) (is ▸ b)
  have settles : ∀ (b : Bool) (q : Printer), (enterSettling b (setPrinterRec q s)).printer = { q with
      state := .settling, spinupTimer := none, settleTimer := some 5000, clean := 0, breached := b } :=
    fun b q => enterSettling_printer b _
  refine ⟨fun state => ?_, fun state => ?_, fun state bad => ?_, fun state count clean => ?_, fun state bad => ?_, fun state bad => ?_,
    fun state => ?_, fun state => ?_, fun state => ?_, fun state bad => ?_, fun state bad => ?_, fun state bad => ?_,
    fun state sound whole clean => ?_, fun state sound lost => ?_, fun r state sound whole clean next away => ?_,
    fun seen state => ?_, fun seen state => ?_, fun seen state => ?_, fun seen settling stepping printing => ?_, fun unseen => ?_⟩
  · refine next_conclude ?_
    rcases state with is | is | is | is <;>
      exact (onEdge_of_idle time is nofun nofun nofun).trans
        (congrArg (setPrinterRec · s) (captureEdge_of_driven (driven is nofun nofun) _ _))
  · refine next_conclude ?_
    rcases state with is | is <;>
      exact (onEdge_of_idle time is nofun nofun nofun).trans
        (congrArg (setPrinterRec · s) (captureEdge_of_braked (by simp [is]) _ _))
  · refine next_conclude ((onEdge_of_breach bad).trans ?_)
    rw [captureEdge_of_driven (driven state nofun nofun)]
    simp [breach, setPrinterRec, state]
  · refine next_conclude ((onEdge_of_sound (fun bad => bad.elim count (· clean)) (by rcases state with h | h <;> simp [h])).trans ?_)
    rw [captureEdge_of_driven (by rcases state with h | h <;> simp [h])]
    rfl
  · have entered : breach false (setPrinterRec (s.printer.captureEdge (s.printer.edge.map (· + 1)) time) s)
        = enterSettling true (setPrinterRec (s.printer.captureEdge (s.printer.edge.map (· + 1)) time) s) := by
      simp [breach, setPrinterRec, Printer.captureEdge, state]
    refine ⟨_, next_conclude ((onEdge_of_breach bad).trans entered), ?_, enterSettling_keeps _ _ _⟩
    rw [settles, captureEdge_of_driven (driven state nofun nofun)]
  · refine ⟨_, next_conclude (onEdge_of_breach bad), fun d r docket holds printing causeless => ?_⟩
    exact breach_of_printing (q := s.printer.captureEdge (s.printer.edge.map (· + 1)) time) state docket holds printing causeless false
  · refine next_conclude ?_
    rcases state with is | is | is <;>
      exact (onIndex_of_idle time is nofun nofun nofun nofun).trans
        (congrArg (setPrinterRec · s) (captureEdge_of_driven (driven is nofun nofun) _ _))
  · refine next_conclude ?_
    rcases state with is | is <;>
      exact (onIndex_of_idle time is nofun nofun nofun nofun).trans
        (congrArg (setPrinterRec · s) (captureEdge_of_braked (by simp [is]) _ _))
  · refine ⟨enterSettling false (setPrinterRec (s.printer.captureEdge (some 0) time) s), next_conclude (if_pos state), ?_,
      enterSettling_keeps _ _ _⟩
    rw [settles, captureEdge_of_driven (driven state nofun nofun)]
  · refine next_conclude ((onIndex_of_breach (by simp [state]) bad).trans ?_)
    rw [captureEdge_of_driven (driven state nofun nofun)]
    simp [breach, setPrinterRec, state]
  · have entered : breach true (setPrinterRec (s.printer.captureEdge (some 0) time) s)
        = enterSettling false (setPrinterRec (s.printer.captureEdge (some 0) time) s) := by
      simp [breach, setPrinterRec, Printer.captureEdge, state]
    refine ⟨_, next_conclude ((onIndex_of_breach (by simp [state]) bad).trans entered), ?_, enterSettling_keeps _ _ _⟩
    rw [settles, captureEdge_of_driven (driven state nofun nofun)]
  · refine ⟨_, next_conclude (onIndex_of_breach (by simp [state]) bad), fun d r docket holds printing causeless => ?_⟩
    exact breach_of_printing (q := s.printer.captureEdge (some 0) time) state docket holds printing causeless true
  · refine next_conclude ((onIndex_of_sound (by simp [state]) sound).trans ?_)
    rw [captureEdge_of_driven (driven state nofun nofun)]
    simp [setPrinterRec, state, whole, clean]
  · refine next_conclude ((onIndex_of_sound (by simp [state]) sound).trans ?_)
    rw [captureEdge_of_driven (driven state nofun nofun)]
    simp [setPrinterRec, state, lost]
  · have stepped : onIndex time s = setPrinter .stepping { s with printer := { s.printer.captureEdge (some 0) time with
        clean := 0, settleTimer := none } } := by
      refine (onIndex_of_sound (by simp [state]) sound).trans ?_
      simp only [state, whole, clean, Bool.false_eq_true, if_false]
      refine (if_neg (by omega)).trans (testBand_of_away (r := r) ?_ ?_ _ _)
      · rw [← next]
        simp [setPrinter_printer, setPrinterRec, Printer.captureEdge, Printer.nextRecord, state]
      · simp [setPrinter_printer, setPrinterRec, Printer.captureEdge, state, away]
    refine ⟨_, next_conclude stepped, ?_, ⟨by simp, by simp, by simp, by simp⟩, ⟨by simp, by simp⟩, by simp, by simp⟩
    rw [setPrinter_printer, captureEdge_of_driven (driven state nofun nofun)]
    simp [state]
  · refine (if_pos (Option.isSome_iff_ne_none.mpr seen)).trans (next_conclude ?_)
    simp [breach, state]
  · refine ⟨enterSettling true s, (if_pos (Option.isSome_iff_ne_none.mpr seen)).trans (next_conclude (by simp [breach, state])),
      settles true s.printer, enterSettling_keeps true s.printer s⟩
  · refine ⟨_, if_pos (Option.isSome_iff_ne_none.mpr seen), fun d r docket holds printing causeless => ?_⟩
    exact breach_of_printing state docket holds printing causeless false
  · exact (if_pos (Option.isSome_iff_ne_none.mpr seen)).trans (next_conclude (breach_of_idle rfl settling stepping printing false))
  · exact if_neg (by simp [unseen])

/-! ### The dots (R156, R161) and the carriage (R152) -/

theorem later_iff (a b : PrintTime) : later a b = true ↔ a ≠ b ∧ (a - b).toNat < 2 ^ 31 := by
  have zero : a - b = 0 ↔ a = b := ⟨fun h => by bv_omega, fun h => by bv_omega⟩
  rw [later, Bool.and_eq_true, decide_eq_true_iff, decide_eq_true_iff, Ne, zero]

theorem later_eq_false_iff (a b : PrintTime) : later a b = false ↔ a = b ∨ 2 ^ 31 ≤ (a - b).toNat := by
  rw [← Bool.not_eq_true, later_iff, not_and_or, not_not, not_lt]

/-- A head dot whose own time falls within the recovery of the lane is crowded. -/
theorem crowds_of_within {l : Lane} {x : Dot} {last : PrintTime} (fired : l.lastFire = some last)
    (recovers : l.recovering = true ∨ l.due = true) (near : (last + 1000 - x.own).toNat < 2 ^ 31) (before : last + 1000 ≠ x.own) :
    l.crowds x = some (last + 1000) := by
  rw [Lane.crowds, fired]
  exact if_pos ⟨recovers, (later_iff _ _).mpr ⟨before, near⟩⟩

/-- The head dot of a lane is not crowded by a recovery that is over or that its own time is past. -/
theorem crowds_of_past {l : Lane} {x : Dot} (past : l.lastFire = none ∨ (l.recovering = false ∧ l.due = false)
    ∨ ∃ last, l.lastFire = some last ∧ (last + 1000 = x.own ∨ 2 ^ 31 ≤ (last + 1000 - x.own).toNat)) : l.crowds x = none := by
  rcases past with never | ⟨over_, due⟩ | ⟨last, fired, passed⟩
  · rw [Lane.crowds, never]
  · unfold Lane.crowds
    split
    · exact if_neg (by simp [over_, due])
    · rfl
  · rw [Lane.crowds, fired]
    exact if_neg fun crowded => Bool.noConfusion (crowded.2.symm.trans ((later_eq_false_iff _ _).mpr passed))

theorem dotsUp_zero {c : Nat} (below : c < 16777215) : dotsUp 0 c = c := by
  rw [dotsUp]
  omega

theorem dotsUp_one {c : Nat} (below : c < 16777215) : dotsUp 1 c = c + 1 := by
  rw [dotsUp]
  omega

/-- The lane and the counters after a dot has fired. -/
theorem fireDot_of_head {lane : LaneNo} {x : Dot} {rest : List Dot} {d : DocketNo} {r : Docket} {p : PrintCounters}
    (head : (s.printer.lanes.get lane).waiting = x :: rest) (docket : s.printer.docket = some d) (holds : s.docket d = some r)
    (counts : r.print = some p) :
    (fireDot lane s).printer.lanes = s.printer.lanes.set lane ((s.printer.lanes.get lane).fired rest
      (((s.printer.lanes.get lane).crowds x).getD x.own))
    ∧ (fireDot lane s).docket d = some { r with print := some { p with
        fired := dotsUp 1 p.fired, crowded := dotsUp ((s.printer.lanes.get lane).crowds x).isSome.toNat p.crowded } } := by
  have fires : fireDot lane s = updPrint (some d) (fun c => { c with
      fired := dotsUp 1 c.fired, crowded := dotsUp ((s.printer.lanes.get lane).crowds x).isSome.toNat c.crowded })
      (setPrinterRec { s.printer with lanes := s.printer.lanes.set lane ((s.printer.lanes.get lane).fired rest
        (((s.printer.lanes.get lane).crowds x).getD x.own)) } s) := by
    simp only [fireDot, head, docket]
    rfl
  rw [fires]
  refine ⟨by simp [setPrinterRec], ?_⟩
  rw [updPrint_docket]
  refine (congrArg (Option.map _) (show _ = some r from holds)).trans ?_
  simp [counts]

/-- A command for the end of a recovery writes its lane alone. -/
theorem recoveryEnds {lane : LaneNo} {l : Lane} (ends : (s.printer.lanes.get lane).recovered = l) : exec (.laneRecoveryEnd lane) s
    = .next { s with printer := { s.printer with lanes := s.printer.lanes.set lane l } } := by
  subst ends
  rfl

/-- A recovery that ends under a head dot that it crowds. -/
theorem recovered_of_crowded {l : Lane} {x : Dot} {rest : List Dot} {last : PrintTime} (fresh : l.stale = false) (on : l.recovering = true)
    (head : l.waiting = x :: rest) (crowded : l.crowds x = some (last + 1000)) :
    l.recovered = { l with recovering := false, due := true } := by
  simp [Lane.recovered, fresh, on, Lane.headCrowded, head, crowded]

/-- A recovery that ends with no head dot crowded. -/
theorem recovered_of_clear {l : Lane} (fresh : l.stale = false) (on : l.recovering = true)
    (clear : ∀ x rest, l.waiting = x :: rest → l.crowds x = none) :
    l.recovered = { l with recovering := false, due := false } := by
  have head : l.headCrowded = false := by
    unfold Lane.headCrowded
    split
    · next x rest e => rw [clear x rest e]; rfl
    · rfl
  simp [Lane.recovered, fresh, on, head]

theorem startCarriage_of_not (not : ¬ ((s.printer.state = .settling ∨ s.printer.state = .stepping) ∧ s.printer.carriageTarget = none
    ∧ s.printer.homingSteps = 0)) : startCarriage s = none := if_neg not

theorem startCarriage_of_may (may : (s.printer.state = .settling ∨ s.printer.state = .stepping) ∧ s.printer.carriageTarget = none
    ∧ s.printer.homingSteps = 0) : startCarriage s = s.printer.nextRecord.bind fun r =>
      if r.ring ≠ s.printer.position then some { s with printer := { s.printer with carriageTarget := some r.ring } } else none := by
  refine (if_pos may).trans ?_
  cases s.printer.nextRecord <;> rfl

theorem nextRecord_eq_some_iff (p : Printer) (r : BandRecord) :
    p.nextRecord = some r ↔ ∃ st, p.shadow = some st ∧ st.band = p.nextBand ∧ st.record = some r := by
  unfold Printer.nextRecord
  cases p.shadow with
  | none => simp
  | some st =>
    by_cases here : st.band = p.nextBand
    · simp [here]
    · simp [here]

/-- Settles O59. -/
theorem dotsFire : Obligations.DotsFire := by
  intro lane s
  refine ⟨fun empty => ?_, fun x rest d r p head docket holds counts fired crowded => ?_, ⟨fun stale => ?_,
    fun x rest last fresh on head fire near before => ?_, fun fresh on past => ?_, fun fresh off => ?_⟩,
    fun target homed aims away => ?_, fun homed still => ?_, fun last => ?_, fun r may held away => ?_, fun not => ?_⟩
  · exact congrArg Host.Outcome.next (by simp only [fireDot, empty])
  · obtain ⟨lanes, given⟩ := fireDot_of_head head docket holds counts
    refine ⟨fireDot lane s, rfl, fun last fire recovers near before => ?_, fun past => ?_, fun other ne => ?_, by simp, by simp, by simp,
      by simp⟩
    · have late := crowds_of_within fire recovers near before
      rw [lanes, given, late]
      exact ⟨rfl, by simp [dotsUp_one fired, dotsUp_one crowded]⟩
    · rw [lanes, given, crowds_of_past past]
      exact ⟨rfl, by simp [dotsUp_one fired, dotsUp_zero crowded]⟩
    · rw [lanes]
      exact Vector.getElem_set_ne lane.isLt other.isLt (fun e => ne (Fin.ext e.symm))
  · exact recoveryEnds (by simp only [Lane.recovered, stale, if_true])
  · exact recoveryEnds (recovered_of_crowded fresh on head (crowds_of_within fire (.inl on) near before))
  · refine recoveryEnds (recovered_of_clear fresh on fun x rest head => crowds_of_past ?_)
    rcases past with empty | never | ⟨y, others, last, heads, fire, passed⟩
    · exact absurd (head.symm.trans empty) (List.cons_ne_nil _ _)
    · exact .inl never
    · obtain ⟨rfl, rfl⟩ := List.cons.inj (head.symm.trans heads)
      exact .inr (.inr ⟨last, fire, passed⟩)
  · exact recoveryEnds (by simp [Lane.recovered, fresh, off])
  · refine next_conclude (congrArg (setPrinterRec · s) ?_)
    simp only [stepCarriage, homed, aims, lt_self_iff_false, if_false, if_neg away, stepToward]
    rfl
  · exact next_conclude (congrArg (setPrinterRec · s) (by simp [stepCarriage, homed, still]))
  · exact next_conclude (congrArg (setPrinterRec · s) (by simp [stepCarriage, last]))
  · have starts : startCarriage s = some { s with printer := { s.printer with carriageTarget := some r.ring } } := by
      rw [startCarriage_of_may may, (nextRecord_eq_some_iff _ _).mpr held, Option.bind_some, if_pos away]
    exact ⟨starts, settleStep_of_rule (r := startCarriage) (by simp [rules]) (by rw [starts]; nofun)⟩
  · rcases not with not | there
    · exact startCarriage_of_not not
    · by_cases may : (s.printer.state = .settling ∨ s.printer.state = .stepping) ∧ s.printer.carriageTarget = none
        ∧ s.printer.homingSteps = 0
      · rw [startCarriage_of_may may]
        cases e : s.printer.nextRecord with
        | none => rfl
        | some r => exact if_neg (not_not.mpr (there r ((nextRecord_eq_some_iff _ _).mp e)))
      · exact startCarriage_of_not may

end Sys2Proof.Machine
end

section
/-! PROOFS. Bands, revolutions and the dots of an edge (O57). -/

namespace Sys2Proof.Machine

variable {s t u : State}

/-! ### The dots every lane takes at an edge (R154) -/

theorem lanes_get_set (v : Vector Lane 8) (lane x : LaneNo) (l : Lane) :
    (v.set lane l).get x = if lane = x then l else v.get x := by
  change (v.set lane.val l)[x.val] = _
  rw [Vector.getElem_set]
  simp only [Fin.ext_iff]
  rfl

theorem lanes_set_get (v : Vector Lane 8) (lane : LaneNo) : v.set lane (v.get lane) = v := Vector.set_getElem_self _

/-- A lane with the dots that an edge gives it, and the number of them dropped. -/
def Printer.taken (p : Printer) (e i : Nat) (t : PrintTime) (lane : LaneNo) : Lane × Nat :=
  match p.ring lane with
  | some (st, ring) =>
    if (p.lanes.get lane).enabled = true then takeDue ring (st.dotsOf lane) e i t ring.dots (p.lanes.get lane) 0 else (p.lanes.get lane, 0)
  | none => (p.lanes.get lane, 0)

theorem laneDue_printer (e i : Nat) (time : PrintTime) (lane : LaneNo) (s : State) :
    (laneDue e i time lane s).printer = { s.printer with lanes := s.printer.lanes.set lane (s.printer.taken e i time lane).1 } := by
  unfold laneDue Printer.taken
  cases s.printer.ring lane with
  | none => simp only [lanes_set_get]
  | some x =>
    dsimp only
    split
    · simp
    · simp only [lanes_set_get]

theorem dotsUp_dotsUp (m n c : Nat) : dotsUp m (dotsUp n c) = dotsUp (n + m) c := by
  unfold dotsUp
  omega

theorem dotsUp_none {c : Nat} (within : c ≤ 16777215) : dotsUp 0 c = c := by
  rw [dotsUp]
  omega

/-- A docket whose print counters have taken `n` dropped dots. -/
def Docket.dropping (r : Docket) (n : Nat) : Docket :=
  { r with print := r.print.map fun c => { c with dropped := dotsUp n c.dropped } }

theorem Docket.dropping_zero {r : Docket} (within : ∀ p, r.print = some p → p.dropped ≤ 16777215) : r.dropping 0 = r := by
  have same : r.print.map (fun c => { c with dropped := dotsUp 0 c.dropped }) = r.print := by
    cases e : r.print with
    | none => rfl
    | some p => rw [Option.map_some, dotsUp_none (within p e)]
  rw [Docket.dropping, same]

theorem Docket.dropping_dropping (r : Docket) (m n : Nat) : (r.dropping m).dropping n = r.dropping (m + n) := by
  unfold Docket.dropping
  cases r.print <;> simp [dotsUp_dotsUp]

theorem Docket.dropping_within {r : Docket} (n : Nat) : ∀ p, (r.dropping n).print = some p → p.dropped ≤ 16777215 := by
  intro p e
  obtain ⟨c, -, rfl⟩ := Option.map_eq_some_iff.mp e
  exact Nat.min_le_left ..

theorem laneDue_dropping {lane : LaneNo} {d : DocketNo} {r : Docket} (docket : s.printer.docket = some d) (holds : s.docket d = some r)
    (within : ∀ p, r.print = some p → p.dropped ≤ 16777215) (e i : Nat) (time : PrintTime) :
    (laneDue e i time lane s).docket d = some (r.dropping (s.printer.taken e i time lane).2) := by
  unfold laneDue Printer.taken
  cases s.printer.ring lane with
  | none => exact holds.trans (by rw [Docket.dropping_zero within])
  | some x =>
    dsimp only
    split
    · rw [docket, updPrint_docket]
      exact (congrArg (Option.map _) holds).trans rfl
    · exact holds.trans (by rw [Docket.dropping_zero within])

theorem taken_of_other {lane x : LaneNo} (ne : lane ≠ x) (l : Lane) (p : Printer) (e i : Nat) (time : PrintTime) :
    ({ p with lanes := p.lanes.set lane l } : Printer).taken e i time x = p.taken e i time x := by
  have ring : ({ p with lanes := p.lanes.set lane l } : Printer).ring x = p.ring x := rfl
  unfold Printer.taken
  rw [ring]
  simp only [lanes_get_set, if_neg ne]

/-- The lanes of a list take their dots. -/
def takeLanes (e i : Nat) (time : PrintTime) (ls : List LaneNo) (s : State) : State :=
  ls.foldl (fun u lane => laneDue e i time lane u) s

theorem takeLanes_printer (e i : Nat) (time : PrintTime) {ls : List LaneNo} (once : ls.Nodup) (s : State) :
    (takeLanes e i time ls s).printer = { s.printer with lanes := (takeLanes e i time ls s).printer.lanes }
    ∧ ∀ x, (takeLanes e i time ls s).printer.lanes.get x
        = if x ∈ ls then (s.printer.taken e i time x).1 else s.printer.lanes.get x := by
  induction ls generalizing s with
  | nil => exact ⟨rfl, fun x => by simp [takeLanes]⟩
  | cons lane rest ih =>
    obtain ⟨fresh, tail⟩ := List.nodup_cons.mp once
    obtain ⟨printer, lanes⟩ := ih tail (laneDue e i time lane s)
    rw [laneDue_printer] at printer lanes
    refine ⟨printer, fun x => (lanes x).trans ?_⟩
    by_cases same : lane = x
    · subst same
      simp [fresh, lanes_get_set]
    · simp [taken_of_other same, lanes_get_set, same, Ne.symm same]

theorem takeLanes_docket {d : DocketNo} {r : Docket} {e i : Nat} {time : PrintTime} {ls : List LaneNo} (once : ls.Nodup)
    (docket : s.printer.docket = some d) (holds : s.docket d = some r) (within : ∀ p, r.print = some p → p.dropped ≤ 16777215) :
    (takeLanes e i time ls s).docket d = some (r.dropping ((ls.map fun x => (s.printer.taken e i time x).2).sum)) := by
  induction ls generalizing s r with
  | nil => exact holds.trans (by rw [List.map_nil, List.sum_nil, Docket.dropping_zero within])
  | cons lane rest ih =>
    obtain ⟨fresh, tail⟩ := List.nodup_cons.mp once
    have others : rest.map (fun x => ((laneDue e i time lane s).printer.taken e i time x).2)
        = rest.map fun x => (s.printer.taken e i time x).2 :=
      List.map_congr_left fun x mem => by rw [laneDue_printer, taken_of_other (fun same : lane = x => fresh (same ▸ mem))]
    refine (ih tail (by rw [laneDue_printer]; exact docket) (laneDue_dropping docket holds within e i time)
      (Docket.dropping_within _)).trans ?_
    rw [Docket.dropping_dropping, others, List.map_cons, List.sum_cons]

theorem mem_allLanes (x : LaneNo) : x ∈ Config.allLanes := by
  revert x
  decide

theorem takeAllDue_printer (e i : Nat) (time : PrintTime) (s : State) :
    (takeAllDue e i time s).printer = { s.printer with lanes := (takeAllDue e i time s).printer.lanes }
    ∧ ∀ x, (takeAllDue e i time s).printer.lanes.get x = (s.printer.taken e i time x).1 := by
  obtain ⟨printer, lanes⟩ := takeLanes_printer e i time (ls := Config.allLanes) (by decide) s
  exact ⟨printer, fun x => (lanes x).trans (if_pos (mem_allLanes x))⟩

theorem takeAllDue_docket {d : DocketNo} {r : Docket} {e i : Nat} {time : PrintTime} (docket : s.printer.docket = some d)
    (holds : s.docket d = some r) (within : ∀ p, r.print = some p → p.dropped ≤ 16777215) :
    (takeAllDue e i time s).docket d
      = some (r.dropping ((Config.allLanes.map fun x => (s.printer.taken e i time x).2).sum)) :=
  takeLanes_docket (by decide) docket holds within

theorem toList_eq_allLanes (v : Vector Lane 8) : v.toList = Config.allLanes.map v.get := by
  have all : Config.allLanes = List.finRange 8 := by decide
  rw [all]
  exact List.ext_getElem (by simp) (fun k _ _ => by simp [Vector.get])

/-! ### Slips and the start of a band (R153) -/

/-- A docket with one slip more. -/
def Docket.slipped (r : Docket) (p : PrintCounters) : Docket := { r with print := some { p with slips := p.slips + 1 } }

section Slip

variable {d : DocketNo} {r : Docket} {p : PrintCounters} (docket : s.printer.docket = some d) (holds : s.docket d = some r)
  (counts : r.print = some p)

include docket holds counts

theorem updSlips_eq : updPrint s.printer.docket (fun c => { c with slips := c.slips + 1 }) s
    = s.setDocket d (some (r.slipped p)) := by
  simp [docket, updPrint, State.updDocket, holds, counts, Docket.slipped]

theorem slip_eq : slip s = if p.slips + 1 < 5 then s.setDocket d (some (r.slipped p))
    else abortPrint .printStarved (some .starved) (s.setDocket d (some (r.slipped p))) := by
  unfold slip
  rw [updSlips_eq docket holds counts]
  simp [docket, Docket.slipped]

theorem slip_of_few (few : p.slips < 4) : slip s = s.setDocket d (some (r.slipped p)) := by
  rw [slip_eq docket holds counts, if_pos (by omega)]

theorem slip_of_fifth (fifth : 4 ≤ p.slips) (printing : r.state = .printing) :
    (slip s).printer = s.printer.aborted
    ∧ (slip s).docket d = some ((r.slipped p).aborted .printStarved s.tower.time) := by
  rw [slip_eq docket holds counts, if_neg (by omega)]
  obtain ⟨printer, given, -⟩ := abortPrint_of_printing (s := s.setDocket d (some (r.slipped p))) (d := d) (r := r.slipped p)
    docket (by simp) printing .printStarved .starved
  exact ⟨printer, given⟩

end Slip

theorem testBand_of_unready {i : Nat} {time : PrintTime} (unready : s.printer.nextRecord = none ∨ ∃ r, s.printer.nextRecord = some r
    ∧ s.printer.position = r.ring ∧ s.printer.carriageTarget = none ∧ s.printer.load ≠ []) : testBand i time s = slip s := by
  rcases unready with missing | ⟨r, next, there, still, loading⟩
  · rw [testBand, missing]
  · rw [testBand, next]
    exact (if_neg (by simp [there, still])).trans (if_pos loading)

theorem setPrinter_printer_of_busy {st : PrinterState} (busy : st ≠ .readyOut) (s : State) :
    (setPrinter st s).printer = { s.printer with state := st } := by
  rw [setPrinter_printer]
  split
  · next same => rw [← same]
  · simp

/-- The printer as a band starts, before the dots due at the index are taken. -/
def Printer.banded (p : Printer) (r : BandRecord) (j : Job) : Printer :=
  let q := { p with active := p.shadow, shadow := none, load := []
                    lanes := Vector.ofFn fun x : Fin 8 => (p.lanes.get x).begin (r.lanes.get x) }
  { (if p.nextBand + 1 < j.bandCount then beginLoad j (p.nextBand + 1) q else q) with state := .printing }

theorem banded_loads {p : Printer} {j : Job} (more : p.nextBand + 1 < j.bandCount) (r : BandRecord) :
    (p.banded r j).shadow = some { band := p.nextBand + 1, record := none, dots := [] }
    ∧ (p.banded r j).load = [(.record, Reading.start (j.bandTable + 144 * (p.nextBand + 1)) 144)] := by
  simp [Printer.banded, beginLoad, more]

theorem banded_idle {p : Printer} {j : Job} (no_more : j.bandCount ≤ p.nextBand + 1) (r : BandRecord) :
    (p.banded r j).shadow = none ∧ (p.banded r j).load = [] := by
  simp [Printer.banded, Nat.not_lt.mpr no_more]

theorem startBand_printer {r : BandRecord} {j : Job} {d : DocketNo} (docket : s.printer.docket = some d) (job : s.jobOf d = some j)
    (i : Nat) (time : PrintTime) : ∃ v : State, startBand r i time s = takeAllDue 0 i time v ∧ v.printer = s.printer.banded r j := by
  refine ⟨_, rfl, (setPrinter_printer_of_busy (st := .printing) nofun _).trans ?_⟩
  simp only [docket, Option.bind_some, job, setPrinterRec, Printer.banded]

theorem testBand_of_ready {r : BandRecord} (next : s.printer.nextRecord = some r) (there : s.printer.position = r.ring)
    (still : s.printer.carriageTarget = none) (loaded : s.printer.load = []) (i : Nat) (time : PrintTime) :
    testBand i time s = startBand r i time s := by
  rw [testBand, next]
  exact (if_neg (by simp [there, still])).trans (if_neg (by simp [loaded]))

theorem nextRecord_of_shadow {p : Printer} {st : BandStore} {r : BandRecord} (shadow : p.shadow = some st) (next : p.nextRecord = some r) :
    st.record = some r := by
  obtain ⟨st', is, -, record⟩ := (nextRecord_eq_some_iff p r).mp next
  rw [shadow] at is
  cases is
  exact record

/-- The dots the lanes take at the index that starts a band. -/
theorem banded_taken {p : Printer} {st : BandStore} {r : BandRecord} {j : Job} (shadow : p.shadow = some st)
    (record : st.record = some r) (i : Nat) (time : PrintTime) (lane : LaneNo) :
    (p.banded r j).taken 0 i time lane = if (r.lanes.get lane).enabled = true then
      takeDue (r.lanes.get lane) (st.dotsOf lane) 0 i time (r.lanes.get lane).dots ((p.lanes.get lane).begin (r.lanes.get lane)) 0
      else ((p.lanes.get lane).begin (r.lanes.get lane), 0) := by
  have active : (p.banded r j).active = some st := by
    unfold Printer.banded
    split <;> exact shadow
  have lanes : (p.banded r j).lanes.get lane = (p.lanes.get lane).begin (r.lanes.get lane) := by
    unfold Printer.banded
    split <;> simp [beginLoad]
  have ring : (p.banded r j).ring lane = some (st, r.lanes.get lane) := by
    rw [Printer.ring, active]
    simp [record]
  rw [Printer.taken, ring]
  simp only [lanes, Lane.begin]

/-! ### The end of a revolution (R157, R158) -/

/-- The printer at the end of a revolution. -/
def Printer.revolved (p : Printer) : Printer := { p with lanes := p.lanes.map Lane.stop, active := none, nextBand := p.nextBand + 1 }

/-- The state at the end of a revolution, before the next band is tested for. -/
def revolved (d : DocketNo) (r : Docket) (n : Nat) (s : State) : State :=
  setPrinterRec s.printer.revolved (s.setDocket d (some (r.dropping n)))

/-- The dots still waiting on the lanes. -/
def Printer.waitingDots (p : Printer) : Nat := ((Config.allLanes.map fun lane => (p.lanes.get lane).waiting.length)).sum

theorem bandCount_of {d : DocketNo} {j : Job} (docket : s.printer.docket = some d) (job : s.jobOf d = some j) :
    s.bandCount = j.bandCount := by
  simp only [State.bandCount, docket, Option.bind_some, job]

theorem revolved_docket (d : DocketNo) (r : Docket) (n : Nat) (s : State) : (revolved d r n s).docket d = some (r.dropping n) :=
  State.docket_setDocket_self ..

/-- How a revolution ends once its dots are counted. -/
def turn (i : Nat) (time : PrintTime) (v : State) : State :=
  if v.printer.nextBand = v.bandCount then completeLabel v else testBand i time (setPrinter .stepping v)

theorem endRevolution_eq_turn (i : Nat) (time : PrintTime) (s : State) : endRevolution i time s = turn i time (setPrinterRec
    s.printer.revolved (updPrint s.printer.docket (fun c => { c with
      dropped := dotsUp (s.printer.lanes.toList.map fun l => l.waiting.length).sum c.dropped }) s)) := by
  have same (f : PrintCounters → PrintCounters) : (updPrint s.printer.docket f s).printer = s.printer := by simp
  unfold endRevolution turn
  simp only [same]
  rfl

section Revolution

variable {d : DocketNo} {r : Docket} {j : Job} (docket : s.printer.docket = some d) (holds : s.docket d = some r)
  (job : s.job r.slot = some j)

include docket holds

theorem updDropped_eq (n : Nat) : updPrint s.printer.docket (fun c => { c with dropped := dotsUp n c.dropped }) s
    = s.setDocket d (some (r.dropping n)) := by
  simp only [docket, updPrint, State.updDocket, holds, Docket.dropping]

include job

theorem endRevolution_eq (i : Nat) (time : PrintTime) : endRevolution i time s =
    if s.printer.nextBand + 1 = j.bandCount then completeLabel (revolved d r s.printer.waitingDots s)
    else testBand i time (setPrinter .stepping (revolved d r s.printer.waitingDots s)) := by
  have dots : (s.printer.lanes.toList.map fun l => l.waiting.length).sum = s.printer.waitingDots := by
    rw [toList_eq_allLanes, List.map_map]
    rfl
  have jobOf : (revolved d r s.printer.waitingDots s).jobOf d = some j := by
    unfold State.jobOf
    rw [revolved_docket]
    exact job
  have count := bandCount_of (s := revolved d r s.printer.waitingDots s) docket jobOf
  rw [endRevolution_eq_turn, dots, updDropped_eq docket holds]
  exact if_congr (Iff.of_eq (congrArg _ count)) rfl rfl

end Revolution

theorem completeLabel_of {d : DocketNo} {v : State} (docket : v.printer.docket = some d) : completeLabel v =
    enterSpindown (queueTask d .printerOut .printer (.output .good) (setDocketState d .printedWait v)) := by
  simp only [completeLabel, docket]

/-! ### An edge in PRINTING (R155) -/

/-- The lanes whose dots of the edge before are clipped. -/
def Printer.clipped (p : Printer) (e : Nat) (time : PrintTime) : Printer :=
  { p with lanes := p.lanes.map fun l => { l with waiting := l.waiting.map (Dot.clip e time) } }

/-- A docket whose print counters have taken `n` clipped dots. -/
def Docket.clipping (r : Docket) (n : Nat) : Docket :=
  { r with print := r.print.map fun c => { c with clipped := dotsUp n c.clipped } }

theorem clipAll_printer (e : Nat) (time : PrintTime) (s : State) : (clipAll e time s).printer = s.printer.clipped e time := by
  simp [clipAll, Printer.clipped]

theorem clipAll_docket {d : DocketNo} {r : Docket} (docket : s.printer.docket = some d) (holds : s.docket d = some r) (e : Nat)
    (time : PrintTime) : (clipAll e time s).docket d
      = some (r.clipping ((Config.allLanes.map fun lane => (s.printer.lanes.get lane).clipCount e time).sum)) := by
  unfold clipAll
  rw [docket, updPrint_docket, toList_eq_allLanes, List.map_map]
  exact congrArg (Option.map _) holds

theorem onEdge_of_printing {time x : PrintTime} {n : Nat} (state : s.printer.state = .printing) (edge : s.printer.edge = some n)
    (last : s.printer.edgeTime = some x) (sound : ¬ s.printer.edgeBreaches time) : onEdge time s =
      takeAllDue (n + 1) (time - x).toNat time (clipAll (n + 1) time
        (setPrinterRec (s.printer.captureEdge (some (n + 1)) time) s)) := by
  obtain ⟨count, clean⟩ := not_or.mp sound
  have interval : (s.printer.captureEdge (some (n + 1)) time).interval = some (time - x) := congrArg (Option.map _) last
  unfold onEdge
  simp only [edge, Option.map_some]
  rw [if_neg, if_pos state]
  · simp only [setPrinterRec, interval]
  · rintro (h | h)
    · exact Bool.noConfusion (h.symm.trans ((badInterval_eq_false_iff _ _).mpr (not_not.mp clean)))
    · exact count ((edgeOverflows_iff _).mp (by rw [edge]; exact h))

/-! ### The dots taken, one at a time (R154) -/

theorem nextDot_k (l : Lane) (e : RingEntry) : (l.nextDot e).k = l.k + 1 := by
  unfold Lane.nextDot
  split <;> rfl

/-- With fuel for every dot left, the lane stops at its end or at a dot that is not due. -/
theorem takeDue_stops (e : RingEntry) (data : List Byte) (n i : Nat) (time : PrintTime) (fuel : Nat) {l : Lane} (dropped : Nat)
    (fueled : l.k + fuel = e.dots) : (takeDue e data n i time fuel l dropped).1.k ≤ e.dots
      ∧ ((takeDue e data n i time fuel l dropped).1.k < e.dots →
        (takeDue e data n i time fuel l dropped).1.target / 256 ≠ n) := by
  induction fuel generalizing l dropped with
  | zero => exact ⟨fueled.le, fun lt => absurd lt (by simp only [takeDue]; omega)⟩
  | succ fuel ih =>
    have on (l' : Lane) (k : l'.k = l.k) (dropped' : Nat) := ih (l := l'.nextDot e) dropped' (by rw [nextDot_k, k]; omega)
    rw [takeDue]
    split
    · split
      · split
        · exact on { l with waiting := l.waiting ++ [{ edge := n, own := ownTime time i l.target, clipped := false }] } rfl dropped
        · exact on l rfl (dropped + 1)
      · exact on l rfl dropped
    · next not => exact ⟨by dsimp only; omega, fun lt here => not ⟨lt, here⟩⟩

/-! ### Reads in pieces (R94) -/

section Reads

variable {α : Type} [BEq α] [LawfulBEq α]

theorem wholeRead_placeRead (k : α) (off : Nat) (data : List Byte) (l : List (α × Reading)) :
    wholeRead k (placeRead k off data l) = (l.find? fun p => p.1 == k).bind fun p => (p.2.place off data).data := by
  induction l with
  | nil => rfl
  | cons p rest ih =>
    by_cases here : p.1 = k
    · simp [wholeRead, placeRead, here]
    · simpa [wholeRead, placeRead, here] using ih

theorem placeRead_eq (k : α) [DecidableEq α] (off : Nat) (data : List Byte) (l : List (α × Reading)) :
    placeRead k off data l = l.map fun p => if p.1 = k then (p.1, p.2.place off data) else p := by
  simp [placeRead]

theorem filter_placeRead (k : α) (off : Nat) (data : List Byte) (l : List (α × Reading)) :
    (placeRead k off data l).filter (fun p => p.1 != k) = l.filter fun p => p.1 != k := by
  induction l with
  | nil => rfl
  | cons p rest ih =>
    by_cases here : p.1 = k
    · simpa [placeRead, here] using ih
    · simpa [placeRead, here] using ih

omit [BEq α] [LawfulBEq α] in
theorem nextPiece_eq_none_iff (l : List (α × Reading)) : nextPiece l = none ↔ ∀ p ∈ l, p.2.len ≤ p.2.cut := by
  simp [nextPiece, List.findSome?_eq_none_iff, Reading.next]

omit [BEq α] [LawfulBEq α] in
theorem nextPiece_of_first {before after : List (α × Reading)} {k : α} {rd : Reading} (done : ∀ p ∈ before, p.2.len ≤ p.2.cut)
    (left : rd.cut < rd.len) : nextPiece (before ++ (k, rd) :: after)
      = some (k, rd.base + rd.cut, pieceLen (rd.base + rd.cut) (rd.len - rd.cut), rd.cut) := by
  have none_before := (nextPiece_eq_none_iff before).mpr done
  unfold nextPiece at none_before ⊢
  rw [List.findSome?_append, none_before]
  simp [Reading.next, left]

end Reads

theorem field_take_drop (bytes : List Byte) {a n off len : Nat} (within : off + len ≤ n) :
    field ((bytes.drop a).take n) off len = field bytes (a + off) len := by
  unfold field
  rw [List.drop_take, List.take_take, List.drop_drop, Nat.min_eq_left (by omega)]

/-! ### O57 -/

theorem dotsUp_eq_ite (n c : Nat) : dotsUp n c = if c + n ≤ 16777215 then c + n else 16777215 := by
  unfold dotsUp
  split <;> omega

theorem Docket.dropping_print {r : Docket} {p : PrintCounters} (counts : r.print = some p) (n : Nat) :
    (r.dropping n).print = some { p with dropped := if p.dropped + n ≤ 16777215 then p.dropped + n else 16777215 } := by
  simp [Docket.dropping, counts, dotsUp_eq_ite]

theorem Docket.aborted_fields {r : Docket} (causeless : r.cause = .none) (cause : Cause) (now : Nat) :
    (r.aborted cause now).cause = cause ∧ (r.aborted cause now).verdict = some .reject ∧ (r.aborted cause now).state = .rejectWait
    ∧ (r.aborted cause now).print = r.print := by
  rw [Docket.aborted_of_causeless causeless]
  exact ⟨rfl, rfl, rfl, rfl⟩

/-- The clip of O57 is that of the model. -/
theorem clip_eq (n : Nat) (time : PrintTime) (x : Dot) : Dot.clip (n + 1) time x =
    if decide (x.edge = n ∧ x.own ≠ time ∧ (x.own - time).toNat < 2 ^ 31) = true then { x with own := time, clipped := true } else x := by
  unfold Dot.clip
  refine if_congr ?_ rfl rfl
  rw [decide_eq_true_iff, later_iff, Nat.add_right_cancel_iff]

theorem clipCount_eq (n : Nat) (time : PrintTime) (l : Lane) : l.clipCount (n + 1) time =
    (l.waiting.filter fun x => decide (x.edge = n ∧ x.own ≠ time ∧ (x.own - time).toNat < 2 ^ 31)).length := by
  unfold Lane.clipCount
  congr 2
  funext x
  rw [Bool.eq_iff_iff, Bool.and_eq_true, decide_eq_true_iff, decide_eq_true_iff, later_iff, Nat.add_right_cancel_iff]

/-- A lane of a band record, its fields clamped. -/
theorem parseBand_lane (bytes : List Byte) (lane : LaneNo) :
    let d := min 16384 (max 64 (field bytes (18 + 16 * lane.val) 2))
    (parseBand bytes).lanes.get lane = { enabled := field bytes (16 + 16 * lane.val) 1 % 2 == 1, dots := d
                                         phase := min (field bytes (20 + 16 * lane.val) 4) (2 ^ 19 / d - 1)
                                         addr := field bytes (24 + 16 * lane.val) 8 } := by
  have at_ (off len : Nat) (within : off + len ≤ 16) :
      field ((bytes.drop (16 + 16 * lane.val)).take 16) off len = field bytes (16 + off + 16 * lane.val) len := by
    rw [field_take_drop bytes within, Nat.add_right_comm]
  have entry : (parseBand bytes).lanes.get lane = parseRing ((bytes.drop (16 + 16 * lane.val)).take 16) := by simp [parseBand]
  intro d
  rw [entry, parseRing, at_ 0 1 (by omega), at_ 2 2 (by omega), at_ 4 4 (by omega), at_ 8 8 (by omega)]

/-- The state in which a band record is held and the dot data of its enabled lanes asked for. -/
def recorded (rec_ : BandRecord) (s : State) : State := { s with printer := { s.printer with
  shadow := s.printer.shadow.map fun st => { st with record := some rec_ }
  load := (Config.allLanes.filter fun lane => (rec_.lanes.get lane).enabled).map fun lane => dotRead (rec_.lanes.get lane) lane } }

theorem misaligned_iff (rec_ : BandRecord) :
    ((Config.allLanes.filter fun j => (rec_.lanes.get j).enabled).any fun j => (rec_.lanes.get j).addr % 4 ≠ 0) = true
      ↔ ∃ lane : LaneNo, (rec_.lanes.get lane).enabled = true ∧ (rec_.lanes.get lane).addr % 4 ≠ 0 := by
  simp [List.any_eq_true, mem_allLanes]

theorem arriveBand_record {off : Nat} {data bytes : List Byte} {rd : Reading} (load : s.printer.load = [(.record, rd)])
    (whole : (rd.place off data).data = some bytes) : arriveBand .record off data s =
      if ((Config.allLanes.filter fun j => ((parseBand bytes).lanes.get j).enabled).any
          fun j => ((parseBand bytes).lanes.get j).addr % 4 ≠ 0) = true then
        abortPrint .printStarved (some .badBand) (recorded (parseBand bytes) s) else recorded (parseBand bytes) s := by
  have all : wholeRead .record (placeRead .record off data s.printer.load) = some bytes := by
    rw [wholeRead_placeRead, load]
    simpa using whole
  unfold arriveBand
  simp only [all]
  rfl

/-- Settles O57. -/
theorem bandsAndRevolutions : Obligations.BandsAndRevolutions := by
  refine ⟨fun d r j p i time s docket holds counts printing job => ?_, fun time x s last low high edge => ?_,
    fun time x n d r p s state edge count last low high docket holds counts within => ?_,
    fun e data edge i fuel dropped time l => ?_, fun off data rd s load => ?_, fun lane off data rd s load => ?_, fun s => ?_⟩
  · have jobOf : s.jobOf d = some j := by
      simp only [State.jobOf, holds, job]
    refine ⟨fun rec_ next away => ?_, fun unready few => ?_, fun unready fifth causeless => ?_,
      fun rec_ st next shadow there still loaded => ?_, fun last state queue flight => ?_, fun more state => ?_⟩
    · rw [testBand, next]
      exact if_pos away
    · exact (testBand_of_unready unready).trans (slip_of_few docket holds counts few)
    · obtain ⟨printer, given⟩ := slip_of_fifth docket holds counts fifth printing
      obtain ⟨cause, verdict, waits, print⟩ := Docket.aborted_fields (r := r.slipped p) causeless .printStarved s.tower.time
      rw [testBand_of_unready unready, printer]
      exact ⟨rfl, Printer.aborted_lane _, _, given, cause, verdict, waits, print⟩
    · obtain ⟨v, starts, banded⟩ := startBand_printer (r := rec_) docket jobOf i time
      obtain ⟨printer, lanes⟩ := takeAllDue_printer 0 i time v
      rw [testBand_of_ready next there still loaded, starts]
      intro t
      have is : t.printer = { s.printer.banded rec_ j with lanes := t.printer.lanes } := printer.trans (by rw [banded])
      refine ⟨by rw [is]; rfl, ?_, ?_, fun more => ?_, fun no_more => ?_, fun lane => ?_⟩
      · rw [is]
        unfold Printer.banded
        split <;> rfl
      · rw [is]
        unfold Printer.banded
        split <;> rfl
      · rw [is]
        exact banded_loads more rec_
      · rw [is]
        exact banded_idle no_more rec_
      · refine (lanes lane).trans ?_
        rw [banded, banded_taken shadow (nextRecord_of_shadow shadow next)]
        split <;> rfl
    · intro t
      have ends : t = enterSpindown (queueTask d .printerOut .printer (.output .good)
          (setDocketState d .printedWait (revolved d r s.printer.waitingDots s))) := by
        refine (endRevolution_eq docket holds job i time).trans ((if_pos last).trans (completeLabel_of docket))
      have printer : t.printer = s.printer.revolved.spinningDown := by
        rw [ends, enterSpindown_printer]
        simp [revolved, setPrinterRec]
      have stops (lane : LaneNo) : s.printer.revolved.spinningDown.lanes.get lane
          = { s.printer.lanes.get lane with enabled := false, waiting := [], due := false } := by
        simp [Printer.revolved, Printer.spinningDown, Lane.stop]
      rw [printer]
      refine ⟨rfl, ⟨rfl, rfl, stops⟩, rfl, rfl, docket, ⟨{ r.dropping s.printer.waitingDots with state := .printedWait }, ?_, rfl, rfl, rfl,
        Docket.dropping_print counts _⟩, ?_⟩
      · rw [ends]
        simp [setDocketState, updDocket_docket, revolved_docket]
      · have new := queueTask_transport_of_new (s := setDocketState d .printedWait (revolved d r s.printer.waitingDots s)) (d := d)
          .printerOut .printer (.output .good) (by simpa [revolved, setPrinterRec] using queue) fun u task same => flight <| by
            rw [← taskInFlight_congr (t := setDocketState d .printedWait (revolved d r s.printer.waitingDots s))
              (by simp [revolved, setPrinterRec]), task, Option.map_some, same]
        have unchanged (v : State) : (enterSpindown v).transport = v.transport := by simp
        rw [ends, unchanged, new]
        simp [revolved, setPrinterRec]
    · refine ⟨setPrinter .stepping (revolved d r s.printer.waitingDots s), (endRevolution_eq docket holds job i time).trans (if_neg more),
        ?_⟩
      rw [setPrinter_printer_of_busy (st := .stepping) nofun]
      refine ⟨rfl, ⟨rfl, rfl, fun lane => by simp [revolved, setPrinterRec, Printer.revolved, Lane.stop]⟩, rfl, rfl, rfl,
        by simp [revolved, setPrinterRec], by simp [revolved, setPrinterRec], r.dropping s.printer.waitingDots, ?_, rfl,
        Docket.dropping_print counts _⟩
      rw [setPrinter_docket, revolved_docket]
  · intro i took
    have clean : ∀ y, s.printer.edgeTime = some y → 2000 ≤ (time - y).toNat ∧ (time - y).toNat ≤ 50000 := by
      rintro y is
      rw [last] at is
      cases is
      exact ⟨low, high⟩
    have sound : ¬ s.printer.indexBreaches time := by
      rintro (bad | ⟨n, is, lt⟩)
      · exact bad clean
      · rw [edge] at is
        cases is
        omega
    have captured (driven : ¬ (s.printer.state = .spindown ∨ s.printer.state = .fault)) :
        s.printer.captureEdge (some 0) time = took := by
      rw [captureEdge_of_driven driven, last]
      rfl
    refine ⟨fun state => ?_, fun state => ?_, fun state whole clean => ?_⟩
    · refine next_conclude ((onIndex_of_sound (by simp [state]) sound).trans ?_)
      rw [captured (by simp [state])]
      simp only [state]
      rfl
    · refine next_conclude ((onIndex_of_sound (by simp [state]) sound).trans ?_)
      rw [captured (by simp [state])]
      simp only [state]
      rfl
    · refine ⟨setPrinter .stepping { s with printer := { took with clean := 0, settleTimer := none } },
        next_conclude ((onIndex_of_sound (by simp [state]) sound).trans ?_), ?_, ⟨by simp, by simp, by simp, by simp⟩,
        ⟨by simp, by simp⟩, by simp, by simp⟩
      · rw [captured (by simp [state])]
        simp only [state, whole, clean]
        rfl
      · rw [setPrinter_printer_of_busy (st := .stepping) nofun]
  · intro i late clip clipped due cut full
    have sound : ¬ s.printer.edgeBreaches time := by
      rintro (bad | bad)
      · rw [edge] at bad
        exact count (Option.some.inj bad)
      · refine bad fun y is => ?_
        rw [last] at is
        cases is
        exact ⟨low, high⟩
    have driven : ¬ (s.printer.state = .spindown ∨ s.printer.state = .fault) := by simp [state]
    have lanes (lane : LaneNo) : ((s.printer.captureEdge (some (n + 1)) time).clipped (n + 1) time).lanes.get lane = clipped lane := by
      have same : Dot.clip (n + 1) time = clip := funext fun x => clip_eq n time x
      simp [Printer.clipped, Printer.captureEdge, same, clipped]
    have taken (lane : LaneNo) : ((s.printer.captureEdge (some (n + 1)) time).clipped (n + 1) time).taken (n + 1) i time lane = due lane := by
      have ring : ((s.printer.captureEdge (some (n + 1)) time).clipped (n + 1) time).ring lane = s.printer.ring lane := rfl
      unfold Printer.taken
      rw [ring, lanes] <;> rfl
    generalize shape : clipAll (n + 1) time (setPrinterRec (s.printer.captureEdge (some (n + 1)) time) s) = v
    have printer : v.printer = (s.printer.captureEdge (some (n + 1)) time).clipped (n + 1) time := by
      rw [← shape, clipAll_printer]
      rfl
    have given : v.docket d = some (r.clipping cut) := by
      rw [← shape, clipAll_docket (s := setPrinterRec (s.printer.captureEdge (some (n + 1)) time) s) (d := d) (r := r) docket holds]
      simp only [clipCount_eq]
      rfl
    obtain ⟨kept, moved⟩ := takeAllDue_printer (n + 1) i time v
    have counted := takeAllDue_docket (e := n + 1) (i := i) (time := time) (s := v) (by rw [printer]; exact docket) given
      (by simpa [Docket.clipping, counts] using within)
    rw [printer] at kept moved counted
    refine ⟨takeAllDue (n + 1) i time v, next_conclude ((onEdge_of_printing state edge last sound).trans (by rw [shape])), ?_⟩
    rw [kept]
    refine ⟨state, rfl, rfl, rfl, rfl, ⟨by simp [← shape, setPrinterRec], by simp [← shape, setPrinterRec], by simp [← shape, setPrinterRec],
      by simp [← shape, setPrinterRec]⟩, by simp [← shape, setPrinterRec], by simp [← shape, setPrinterRec], by simp [← shape, setPrinterRec],
      by simp [← shape, setPrinterRec], fun lane => (moved lane).trans (by rw [taken]), counted.trans ?_⟩
    simp only [taken, Docket.dropping, Docket.clipping, counts, Option.map_some, dotsUp_eq_ite]
    rfl
  · intro isDue set dot
    refine ⟨fun not => takeDue_of_not_due not _ _, fun is unset => ?_, fun is on room => ?_, fun is on full => ?_,
      takeDue_stops e data edge i time fuel dropped⟩
    · rw [takeDue, if_pos is, if_neg unset]
    · rw [takeDue, if_pos is, if_pos on, if_pos room]
      rfl
    · rw [takeDue, if_pos is, if_pos on, if_neg (Nat.not_lt.mpr full)]
  · refine ⟨fun more => ?_, fun bytes whole => ⟨parseBand bytes, rfl, parseBand_lane bytes, ?_⟩⟩
    · have part : wholeRead .record (placeRead .record off data s.printer.load) = none := by
        rw [wholeRead_placeRead, load]
        simpa using more
      unfold arriveBand
      simp only [part]
      simp [load, placeRead]
    · intro loaded bad
      have arrives := arriveBand_record load whole
      refine ⟨fun fine => ?_, fun is => ⟨?_, fun d r docket holds printing causeless => ?_⟩⟩
      · exact arrives.trans (if_neg (mt (misaligned_iff _).mp fine))
      · exact arrives.trans (if_pos ((misaligned_iff _).mpr is))
      · obtain ⟨printer, given, faults⟩ := abortPrint_of_printing (s := loaded) (d := d) (r := r) docket holds printing .printStarved .badBand
        intro t
        rw [printer, given, faults, Docket.aborted_of_causeless causeless]
        exact ⟨rfl, rfl, rfl, rfl, fun first => by rw [FaultRecord.after_of_none first], rfl⟩
  · have reads : wholeRead (.dots lane) (placeRead (.dots lane) off data s.printer.load) = (rd.place off data).data := by
      rw [wholeRead_placeRead, load]
      rfl
    refine ⟨fun more => ?_, fun bytes whole => ?_⟩
    · unfold arriveBand
      simp only [reads, more]
      rw [placeRead_eq]
    · unfold arriveBand
      simp only [reads, whole, filter_placeRead]
  · refine ⟨fun no => ?_, fun before part rd after free load done left => ?_⟩
    · rcases no with busy | all
      · exact if_neg busy
      · unfold presentBand
        rw [(nextPiece_eq_none_iff _).mpr all]
        split <;> rfl
    · intro n
      unfold presentBand
      rw [if_pos free, load, nextPiece_of_first done left, ← load]
      simp [present, setLine, setPrinterRec, advanceRead, Reading.advance, pieceLen, lineAges, n]

end Sys2Proof.Machine
end

section
/-! PROOFS. The signatures of completed groups, the presenting of compares, and the compare of a group read back (O60). -/

namespace Sys2Proof.Machine

variable {s t u : State}

/-! ### Soft events of a bay at work (R137, R138) -/

/-- A test against the limits may mark a bay at work, and does no more. -/
theorem testLimits_quiet {b : BayNo} (quiet : (s.bay b).state.quiet) :
    ∃ f, ∀ x, (testLimits b s).bay x = if x = b then { s.bay b with failing := f } else s.bay x := by
  obtain ⟨-, idle, spare⟩ := quiet
  unfold testLimits
  split
  · have made : markFailing b s = marked b s := (markFailing_of_state b s).2.2 idle spare
    exact ⟨true, fun x => by rw [made, marked_bay]⟩
  · refine ⟨(s.bay b).failing, fun x => ?_⟩
    split
    · next same => rw [same]
    · rfl

theorem softUp_quiet {b : BayNo} (quiet : (s.bay b).state.quiet) (below : (s.bay b).soft < 15) :
    ∃ f, ∀ x, (softUp b s).bay x = if x = b then { s.bay b with soft := (s.bay b).soft + 1, failing := f } else s.bay x := by
  have made : softUp b s = testLimits b (reportStatus (s.setBay b { s.bay b with soft := (s.bay b).soft + 1 })) := by
    rw [softUp, if_neg (by rintro (h | h) <;> [exact quiet.1 h; omega])]
  have bay (x : BayNo) : (reportStatus (s.setBay b { s.bay b with soft := (s.bay b).soft + 1 })).bay x
      = if x = b then { s.bay b with soft := (s.bay b).soft + 1 } else s.bay x := by
    rw [reportStatus_bay, State.bay_setBay]
  rw [made]
  generalize reportStatus (s.setBay b { s.bay b with soft := (s.bay b).soft + 1 }) = v at *
  have self := bay b
  rw [if_pos rfl] at self
  obtain ⟨f, tested⟩ := testLimits_quiet (s := v) (b := b) (by rw [self]; exact quiet)
  refine ⟨f, fun x => ?_⟩
  rw [tested, self, bay]
  split <;> rfl

/-! ### Signatures (R113, R114) -/

theorem recordSignature_of_room (room : s.engine.posted.length < 32) (b : BayNo) (j : Job) (g : Nat) (crc : BitVec 32) :
    recordSignature b j g crc s = post (signatureWrite j g crc) s := if_pos (decide_eq_true room)

theorem signatureAction_of_frontier {g : Nat} {j : Job} (frontier : g = j.frontier) (b : BayNo) (k : SlotNo) (crc : BitVec 32)
    (room : s.engine.posted.length < 32) : signatureAction b k j g crc s =
      post (signatureWrite j g crc) (s.setJob k (some { j with frontier := j.frontier + 1 })) :=
  (if_pos frontier).trans (recordSignature_of_room (s := s.setJob k (some { j with frontier := j.frontier + 1 })) room b j g crc)

theorem signatureAction_of_open {g : Nat} {j : Job} (behind : g ≠ j.frontier) (open_ : g ∈ j.openEntries) (b : BayNo) (k : SlotNo)
    (crc : BitVec 32) (room : s.engine.posted.length < 32) : signatureAction b k j g crc s =
      post (signatureWrite j g crc) (s.setJob k (some { j with openEntries := j.openEntries.filter (· != g) })) :=
  (if_neg behind).trans ((if_pos (List.contains_iff_mem.mpr open_)).trans (recordSignature_of_room
    (s := s.setJob k (some { j with openEntries := j.openEntries.filter (· != g) })) room b j g crc))

theorem signatureAction_of_known {g : Nat} {j : Job} {b : BayNo} {c : Burn} (behind : g ≠ j.frontier) (closed : g ∉ j.openEntries)
    (burn : s.burnOf b = some c) (k : SlotNo) (crc : BitVec 32) : signatureAction b k j g crc s =
      setChannel b (.burn { c with compares := c.compares ++ [{ group := g, crc := crc, phase := .listed }] }) s := by
  refine (if_neg behind).trans ((if_neg (mt List.contains_iff_mem.mp closed)).trans ?_)
  rw [burn]

/-! ### Compares presented (R115) -/

theorem live_iff (c : Burn) : c.live = true ↔ c.state = .opening ∨ c.state = .streaming ∨ c.state = .draining := by
  simp [Burn.live, or_assoc]

theorem burnJob_eq {b : BayNo} {c : Burn} {r : Docket} {j : Job} (burn : s.burnOf b = some c) (holds : s.docket c.docket = some r)
    (job : s.job r.slot = some j) : s.burnJob b = some (c, j) := by
  simp [State.burnJob, burn, jobOf_eq holds, job]

theorem presentCompare_eq {b : BayNo} {c : Burn} {j : Job} (works : s.burnJob b = some (c, j)) : presentCompare b s =
    if (c.state = .opening ∨ c.state = .streaming ∨ c.state = .draining) ∧ (s.bay b).compare = none then
      (c.compares.find? fun e => e.phase == .listed).map fun e =>
        present (.compare b) (j.signatureTable + 4 * e.group) 4 (.compare e.group)
          (setChannel b (.burn { c with compares := c.compares.map fun x =>
            if x.group = e.group then { x with phase := .presented } else x }) s)
    else none := by
  unfold presentCompare
  rw [works]
  refine if_congr (and_congr_left' (live_iff c)) ?_ rfl
  cases c.compares.find? fun e => e.phase == .listed <;> rfl

/-- A compare presented on a bay's line. -/
theorem present_compare_eq (b : BayNo) (addr len : Nat) (target : Target) (ch : Channel) (s : State) :
    present (.compare b) addr len target (setChannel b ch s) = s.setBay b { s.bay b with
      compare := some { addr := addr, len := len, target := target, stamp := s.event, aged := false, ageTimer := none }
      channel := ch } := by
  simp only [present, setLine, setChannel, State.bay_setBay, if_true, lineAges]
  simp [State.setBay]

/-! ### The compare of a group read back (R128 to R130) -/

section Compared

variable {b : BayNo} {c : Verify} {j : Job} {r : Docket} {crc entry : BitVec 32}

theorem compareGroup_of_mismatch (differs : crc ≠ entry) : compareGroup b c j crc entry s =
    if c.check ∈ c.marks then
      hardUp b (giveCause true c.docket .verify (setChannel b (.verify { c with pages := dropPage c.check c.pages }) s))
    else setChannel b (.verify { c with pages := dropPage c.check c.pages, marks := c.check :: c.marks }) s := by
  unfold compareGroup
  simp only [if_neg differs, List.contains_iff_mem]

/-- The state in which a group that matches has been counted. -/
def matched (b : BayNo) (c : Verify) (j : Job) (s : State) : State :=
  if c.check ∈ c.marks then
    softUp b ((setChannel b (.verify (c.advance j.signatureTable)) s).updDocket c.docket fun r => { r with rereads := countUp 255 r.rereads })
  else setChannel b (.verify (c.advance j.signatureTable)) s

theorem advance_fields (c : Verify) (table : Nat) : (c.advance table).check = c.check + 1 ∧ (c.advance table).groups = c.groups
    ∧ (c.advance table).state = c.state ∧ (c.advance table).pages = c.pages.filter (fun p => p.group != c.check)
    ∧ (c.advance table).docket = c.docket := by
  unfold Verify.advance
  dsimp only
  split <;> exact ⟨rfl, rfl, rfl, rfl, rfl⟩

theorem compareGroup_of_match (same : crc = entry) : compareGroup b c j crc entry s =
    if c.check + 1 = c.groups then verdictGood b c.docket (matched b c j s) else matched b c j s := by
  obtain ⟨check, -⟩ := advance_fields c j.signatureTable
  unfold compareGroup matched
  simp only [if_pos same, List.contains_iff_mem, check]

/-- A group that matches leaves its bay at work, its soft counter raised by a reread, and the docket as it was but for a reread. -/
theorem matched_spec (holds : s.docket c.docket = some r) (verifying : (s.bay b).state = .verifying) (few : r.rereads < 255)
    (soft : (s.bay b).soft < 15) :
    (∃ f, ∀ x, (matched b c j s).bay x = if x = b then { s.bay b with
      channel := .verify (c.advance j.signatureTable), failing := f
      soft := if c.check ∈ c.marks then (s.bay b).soft + 1 else (s.bay b).soft } else s.bay x)
    ∧ (matched b c j s).docket c.docket = some (if c.check ∈ c.marks then { r with rereads := r.rereads + 1 } else r)
    ∧ (c.check ∉ c.marks → (matched b c j s).dockets = s.dockets) ∧ (matched b c j s).tower = s.tower := by
  unfold matched
  split
  · next marked =>
    generalize shape : (setChannel b (.verify (c.advance j.signatureTable)) s).updDocket c.docket
      (fun r => { r with rereads := countUp 255 r.rereads }) = v
    have bay (x : BayNo) : v.bay x = if x = b then { s.bay b with channel := .verify (c.advance j.signatureTable) } else s.bay x := by
      rw [← shape, State.updDocket_bay, setChannel_bay]
    have docket : v.docket c.docket = some { r with rereads := r.rereads + 1 } := by
      rw [← shape, updDocket_docket, if_pos rfl]
      refine (congrArg (Option.map _) holds).trans ?_
      simp [countUp, few]
    have time : v.tower = s.tower := by
      rw [← shape]
      simp [setChannel]
    have self := bay b
    rw [if_pos rfl] at self
    obtain ⟨f, raised⟩ := softUp_quiet (s := v) (b := b) (by simp [self, verifying, BayState.quiet]) (by rw [self]; exact soft)
    refine ⟨⟨f, fun x => ?_⟩, by rw [softUp_docket, docket], fun unmarked => absurd marked unmarked, by simp [time]⟩
    rw [raised, self, bay]
    split <;> rfl
  · exact ⟨⟨(s.bay b).failing, fun x => setChannel_bay ..⟩, holds, fun _ => rfl, rfl⟩

/-- A cause given to a docket in VERIFYING leaves its channel stopped. -/
theorem giveCause_stops (holds : s.docket c.docket = some r) (state : r.state = .verifying) (own : r.bay = b)
    (causeless : r.cause = .none) (verify : (s.bay b).channel = .verify c) (halt : Bool) (cause : Cause) :
    ((giveCause halt c.docket cause s).bay b).channel = .verify { c with state := .stopped }
    ∧ ((giveCause halt c.docket cause s).bay b).state = (s.bay b).state
    ∧ ((giveCause halt c.docket cause s).bay b).hard = (s.bay b).hard := by
  subst own
  rw [giveCause_of_some holds, if_pos causeless]
  simp only [stopWork, state]
  generalize before : rejectQueued c.docket _ = v
  have same : v.bay r.bay = s.bay r.bay := by rw [← before]; simp
  have channel : (v.bay r.bay).channel = .verify c := by rw [same]; exact verify
  cases going : c.state with
  | reading =>
    have here : (stopVerify r.bay v).bay r.bay = { v.bay r.bay with compare := none, channel := .verify { c with state := .stopped } } := by
      rw [stopVerify_of_verify channel going]
      exact (State.bay_setBay ..).trans (if_pos rfl)
    rw [here, same]
    exact ⟨rfl, rfl, rfl⟩
  | stopped =>
    have stays : stopVerify r.bay v = v := by
      unfold stopVerify
      rw [channel]
      exact if_pos going
    have is : ({ c with state := .stopped } : Verify) = c := by rw [← going]
    rw [stays, same, is]
    exact ⟨verify, rfl, rfl⟩

end Compared

theorem verifyOf_eq_some_iff (b : BayNo) (c : Verify) (s : State) : s.verifyOf b = some c ↔ (s.bay b).channel = .verify c := by
  unfold State.verifyOf
  cases (s.bay b).channel <;> simp

/-- Settles O60. -/
theorem groupsSigned : Obligations.GroupsSigned := by
  refine ⟨fun b k j g crc s room => ⟨fun frontier => signatureAction_of_frontier frontier b k crc room,
      fun behind open_ => signatureAction_of_open behind open_ b k crc room,
      fun c behind closed burn => signatureAction_of_known behind closed burn k crc⟩,
    fun b c r j s burn holds job => ?_, fun b c j r crc entry s verify holds verifying own working causeless few soft hard => ?_⟩
  · have made := presentCompare_eq (burnJob_eq burn holds job)
    refine ⟨fun no => ?_, fun before e after may compares others listed => ?_⟩
    · rw [made]
      split
      · next may =>
        have none_listed := no.resolve_left (not_not.mpr may)
        rw [Option.map_eq_none_iff, List.find?_eq_none]
        exact fun x mem is => none_listed x mem (by simpa using is)
      · rfl
    · have first : (c.compares.find? fun e => e.phase == .listed) = some e := by
        rw [compares, List.find?_append, List.find?_eq_none.mpr (fun x mem is => others x mem (by simpa using is)),
          List.find?_cons_of_pos (by simp [listed])]
        rfl
      rw [made, if_pos may, first, Option.map_some, present_compare_eq]
  · have channel := (verifyOf_eq_some_iff b c s).mp verify
    intro t
    refine ⟨fun differs unmarked => ?_, fun differs marked => ?_, fun same more => ?_, fun same last => ?_⟩
    · have is : t = _ := (compareGroup_of_mismatch differs).trans (if_neg unmarked)
      rw [is]
      exact ⟨rfl, by rw [setChannel_bay, if_pos rfl], verifyOf_setChannel ..⟩
    · have is : t = _ := (compareGroup_of_mismatch differs).trans (if_pos marked)
      rw [is]
      generalize shape : setChannel b (.verify { c with pages := dropPage c.check c.pages }) s = v
      have self : v.bay b = { s.bay b with channel := .verify { c with pages := dropPage c.check c.pages } } := by
        rw [← shape, setChannel_bay, if_pos rfl]
      have holds' : v.docket c.docket = some r := by
        rw [← shape]
        exact holds
      obtain ⟨stops, state, count⟩ := giveCause_stops (c := { c with pages := dropPage c.check c.pages }) holds' verifying own causeless
        (by rw [self]) true .verify
      rw [self] at state count
      obtain ⟨⟨f, raised⟩, -⟩ := hardUp_quiet (s := giveCause true c.docket .verify v) (b := b)
        (by rw [state, working]; simp [BayState.quiet]) (by rw [count]; exact hard)
      refine ⟨by rw [raised, if_pos rfl, count], ⟨_, (verifyOf_eq_some_iff ..).mpr (by rw [raised, if_pos rfl]; exact stops), rfl⟩, ?_⟩
      rw [hardUp_docket, giveCause_docket, if_pos rfl, holds']
      exact ⟨_, rfl, by simp [Docket.giveCause, causeless]⟩
    · have is : t = _ := (compareGroup_of_match same).trans (if_neg (by omega))
      obtain ⟨⟨f, bays⟩, docket, dockets, -⟩ := matched_spec (j := j) holds working few soft
      obtain ⟨check, -, state, pages, -⟩ := advance_fields c j.signatureTable
      rw [is]
      refine ⟨⟨_, (verifyOf_eq_some_iff ..).mpr (by rw [bays, if_pos rfl]), check, state, pages⟩, fun unmarked => ⟨dockets unmarked, ?_⟩,
        fun marked => ⟨by rw [docket, if_pos marked], ?_⟩⟩
      · rw [bays, if_pos rfl]
        exact if_neg unmarked
      · rw [bays, if_pos rfl]
        exact if_pos marked
    · have is : t = _ := (compareGroup_of_match same).trans (if_pos last)
      obtain ⟨⟨f, bays⟩, docket, -, time⟩ := matched_spec (j := j) holds working few soft
      rw [is, verdictGood, goodInBay_eq]
      generalize matched b c j s = v at *
      have good_bay : (good c.docket (dropChannel b v)).bay b = (v.bay b).dropped := by
        rw [State.bay_congr (s := dropChannel b v) (by simp), dropChannel_bay, if_pos rfl]
      refine ⟨?_, ?_, ?_⟩
      · rw [queueTask_bay, setBayState_bay, if_pos rfl, good_bay]
        rfl
      · rw [queueTask_bay, setBayState_bay, if_pos rfl]
      · rw [queueTask_docket, setBayState_docket, good_docket ((State.docket_congr (s := v) (by simp) _).trans docket)]
        exact ⟨_, rfl, rfl, rfl, by simp [time]⟩

end Sys2Proof.Machine
end

section
/-! PROOFS. The fields of a record that the part writes (section 12), and the posted writes that are issued (R96, R98, R172). -/

namespace Sys2Proof.Machine

variable {s t u : State}

/-! ### Fields of a record in the making (R182) -/

@[simp] theorem le_length (n w : Nat) : (le n w).length = n := by simp [le]

theorem le_succ (n w : Nat) : le (n + 1) w = BitVec.ofNat 8 w :: le n (w / 256) := by
  unfold le
  rw [List.range_succ_eq_map, List.map_cons, List.map_map, pow_zero, Nat.div_one]
  refine congrArg _ (List.map_congr_left fun i _ => ?_)
  rw [Function.comp_apply, Nat.pow_succ', Nat.div_div_eq_div_mul]

theorem fromLe_le (n w : Nat) : fromLe (le n w) = w % 256 ^ n := by
  induction n generalizing w with
  | zero => simp [le, fromLe, Nat.mod_one]
  | succ n ih =>
    rw [le_succ, fromLe, ih, BitVec.toNat_ofNat, pow_succ' 256 n, Nat.mod_mul (a := 256)]

theorem zeros_eq_le (n : Nat) : zeros n = le n 0 := by
  unfold zeros le
  refine List.ext_getElem (by simp) fun i h _ => ?_
  simp

/-- The field that a record begins with. -/
theorem field_here (n w : Nat) (rest : List Byte) : field (le n w ++ rest) 0 n = w % 256 ^ n := by
  rw [field, List.drop_zero, List.take_left' (le_length n w), fromLe_le]

theorem field_le (n w : Nat) : field (le n w) 0 n = w % 256 ^ n := by simpa using field_here n w []

/-- A field after the first run of bytes. -/
theorem field_after {l : List Byte} {off : Nat} (past : l.length ≤ off) (rest : List Byte) (len : Nat) :
    field (l ++ rest) off len = field rest (off - l.length) len := by
  rw [field, List.drop_append, List.drop_eq_nil_of_le past, List.nil_append, field]

/-- A field after the first field. -/
theorem field_skip {n off : Nat} (past : n ≤ off) (w : Nat) (rest : List Byte) (len : Nat) :
    field (le n w ++ rest) off len = field rest (off - n) len := by
  rw [field_after (by simpa using past), le_length]

/-- A field within the first run of bytes. -/
theorem field_within {l : List Byte} {off len : Nat} (within : off + len ≤ l.length) (rest : List Byte) :
    field (l ++ rest) off len = field l off len := by
  unfold field
  rw [List.drop_append_of_le_length (by omega), List.take_append_of_le_length (by rw [List.length_drop]; omega)]

/-- A field of one entry of a table of entries of equal length. -/
theorem field_entry {α : Type} (f : α → List Byte) {n : Nat} (length : ∀ x, (f x).length = n) {off len : Nat} (within : off + len ≤ n)
    (rest : List Byte) (l : List α) (i : Nat) (x : α) (at_ : l[i]? = some x) :
    field (l.flatMap f ++ rest) (n * i + off) len = field (f x) off len := by
  induction l generalizing i with
  | nil => simp at at_
  | cons y ys ih =>
    rw [List.flatMap_cons, List.append_assoc]
    cases i with
    | zero =>
      cases Option.some.inj at_
      rw [Nat.mul_zero, Nat.zero_add, field_within (by rw [length]; exact within)]
    | succ i =>
      rw [field_after (by rw [length, Nat.mul_succ]; omega), length, ← ih i at_]
      congr 1
      rw [Nat.mul_succ]
      omega

/-! ### The tower status block (Tables 12-10 and 12-11) -/

theorem entry_length (r : Bay) : r.entry.length = 8 := by simp [Bay.entry, zeros_eq_le]

theorem firstBytes_length (f : FaultRecord) : f.firstBytes.length = 12 := by
  unfold FaultRecord.firstBytes
  cases f.first <;> simp [zeros_eq_le]

/-- The fields of the block before those of the bays. -/
def statusHead (s : State) : List Byte :=
  le 1 s.tower.state.code ++ (le 1 s.transport.state.code ++ (le 1 s.printer.state.code ++ (le 1 0
    ++ (le 1 s.bins.a.state.code ++ (le 1 s.bins.b.state.code ++ (le 1 (s.outBin .good).code ++ (le 1 (s.outBin .reject).code
    ++ (le 2 s.bins.good.count ++ (le 2 s.bins.reject.count ++ (s.faults.firstBytes
    ++ (le 1 s.faults.motion ++ (le 1 s.faults.bay ++ (le 1 s.faults.hostMemory ++ (le 1 s.faults.print
    ++ (le 1 s.faults.config ++ le 31 0)))))))))))))))

theorem statusHead_length (s : State) : (statusHead s).length = 60 := by simp [statusHead, firstBytes_length]

theorem statusBody_eq (s : State) :
    statusBody s = statusHead s ++ (Config.allBays.flatMap (fun b => (s.bay b).entry) ++ le 352 0) := by
  simp [statusBody, statusHead, zeros_eq_le]

theorem statusBody_length (s : State) : (statusBody s).length = 508 := by
  have table : (Config.allBays.flatMap fun b => (s.bay b).entry).length = 96 := by
    simp [Config.allBays, entry_length]
  rw [statusBody_eq, List.length_append, List.length_append, statusHead_length, table, le_length]

theorem statusBody_head {off len : Nat} (within : off + len ≤ 60) : field (statusBody s) off len = field (statusHead s) off len := by
  rw [statusBody_eq, field_within (by rw [statusHead_length]; exact within)]

/-- The codes of Table 12-1 fit in a byte. -/
theorem codes_lt (s : State) : s.tower.state.code < 256 ∧ s.transport.state.code < 256 ∧ s.printer.state.code < 256
    ∧ s.bins.a.state.code < 256 ∧ s.bins.b.state.code < 256 ∧ (s.outBin .good).code < 256 ∧ (s.outBin .reject).code < 256
    ∧ ∀ b, (s.bay b).state.code < 256 := by
  refine ⟨?_, ?_, ?_, ?_, ?_, ?_, ?_, fun b => ?_⟩
  · cases s.tower.state <;> decide
  · cases s.transport.state <;> decide
  · cases s.printer.state <;> decide
  · cases s.bins.a.state <;> decide
  · cases s.bins.b.state <;> decide
  · cases s.outBin .good <;> decide
  · cases s.outBin .reject <;> decide
  · cases (s.bay b).state <;> decide

theorem faultCodes_lt (c : FaultCode) : c.cls.code < 256 ∧ c.code < 256 := by cases c <;> decide

/-- A number that may be none is below 256, by what it is. -/
theorem orNone_val {n : Nat} (small : n ≤ 255) (o : Option (Fin n)) :
    orNone (o.map (·.val)) % 256 = o.elim 255 (·.val) := by
  cases o with
  | none => rfl
  | some x => exact Nat.mod_eq_of_lt (by have := x.isLt; simp only [orNone, Option.map_some, Option.getD_some]; omega)

theorem statusBody_states (s : State) : field (statusBody s) 0 1 = s.tower.state.code ∧ field (statusBody s) 1 1 = s.transport.state.code
    ∧ field (statusBody s) 2 1 = s.printer.state.code ∧ field (statusBody s) 4 1 = s.bins.a.state.code
    ∧ field (statusBody s) 5 1 = s.bins.b.state.code ∧ field (statusBody s) 6 1 = (s.outBin .good).code
    ∧ field (statusBody s) 7 1 = (s.outBin .reject).code ∧ field (statusBody s) 8 2 = s.bins.good.count % 2 ^ 16
    ∧ field (statusBody s) 10 2 = s.bins.reject.count % 2 ^ 16 := by
  obtain ⟨tower, transport, printer, a, b, good, reject, -⟩ := codes_lt s
  iterate 9 rw [statusBody_head (by decide)]
  unfold statusHead
  simp [field_skip, field_here, Nat.mod_eq_of_lt, tower, transport, printer, a, b, good, reject]

theorem statusBody_first (s : State) : (s.faults.first = none → field (statusBody s) 12 12 = 0)
    ∧ ∀ e, s.faults.first = some e → field (statusBody s) 12 1 = e.code.cls.code ∧ field (statusBody s) 13 1 = e.code.code
        ∧ field (statusBody s) 14 1 = orNone (e.bay.map (·.val)) % 256
        ∧ field (statusBody s) 15 1 = orNone (e.docket.map (·.val)) % 256
        ∧ field (statusBody s) 16 8 = e.time % 2 ^ 64 := by
  refine ⟨fun first => ?_, fun e first => ?_⟩
  · rw [statusBody_head (by decide)]
    simp [statusHead, FaultRecord.firstBytes, first, zeros_eq_le, field_skip, field_here]
  · obtain ⟨cls, code⟩ := faultCodes_lt e.code
    iterate 5 rw [statusBody_head (by decide)]
    unfold statusHead FaultRecord.firstBytes
    rw [first]
    simp [List.append_assoc, field_skip, field_here, Nat.mod_eq_of_lt, cls, code]

theorem statusBody_counts (s : State) : field (statusBody s) 24 1 = s.faults.motion % 256 ∧ field (statusBody s) 25 1 = s.faults.bay % 256
    ∧ field (statusBody s) 26 1 = s.faults.hostMemory % 256 ∧ field (statusBody s) 27 1 = s.faults.print % 256
    ∧ field (statusBody s) 28 1 = s.faults.config % 256 := by
  iterate 5 rw [statusBody_head (by decide)]
  unfold statusHead
  simp [field_here, field_after, firstBytes_length]

theorem statusBody_bay (s : State) (b : BayNo) {start off len : Nat} (starts : start = 60 + off) (within : off + len ≤ 8) :
    field (statusBody s) (start + 8 * b.val) len = field (s.bay b).entry off len := by
  subst starts
  have at_ : Config.allBays[b.val]? = some b := by
    revert b
    decide
  rw [statusBody_eq, field_after (by rw [statusHead_length]; omega), statusHead_length,
    ← field_entry (fun x => (s.bay x).entry) (fun x => entry_length _) within (le 352 0) Config.allBays b.val b at_]
  congr 1
  omega

theorem entry_fields {r : Bay} (code : r.state.code < 256) : field r.entry 0 1 = r.state.code
    ∧ field r.entry 1 1 = orNone (r.logical.map (·.val)) % 256
    ∧ field r.entry 2 1 = (if r.failing = true then 1 else 0) ∧ field r.entry 3 1 = r.soft % 256
    ∧ field r.entry 4 1 = r.hard % 256 ∧ field r.entry 6 2 = r.linkErrors % 2 ^ 16 := by
  have last : r.entry = le 1 r.state.code ++ (le 1 (orNone (r.logical.map (·.val))) ++ (le 1 r.failing.toNat ++ (le 1 r.soft
      ++ (le 1 r.hard ++ (le 1 0 ++ (le 2 r.linkErrors ++ [])))))) := by simp [Bay.entry, zeros_eq_le]
  rw [last]
  cases r.failing <;> simp [field_skip, field_here, field_le, Nat.mod_eq_of_lt, code]

/-! ### Writes issued (R96, R172) -/

/-- What leaves for host memory of a run of bytes. -/
def cutWrites (a : Nat) (l : List Byte) : List Output :=
  if l.length ≤ 4096 - a % 4096 then [.hostWrite a l]
  else [.hostWrite a (l.take (4096 - a % 4096)), .hostWrite (a + (4096 - a % 4096)) (l.drop (4096 - a % 4096))]

theorem issueBytes_eq (a : Nat) (l : List Byte) (s : State) : issueBytes a l s = { s with out := s.out ++ cutWrites a l } := by
  unfold issueBytes issuePieces cutWrites
  dsimp only
  split
  · simp [emit]
  · simp [emit]

theorem issueGeneration_eq (a : Nat) (s : State) : issueGeneration a s = { s with
    board := { s.board with generation := s.board.generation + 1 }
    out := s.out ++ cutWrites a (le 4 (s.board.generation + 1).toNat) } := by
  unfold issueGeneration
  rw [issueBytes_eq]

theorem raiseStatusNew (v : State) : raiseAttention .statusNew v = { v with
    regs := { v.regs with statusNew := true }
    out := v.out ++ (if v.regs.statusNew = false ∧ v.regs.irqEn = true then [.msi] else []) } := by
  cases clear : v.regs.statusNew with
  | false =>
    refine (raiseAttention_of_clear (a := .statusNew) clear).trans ?_
    simp [Regs.setAttention]
  | true =>
    refine (if_pos (show v.regs.attention .statusNew = true from clear)).trans ?_
    rw [if_neg (by simp), List.append_nil]
    simp only [← clear]

theorem issueStatus_eq (a : Nat) (s : State) : issueStatus a s = { s with
    board := { s.board with generation := s.board.generation + 2 }
    regs := { s.regs with statusNew := true }
    out := s.out ++ cutWrites a (le 4 (s.board.generation + 1).toNat) ++ cutWrites (a + 4) (statusBody s)
      ++ cutWrites a (le 4 (s.board.generation + 2).toNat)
      ++ (if s.regs.statusNew = false ∧ s.regs.irqEn = true then [.msi] else []) } := by
  have twice : s.board.generation + 1 + 1 = s.board.generation + 2 := by rw [BitVec.add_assoc]; rfl
  have body : statusBody { s with
      board := { s.board with generation := s.board.generation + 1 }
      out := s.out ++ cutWrites a (le 4 (s.board.generation + 1).toNat) } = statusBody s := rfl
  unfold issueStatus
  dsimp only
  rw [issueGeneration_eq, issueBytes_eq, issueGeneration_eq, body]
  simp only [twice]
  rw [raiseStatusNew]

theorem issueOldest_generation (s : State) : (issueOldest s).board.generation.toNat % 2 = s.board.generation.toNat % 2 := by
  unfold issueOldest
  split
  · rfl
  · dsimp only
    split
    · rw [issueBytes_eq]
    · rw [issueBytes_eq, issueBytes_eq]
    · rw [issueStatus_eq]
      have two : (2 : BitVec 32).toNat = 2 := rfl
      simp only [BitVec.toNat_add, two]
      omega

/-- A settled event keeps the generation count. -/
theorem conclude_generation (s : State) : (conclude s).board.generation = s.board.generation :=
  (conclude_steady (fw := ⟨true, true, true, true, true, true⟩) (Steady.refl s)).generation rfl

theorem linkReset_generation (s : State) : (conclude (linkReset s)).board.generation = 0 := by
  have kept : Steady ⟨true, true, true, true, true, true⟩ (clearWindow (engineLinkReset (clearWork s))) (conclude (linkReset s)) :=
    conclude_steady (restartTower_steady (resetBays_steady (resetPrinter_steady (Steady.refl _))))
  exact kept.generation rfl

/-- Every step keeps the generation count even. -/
theorem step_generationEven (even : s.generationEven) (e : step s = .next t) : t.generationEven := by
  refine step_keeps State.generationEven (fun _ _ h => h) (fun _ h => h) (fun u => by simp [State.generationEven, powerUp, State.reset])
    (fun c u v p e h => ?_) even e
  unfold State.generationEven at h ⊢
  by_cases reset : c = .linkReset
  · subst reset
    cases Host.Outcome.next.inj e
    rw [linkReset_generation]
    rfl
  · by_cases issue : c = .postedWriteIssue
    · subst issue
      cases Host.Outcome.next.inj e
      rw [conclude_generation, issueOldest_generation, h]
    · rw [(Steady.of_exec e p).generation (commandFollow_generation p reset issue), h]

/-! ### The drain (R141) -/

theorem drain_of_running (running : s.health.drainTimer ≠ none) :
    (drain s).health = { s.health with drainTimer := some (s.health.drainMinutes * 60000) }
    ∧ (∀ b, (drain s).bay b = (s.bay b).drained) ∧ s.sameHost (drain s) ∧ s.sameWork (drain s) ∧ s.samePlant (drain s)
    ∧ (drain s).transport = s.transport ∧ (drain s).faults = s.faults := by
  have bay (b : BayNo) : (startDrain { s with bays := s.bays.map Bay.drained }).bay b = (s.bay b).drained := by
    change (s.bays.map Bay.drained).get b = _
    rw [Vector.get_map]
    rfl
  unfold drain
  cases e : s.health.drainTimer with
  | none => exact absurd e running
  | some n =>
    dsimp only
    split
    · exact ⟨by simp [startDrain, Health.drainStart], fun b => by rw [reportStatus_bay, bay], ⟨by simp [startDrain], by simp [startDrain],
        by simp [startDrain], by simp [startDrain]⟩, ⟨by simp [startDrain], by simp [startDrain]⟩,
        ⟨by simp [startDrain], by simp [startDrain], by simp [startDrain]⟩, by simp [startDrain], by simp [startDrain]⟩
    · exact ⟨rfl, bay, ⟨rfl, rfl, rfl, rfl⟩, ⟨rfl, rfl⟩, ⟨rfl, rfl, rfl⟩, rfl, rfl⟩

end Sys2Proof.Machine
end

section
/-! PROOFS. The fetch arbiter: classes, the order within a class, bursts and grants (R97, R100 to R102). -/

namespace Sys2Proof.Machine

variable {s t u : State}

/-! ### Lines -/

theorem setLine_line (id x : LineId) (q : Option FetchReq) (s : State) : (setLine id q s).line x = if x = id then q else s.line x := by
  cases id <;> cases x <;> simp [setLine, State.line, State.bay_setBay]
  all_goals
    split
    · next same => simp [same]
    · rfl

theorem mem_allLines (id : LineId) : id ∈ allLines := by
  unfold allLines
  cases id <;> simp [mem_allBays]

/-! ### The requests of a class, in its order (R100, R101) -/

theorem mem_ready_iff (c : FetchClass) (id : LineId) (r : FetchReq) :
    (id, r) ∈ s.ready c ↔ s.line id = some r ∧ s.heldBack r = false ∧ s.classOf id r = c := by
  unfold State.ready State.presented
  rw [List.mem_filterMap]
  constructor
  · rintro ⟨⟨x, q, k⟩, mem, is⟩
    obtain ⟨y, -, here⟩ := List.mem_filterMap.mp mem
    obtain ⟨q', line, made⟩ := Option.map_eq_some_iff.mp here
    cases made
    split at is
    · next ok =>
      cases is
      exact ⟨line, ok.2, ok.1⟩
    · cases is
  · rintro ⟨line, free, cls⟩
    refine ⟨(id, r, s.classOf id r), List.mem_filterMap.mpr ⟨id, mem_allLines id, by rw [line]; rfl⟩, ?_⟩
    exact if_pos ⟨cls, free⟩

section Least

variable {α : Type} (key : α → Nat)

/-- The earlier of two by a key, the one found first where they are equal. -/
def better (best : Option α) (p : α) : Option α :=
  match best with
  | none => some p
  | some q => if key p < key q then some p else best

/-- The first of a list by a key, with one found before. -/
theorem foldl_better (l : List α) (best : Option α) :
    (l.foldl (better key) best = none ↔ best = none ∧ l = [])
    ∧ ∀ p, l.foldl (better key) best = some p → (p ∈ l ∨ best = some p) ∧ (∀ q ∈ l, key p ≤ key q)
      ∧ ∀ q, best = some q → key p ≤ key q := by
  induction l generalizing best with
  | nil =>
    refine ⟨by simp, fun p is => ⟨.inr is, by simp, fun q other => ?_⟩⟩
    cases (show best = some p from is).symm.trans other
    exact le_refl _
  | cons x l ih =>
    obtain ⟨empty, least⟩ := ih (better key best x)
    rw [List.foldl_cons]
    have some_ : better key best x ≠ none := by
      cases best with
      | none => nofun
      | some q =>
        unfold better
        dsimp only
        split <;> nofun
    refine ⟨⟨fun is => absurd (empty.mp is).1 some_, by simp⟩, fun p is => ?_⟩
    obtain ⟨from_, below, before⟩ := least p is
    cases best with
    | none =>
      refine ⟨.inl ?_, fun q mem => ?_, by simp⟩
      · rcases from_ with mem | same
        · exact List.mem_cons_of_mem _ mem
        · cases same
          exact List.mem_cons_self
      · rcases List.mem_cons.mp mem with rfl | mem
        · exact before _ rfl
        · exact below _ mem
    | some q =>
      by_cases less : key x < key q
      · have is_ : better key (some q) x = some x := if_pos less
        rw [is_] at from_ before
        refine ⟨?_, fun y mem => ?_, fun y same => ?_⟩
        · rcases from_ with mem | same
          · exact .inl (List.mem_cons_of_mem _ mem)
          · cases same
            exact .inl List.mem_cons_self
        · rcases List.mem_cons.mp mem with rfl | mem
          · exact before _ rfl
          · exact below _ mem
        · cases same
          exact le_trans (before _ rfl) less.le
      · have is_ : better key (some q) x = some q := if_neg less
        rw [is_] at from_ before
        refine ⟨from_.imp_left (List.mem_cons_of_mem _), fun y mem => ?_, before⟩
        rcases List.mem_cons.mp mem with rfl | mem
        · exact le_trans (before _ rfl) (not_lt.mp less)
        · exact below _ mem

end Least

theorem firstOf_eq (s : State) (c : FetchClass) :
    s.firstOf c = (s.ready c).foldl (better fun p => orderKey s c p.1 p.2) none := by
  unfold State.firstOf
  congr 1
  funext best p
  cases best <;> rfl

theorem firstOf_eq_none_iff (s : State) (c : FetchClass) : s.firstOf c = none ↔ s.ready c = [] := by
  rw [firstOf_eq, (foldl_better _ _ _).1]
  simp

theorem firstOf_least {c : FetchClass} {id : LineId} {r : FetchReq} (first : s.firstOf c = some (id, r)) :
    (id, r) ∈ s.ready c ∧ ∀ x q, (x, q) ∈ s.ready c → orderKey s c id r ≤ orderKey s c x q := by
  rw [firstOf_eq] at first
  obtain ⟨mem, least, -⟩ := (foldl_better _ _ _).2 _ first
  exact ⟨mem.resolve_right nofun, fun x q => least (x, q)⟩

/-! ### A fetch issued (R94) -/

/-- The state in which a fetch has left, before a compare's entry is marked. -/
def fetchIssued (k : FetchNo) (id : LineId) (r : FetchReq) (s : State) : State :=
  emit (.hostRead k r.addr r.len) { setLine id none s with engine := { (setLine id none s).engine with
    slots := (setLine id none s).engine.slots.set k (some
      { line := id, addr := r.addr, len := r.len, target := r.target, timer := 50, orphan := false, stale := false })
    burst := (setLine id none s).engine.burst.map fun u => { u with high := u.high.filter (· != id) } } }

theorem issueFetch_cases (k : FetchNo) (id : LineId) (r : FetchReq) (s : State) :
    issueFetch k id r s = fetchIssued k id r s ∨ ∃ b c, issueFetch k id r s = setChannel b c (fetchIssued k id r s) := by
  unfold issueFetch
  dsimp only
  split
  · split
    · exact .inr ⟨_, _, rfl⟩
    · exact .inl rfl
  · exact .inl rfl

theorem setLine_engine (id : LineId) (q : Option FetchReq) (s : State) : (setLine id q s).engine.slots = s.engine.slots
    ∧ (setLine id q s).engine.burst = s.engine.burst ∧ (setLine id q s).engine.pointer = s.engine.pointer
    ∧ (setLine id q s).engine.posted = s.engine.posted ∧ (setLine id q s).out = s.out := by
  cases id <;> exact ⟨rfl, rfl, rfl, rfl, rfl⟩

theorem setChannel_line (b : BayNo) (c : Channel) (s : State) (x : LineId) : (setChannel b c s).line x = s.line x := by
  have own (y : BayNo) : ((setChannel b c s).bay y).image = (s.bay y).image ∧ ((setChannel b c s).bay y).extent = (s.bay y).extent
      ∧ ((setChannel b c s).bay y).compare = (s.bay y).compare := by
    rw [setChannel_bay]
    split
    · next same =>
      rw [same]
      exact ⟨rfl, rfl, rfl⟩
    · exact ⟨rfl, rfl, rfl⟩
  cases x with
  | image y => exact (own y).1
  | extent y => exact (own y).2.1
  | compare y => exact (own y).2.2
  | print => rfl
  | board => rfl

/-- What the issue of a fetch does: the slot, the line, the burst and what leaves. -/
theorem issueFetch_spec (k : FetchNo) (id : LineId) (r : FetchReq) (s : State) :
    (issueFetch k id r s).fetch k = some
      { line := id, addr := r.addr, len := r.len, target := r.target, timer := 50, orphan := false, stale := false }
    ∧ (∀ x, x ≠ k → (issueFetch k id r s).fetch x = s.fetch x)
    ∧ (∀ x, (issueFetch k id r s).line x = if x = id then none else s.line x)
    ∧ (issueFetch k id r s).out = s.out ++ [.hostRead k r.addr r.len]
    ∧ (issueFetch k id r s).engine.burst = s.engine.burst.map fun u => { u with high := u.high.filter (· != id) } := by
  obtain ⟨slots, burst, -, -, out⟩ := setLine_engine id none s
  have fetch (x : FetchNo) : (fetchIssued k id r s).fetch x = if k = x then some
      { line := id, addr := r.addr, len := r.len, target := r.target, timer := 50, orphan := false, stale := false } else s.fetch x := by
    change ((setLine id none s).engine.slots.set k.val _)[x.val] = _
    rw [Vector.getElem_set, slots]
    simp only [Fin.ext_iff]
    rfl
  have line (x : LineId) : (fetchIssued k id r s).line x = if x = id then none else s.line x :=
    (show _ = (setLine id none s).line x by cases x <;> rfl).trans (setLine_line ..)
  have made : (fetchIssued k id r s).fetch k = some
      { line := id, addr := r.addr, len := r.len, target := r.target, timer := 50, orphan := false, stale := false } := by
    rw [fetch, if_pos rfl]
  have others (x : FetchNo) (other : x ≠ k) : (fetchIssued k id r s).fetch x = s.fetch x := by rw [fetch, if_neg (Ne.symm other)]
  have left : (fetchIssued k id r s).out = s.out ++ [.hostRead k r.addr r.len] := congrArg (· ++ _) out
  have going : (fetchIssued k id r s).engine.burst = s.engine.burst.map fun u => { u with high := u.high.filter (· != id) } :=
    congrArg (Option.map _) burst
  rcases issueFetch_cases k id r s with is | ⟨b, c, is⟩
  · rw [is]
    exact ⟨made, others, line, left, going⟩
  · rw [is]
    exact ⟨made, others, fun x => (setChannel_line ..).trans (line x), left, going⟩

/-! ### Which request is granted (R101, R102) -/

theorem classOf_image {id : LineId} {r : FetchReq} (h : s.classOf id r = .urgent ∨ s.classOf id r = .burn) : ∃ b, id = .image b := by
  cases id with
  | image b => exact ⟨b, rfl⟩
  | print => rcases h with h | h <;> cases h
  | compare b => rcases h with h | h <;> cases h
  | extent b =>
    unfold State.classOf at h
    dsimp only at h
    split at h <;> rcases h with h | h <;> cases h
  | board =>
    unfold State.classOf at h
    dsimp only at h
    split at h <;> rcases h with h | h <;> cases h

/-- The state with another burst and rotation pointer. -/
def State.withBurst (s : State) (u : Option Burst) (p : BayNo) : State := { s with engine := { s.engine with burst := u, pointer := p } }

theorem ready_withBurst (v : Option Burst) (p : BayNo) (c : FetchClass) : (s.withBurst v p).ready c = s.ready c := rfl

/-- Where the rotation begins for a burst that starts now. -/
def State.burstFrom (s : State) : BayNo := match s.engine.burst with | some u => u.bay | none => s.engine.pointer

/-- The state in which the burst under way has ended. -/
def burstEnded (s : State) : State :=
  match s.engine.burst with
  | some u => { s with engine := { s.engine with burst := none, pointer := u.bay } }
  | none => s

theorem burstEnded_eq (s : State) : burstEnded s = s.withBurst none s.burstFrom := by
  unfold burstEnded State.withBurst State.burstFrom
  cases burst : s.engine.burst with
  | none => simp only [← burst]
  | some u => rfl

/-- A new burst, begun in a state with none. -/
def beginBurst (k : FetchNo) (v : State) : Option State :=
  match v.firstOf .burn with
  | some (.image b, r) => some (issueFetch k (.image b) r { v with engine := { v.engine with
      burst := some { bay := b, group := targetGroup r.target, count := 1, high := v.highLines } } })
  | _ => none

theorem grantBurn_eq (k : FetchNo) (s : State) : grantBurn k s = beginBurst k (s.withBurst none s.burstFrom) := by
  rw [← burstEnded_eq]
  rfl

/-- A burst is begun by the first BURN request in the rotation; there is one unless none waits. -/
theorem grantBurn_cases (k : FetchNo) (s : State) :
    (grantBurn k s = none ∧ s.ready .burn = [])
    ∨ ∃ b r, (s.withBurst none s.burstFrom).firstOf .burn = some (.image b, r)
      ∧ grantBurn k s = some (issueFetch k (.image b) r (s.withBurst
        (some { bay := b, group := targetGroup r.target, count := 1, high := s.highLines }) s.burstFrom)) := by
  rw [grantBurn_eq]
  unfold beginBurst
  cases first : (s.withBurst none s.burstFrom).firstOf .burn with
  | none => exact .inl ⟨rfl, (firstOf_eq_none_iff (s.withBurst none s.burstFrom) _).mp first⟩
  | some p =>
    obtain ⟨id, r⟩ := p
    obtain ⟨mem, -⟩ := firstOf_least first
    obtain ⟨b, rfl⟩ := classOf_image (s := s.withBurst none s.burstFrom) (.inr ((mem_ready_iff _ _ _).mp mem).2.2)
    exact .inr ⟨b, r, rfl, rfl⟩

/-- The burst under way goes on with this request. -/
def State.goesOn (s : State) (u : Burst) (r : FetchReq) : Prop := s.engine.burst = some u ∧ u.count < 8
  ∧ (s.line (.image u.bay) = some r ∧ s.heldBack r = false) ∧ s.classOf (.image u.bay) r = .burn ∧ targetGroup r.target = u.group

theorem burstRequest_spec (s : State) : (s.burstRequest = none ∧ ∀ u r, ¬ s.goesOn u r)
    ∨ ∃ u r, s.burstRequest = some (.image u.bay, r) ∧ s.goesOn u r := by
  unfold State.burstRequest
  cases burst : s.engine.burst with
  | none => exact .inl ⟨rfl, fun u r h => nomatch burst.symm.trans h.1⟩
  | some u =>
    dsimp only
    split
    · next few =>
      cases found : (s.ready .burn).find? fun p => p.1 == .image u.bay && targetGroup p.2.target == u.group with
      | none =>
        refine .inl ⟨rfl, fun v r h => ?_⟩
        obtain ⟨is, -, ⟨line, free⟩, cls, group⟩ := h
        cases burst.symm.trans is
        exact List.find?_eq_none.mp found (.image u.bay, r) ((mem_ready_iff _ _ _).mpr ⟨line, free, cls⟩) (by simp [group])
      | some p =>
        obtain ⟨id, r⟩ := p
        have is := List.find?_some found
        simp only [Bool.and_eq_true, beq_iff_eq] at is
        obtain ⟨rfl, group⟩ := is
        obtain ⟨line, free, cls⟩ := (mem_ready_iff _ _ _).mp (List.mem_of_find?_eq_some found)
        exact .inr ⟨u, r, rfl, burst, few, ⟨line, free⟩, cls, group⟩
    · next many => exact .inl ⟨rfl, fun v r h => many (Option.some.inj (burst.symm.trans h.1) ▸ h.2.1)⟩

/-- The place of a class in the order of urgency. -/
def FetchClass.place : FetchClass → Nat
  | .urgent => 0 | .print => 1 | .burn => 2 | .check => 3 | .board => 4

/-- No request of a more urgent class waits. -/
def State.noneAbove (s : State) (c : FetchClass) : Prop := ∀ c' : FetchClass, c'.place < c.place → s.ready c' = []

theorem noneAbove_print (urgent : s.ready .urgent = []) : s.noneAbove .print := fun c lt => by
  cases c with
  | urgent => exact urgent
  | _ => exact absurd lt (by decide)

theorem noneAbove_burn (urgent : s.ready .urgent = []) (print : s.ready .print = []) : s.noneAbove .burn := fun c lt => by
  cases c with
  | urgent => exact urgent
  | print => exact print
  | _ => exact absurd lt (by decide)

theorem noneAbove_check (above : s.noneAbove .burn) (burn : s.ready .burn = []) : s.noneAbove .check := fun c lt => by
  cases c with
  | urgent => exact above _ (by decide)
  | print => exact above _ (by decide)
  | burn => exact burn
  | _ => exact absurd lt (by decide)

theorem noneAbove_board (above : s.noneAbove .check) (check : s.ready .check = []) : s.noneAbove .board := fun c lt => by
  cases c with
  | board => exact absurd lt (by decide)
  | check => exact check
  | _ => exact above _ (by decide)

/-- The request that is granted, with the burst it leaves: outside BURN the first of the highest class, in BURN the one that goes on with
the burst, or the first in the rotation after the burst that ends. -/
inductive Granted (k : FetchNo) (s : State) : State → Prop
  | other {c : FetchClass} {id : LineId} {r : FetchReq} (notBurn : c ≠ .burn) (first : s.firstOf c = some (id, r)) (above : s.noneAbove c) :
      Granted k s (issueFetch k id r s)
  | goesOn {u : Burst} {r : FetchReq} (on : s.goesOn u r) (above : s.noneAbove .burn) :
      Granted k s (issueFetch k (.image u.bay) r (s.withBurst (some { u with count := u.count + 1 }) s.engine.pointer))
  | begins {b : BayNo} {r : FetchReq} (stops : ∀ u q, ¬ s.goesOn u q) (above : s.noneAbove .burn)
      (first : (s.withBurst none s.burstFrom).firstOf .burn = some (.image b, r)) :
      Granted k s (issueFetch k (.image b) r (s.withBurst
        (some { bay := b, group := targetGroup r.target, count := 1, high := s.highLines }) s.burstFrom))

/-- A grant is made while a slot is free and a request waits. -/
theorem grantFetch_cases (s : State) : (grantFetch s = none ∧ (s.freeSlot = none ∨ ∀ c, s.ready c = []))
    ∨ ∃ k t, s.freeSlot = some k ∧ grantFetch s = some t ∧ Granted k s t := by
  unfold grantFetch
  cases slot : s.freeSlot with
  | none => exact .inl ⟨rfl, .inl rfl⟩
  | some k =>
    dsimp only
    cases urgent : s.firstOf .urgent with
    | some p => exact .inr ⟨k, _, rfl, rfl, .other (by decide) urgent fun c lt => absurd lt (Nat.not_lt_zero _)⟩
    | none =>
      have no_urgent := (firstOf_eq_none_iff _ _).mp urgent
      dsimp only
      cases print : s.firstOf .print with
      | some p =>
        exact .inr ⟨k, _, rfl, rfl, .other (by decide) print (noneAbove_print no_urgent)⟩
      | none =>
        have above := noneAbove_burn no_urgent ((firstOf_eq_none_iff _ _).mp print)
        dsimp only
        rcases burstRequest_spec s with ⟨no, stops⟩ | ⟨u, r, is, on⟩
        · rw [no]
          dsimp only
          rcases grantBurn_cases k s with ⟨none_, no_burn⟩ | ⟨b, r, first, is⟩
          · rw [none_]
            dsimp only
            cases check : s.firstOf .check with
            | some p =>
              exact .inr ⟨k, _, rfl, rfl, .other (by decide) check (noneAbove_check above no_burn)⟩
            | none =>
              have above' := noneAbove_board (noneAbove_check above no_burn) ((firstOf_eq_none_iff _ _).mp check)
              cases board : s.firstOf .board with
              | some p => exact .inr ⟨k, _, rfl, rfl, .other (by decide) board above'⟩
              | none =>
                have no_board := (firstOf_eq_none_iff _ _).mp board
                refine .inl ⟨rfl, .inr fun c => ?_⟩
                cases c with
                | board => exact no_board
                | _ => exact above' _ (by decide)
          · rw [is]
            exact .inr ⟨k, _, rfl, rfl, .begins stops above first⟩
        · rw [is]
          have made : ({ s with engine := { s.engine with burst := s.engine.burst.map fun u => { u with count := u.count + 1 } } } : State)
              = s.withBurst (some { u with count := u.count + 1 }) s.engine.pointer := by
            rw [on.1]
            rfl
          exact .inr ⟨k, _, rfl, congrArg (fun v => some (issueFetch k (.image u.bay) r v)) made, .goesOn on above⟩

/-! ### O54 -/

theorem lineRank_lt (id : LineId) : lineRank id < 16 := by
  cases id with
  | image b => have := b.isLt; simp only [lineRank]; omega
  | extent b => have := b.isLt; simp only [lineRank]; omega
  | compare b => have := b.isLt; simp only [lineRank]; omega
  | print => decide
  | board => decide

/-- Outside URGENT and BURN the oldest request comes first, then by its line. -/
theorem orderKey_le {c : FetchClass} (urgent : c ≠ .urgent) (burn : c ≠ .burn) {id x : LineId} {r q : FetchReq}
    (le : orderKey s c id r ≤ orderKey s c x q) : r.stamp < q.stamp ∨ (r.stamp = q.stamp ∧ lineRank id ≤ lineRank x) := by
  have key (y : LineId) (p : FetchReq) : orderKey s c y p = p.stamp * 16 + lineRank y := by
    unfold orderKey
    split
    · exact absurd rfl urgent
    · exact absurd rfl burn
    · rfl
  rw [key, key] at le
  have := lineRank_lt id
  have := lineRank_lt x
  omega

theorem heldBack_iff (r : FetchReq) (s : State) : s.heldBack r = true ↔
    (∃ w ∈ s.engine.posted, w.addr < r.addr + r.len ∧ r.addr < w.addr + w.length)
    ∨ ∃ t x a n, t ∈ s.engine.waiting ++ s.engine.agenda ∧ x ∈ t ∧ s.todoRange x = some (a, n) ∧ a < r.addr + r.len ∧ r.addr < a + n := by
  have overlap (a n : Nat) : overlaps a n r.addr r.len = true ↔ a < r.addr + r.len ∧ r.addr < a + n := by simp [overlaps]
  have stepOverlap (x : Todo) : s.stepOverlaps r x = true
      ↔ ∃ a n, s.todoRange x = some (a, n) ∧ a < r.addr + r.len ∧ r.addr < a + n := by
    unfold State.stepOverlaps
    cases s.todoRange x with
    | none => simp
    | some p =>
      obtain ⟨a, n⟩ := p
      simp [overlap]
  unfold State.heldBack
  rw [Bool.or_eq_true, List.any_eq_true, List.any_eq_true]
  refine or_congr (exists_congr fun w => and_congr_right fun _ => overlap ..) ⟨?_, ?_⟩
  · rintro ⟨t, mem, any⟩
    obtain ⟨x, inside, hits⟩ := List.any_eq_true.mp any
    obtain ⟨a, n, range, shares⟩ := (stepOverlap x).mp hits
    exact ⟨t, x, a, n, mem, inside, range, shares⟩
  · rintro ⟨t, x, a, n, mem, inside, range, shares⟩
    exact ⟨t, mem, List.any_eq_true.mpr ⟨x, inside, (stepOverlap x).mpr ⟨a, n, range, shares⟩⟩⟩

theorem classOf_burn_image {b : BayNo} {c : Burn} (burn : s.burnOf b = some c) (r : FetchReq) :
    s.classOf (.image b) r = if c.pages.length < 2 ∧ c.cutGroup < c.groups then .urgent else .burn := by
  unfold State.classOf
  dsimp only
  rw [burn]
  simp [Burn.lowWater]

theorem mem_allFetches (k : FetchNo) : k ∈ Config.allFetches := by
  revert k
  decide

theorem freeSlot_spec {k : FetchNo} (slot : s.freeSlot = some k) : s.fetch k = none ∧ ∀ x, x < k → s.fetch x ≠ none := by
  obtain ⟨free, before, after, order, full⟩ := List.find?_eq_some_iff_append.mp slot
  refine ⟨by simpa [State.fetch] using free, fun x lt => ?_⟩
  have mem : x ∈ before := by
    have sorted : Config.allFetches.Pairwise (· < ·) := by decide
    have all : x ∈ Config.allFetches := mem_allFetches x
    rw [order] at all sorted
    rcases List.mem_append.mp all with mem | mem
    · exact mem
    · obtain ⟨-, tail, -⟩ := List.pairwise_append.mp sorted
      rcases List.mem_cons.mp mem with rfl | mem
      · exact absurd lt (lt_irrefl _)
      · exact absurd lt (not_lt.mpr ((List.pairwise_cons.mp tail).1 x mem).le)
  simpa [State.fetch, Option.isSome_iff_ne_none] using full x mem

theorem freeSlot_eq_none_iff (s : State) : s.freeSlot = none ↔ ∀ k : FetchNo, s.fetch k ≠ none := by
  unfold State.freeSlot
  rw [List.find?_eq_none]
  exact ⟨fun h k is => h k (mem_allFetches k) (by simpa [State.fetch] using is), fun h k _ is => h k (by simpa [State.fetch] using is)⟩

/-- What a grant leaves, for the request it takes. -/
theorem Granted.spec {k : FetchNo} (granted : Granted k s t) : ∃ (id : LineId) (r : FetchReq),
    (s.line id = some r ∧ s.heldBack r = false)
    ∧ s.noneAbove (s.classOf id r)
    ∧ t.fetch k = some { line := id, addr := r.addr, len := r.len, target := r.target, timer := 50, orphan := false, stale := false }
    ∧ (∀ x, x ≠ k → t.fetch x = s.fetch x) ∧ t.line id = none ∧ (∀ x, x ≠ id → t.line x = s.line x)
    ∧ t.out = s.out ++ [.hostRead k r.addr r.len] ∧ s.sameHost t ∧ s.sameWork t ∧ s.samePlant t ∧ t.transport = s.transport
    ∧ (s.classOf id r ≠ .burn → s.firstOf (s.classOf id r) = some (id, r))
    ∧ (s.classOf id r = .burn → ∀ u q, s.goesOn u q → id = .image u.bay
        ∧ ∃ u', t.engine.burst = some u' ∧ u'.bay = u.bay ∧ u'.group = u.group ∧ u'.count = u.count + 1)
    ∧ (s.classOf id r = .burn → (∀ u q, ¬ s.goesOn u q) → ∃ b u', id = .image b ∧ t.engine.burst = some u' ∧ u'.bay = b
        ∧ u'.group = targetGroup r.target ∧ u'.count = 1
        ∧ (s.withBurst none s.burstFrom).firstOf .burn = some (.image b, r)) := by
  have frame (id : LineId) (r : FetchReq) (v : Option Burst) (p : BayNo) : s.sameHost (issueFetch k id r (s.withBurst v p))
      ∧ s.sameWork (issueFetch k id r (s.withBurst v p)) ∧ s.samePlant (issueFetch k id r (s.withBurst v p))
      ∧ (issueFetch k id r (s.withBurst v p)).transport = s.transport :=
    ⟨⟨by simp [State.withBurst], by simp [State.withBurst], by simp [State.withBurst], by simp [State.withBurst]⟩,
      ⟨by simp [State.withBurst], by simp [State.withBurst]⟩, ⟨by simp [State.withBurst], by simp [State.withBurst], by simp [State.withBurst]⟩,
      by simp [State.withBurst]⟩
  cases granted with
  | @other c id r notBurn first above =>
    obtain ⟨mem, -⟩ := firstOf_least first
    obtain ⟨line, free, cls⟩ := (mem_ready_iff _ _ _).mp mem
    obtain ⟨fetch, others, lines, out, -⟩ := issueFetch_spec k id r s
    obtain ⟨host, work, plant, arm⟩ := frame id r s.engine.burst s.engine.pointer
    refine ⟨id, r, ⟨line, free⟩, cls ▸ above, fetch, others, by rw [lines, if_pos rfl], fun x other => by rw [lines, if_neg other], out,
      host, work, plant, arm, fun _ => cls ▸ first, fun is => absurd (cls.symm.trans is) notBurn, fun is => absurd (cls.symm.trans is) notBurn⟩
  | @goesOn u r on above =>
    obtain ⟨burst, few, ⟨line, free⟩, cls, group⟩ := on
    obtain ⟨fetch, others, lines, out, going⟩ := issueFetch_spec k (.image u.bay) r
      (s.withBurst (some { u with count := u.count + 1 }) s.engine.pointer)
    obtain ⟨host, work, plant, arm⟩ := frame (.image u.bay) r (some { u with count := u.count + 1 }) s.engine.pointer
    refine ⟨.image u.bay, r, ⟨line, free⟩, cls ▸ above, fetch, others, by rw [lines, if_pos rfl],
      fun x other => by rw [lines, if_neg other]; rfl, out, host, work, plant, arm, fun no => absurd cls no, fun _ v q goes => ?_,
      fun _ stops => absurd ⟨burst, few, ⟨line, free⟩, cls, group⟩ (stops u r)⟩
    cases burst.symm.trans goes.1
    exact ⟨rfl, _, going, rfl, rfl, rfl⟩
  | @begins b r stops above first =>
    obtain ⟨mem, -⟩ := firstOf_least first
    obtain ⟨line, free, cls⟩ := (mem_ready_iff (s := s) _ _ _).mp mem
    obtain ⟨fetch, others, lines, out, going⟩ := issueFetch_spec k (.image b) r (s.withBurst
      (some { bay := b, group := targetGroup r.target, count := 1, high := s.highLines }) s.burstFrom)
    obtain ⟨host, work, plant, arm⟩ := frame (.image b) r
      (some { bay := b, group := targetGroup r.target, count := 1, high := s.highLines }) s.burstFrom
    exact ⟨.image b, r, ⟨line, free⟩, cls ▸ above, fetch, others, by rw [lines, if_pos rfl],
      fun x other => by rw [lines, if_neg other]; rfl, out, host, work, plant, arm, fun no => absurd cls no,
      fun _ u q goes => absurd goes (stops u q), fun _ _ => ⟨b, _, rfl, going, rfl, rfl, rfl, first⟩⟩

/-- A class that a waiting request has is no more urgent than that of the request granted. -/
theorem place_le {c : FetchClass} (above : s.noneAbove c) {x : LineId} {q : FetchReq} (waits : s.line x = some q ∧ s.heldBack q = false) :
    c.place ≤ (s.classOf x q).place := by
  refine not_lt.mp fun lt => ?_
  have mem : (x, q) ∈ s.ready (s.classOf x q) := (mem_ready_iff _ _ _).mpr ⟨waits.1, waits.2, rfl⟩
  rw [above _ lt] at mem
  cases mem

/-- Settles O54. -/
theorem writesDrainAndGrants : Obligations.WritesDrainAndGrants := by
  refine ⟨fun s => ⟨fun w rest l posted data => next_conclude ?_, fun w rest codes counts posted data => next_conclude ?_,
      fun w rest posted data => next_conclude ?_, ?_, fun empty => next_conclude ?_, fun n w issued => next_conclude ?_,
      fun n none_ => next_conclude ?_, fun running => ?_, fun off => next_conclude ?_⟩,
    fun s t even e => step_generationEven even e, rfl, fun b r s => ⟨fun c burn => classOf_burn_image burn r, rfl, rfl, rfl, rfl, heldBack_iff r s⟩,
    fun s => ⟨fun no => ?_, fun slot waits => ?_, fun t grants => ?_⟩⟩
  · unfold issueOldest
    rw [posted]
    dsimp only
    rw [data]
    exact issueBytes_eq ..
  · unfold issueOldest
    rw [posted]
    dsimp only
    rw [data]
    exact (congrArg _ (issueBytes_eq ..)).trans (issueBytes_eq ..)
  · unfold issueOldest
    rw [posted]
    dsimp only
    rw [data]
    exact issueStatus_eq ..
  · obtain ⟨tower, transport, printer, a, b, good, reject, goods, rejects⟩ := statusBody_states s
    obtain ⟨none_, first⟩ := statusBody_first s
    obtain ⟨motion, bay, memory, print, config⟩ := statusBody_counts s
    refine ⟨statusBody_length s, tower, transport, printer, a, b, good, reject, goods, rejects, none_, fun e is => ?_, motion, bay, memory, print,
      config, fun b => ?_⟩
    · obtain ⟨cls, code, bay, docket, time⟩ := first e is
      exact ⟨cls, code, bay.trans ((orNone_val (by omega) e.bay).trans (by cases e.bay <;> rfl)),
        docket.trans ((orNone_val (by omega) e.docket).trans (by cases e.docket <;> rfl)), time⟩
    · obtain ⟨state, logical, failing, soft, hard, errors⟩ := entry_fields ((codes_lt s).2.2.2.2.2.2.2 b)
      exact ⟨(statusBody_bay s b rfl (by decide)).trans state, (statusBody_bay s b rfl (by decide)).trans (logical.trans ((orNone_val (by omega) (s.bay b).logical).trans
          (by cases (s.bay b).logical <;> rfl))),
        (statusBody_bay s b rfl (by decide)).trans failing, (statusBody_bay s b rfl (by decide)).trans soft,
        (statusBody_bay s b rfl (by decide)).trans hard, (statusBody_bay s b rfl (by decide)).trans errors⟩
  · unfold issueOldest
    rw [empty]
  · unfold writeFails
    rw [issued]
  · unfold writeFails
    rw [none_]
  · obtain ⟨health, bays, host, work, plant, arm, faults⟩ := drain_of_running running
    exact ⟨drain s, rfl, health, host, work, plant, arm, faults, bays⟩
  · unfold drain
    rw [off]
  · rcases grantFetch_cases s with ⟨none_, -⟩ | ⟨k, t, slot, made, granted⟩
    · exact none_
    · obtain ⟨free, -⟩ := freeSlot_spec slot
      obtain ⟨id, r, waits, -⟩ := granted.spec
      exact (no.elim (fun full => full k free) fun nobody => nobody id r waits).elim
  · obtain ⟨k, free⟩ := slot
    obtain ⟨id, r, waits⟩ := waits
    rcases grantFetch_cases s with ⟨-, full | nobody⟩ | ⟨k, t, slot, made, granted⟩
    · exact absurd free ((freeSlot_eq_none_iff s).mp full k)
    · have mem : (id, r) ∈ s.ready (s.classOf id r) := (mem_ready_iff _ _ _).mpr ⟨waits.1, waits.2, rfl⟩
      rw [nobody] at mem
      cases mem
    · rw [made]
      nofun
  · rcases grantFetch_cases s with ⟨none_, -⟩ | ⟨k, t', slot, made, granted⟩
    · cases none_.symm.trans grants
    · cases made.symm.trans grants
      obtain ⟨free, lowest⟩ := freeSlot_spec slot
      obtain ⟨id, r, waits, above, fetch, others, line, lines, out, host, work, plant, arm, first, goes, begins⟩ := granted.spec
      refine ⟨k, id, r, free, lowest, waits, fun x q other => ?_, fetch, others, line, lines, out, host, work, plant, arm,
        fun urgent burn x q other same => ?_, fun urgent => ?_, goes, fun burn stops => ?_⟩
      · exact place_le above other
      · exact orderKey_le urgent burn ((firstOf_least (first burn)).2 x q ((mem_ready_iff _ _ _).mpr ⟨other.1, other.2, same⟩))
      · obtain ⟨b, rfl⟩ := classOf_image (.inl urgent)
        refine ⟨b, rfl, fun x q other same => ?_⟩
        have least := (firstOf_least (first (by rw [urgent]; decide))).2 (.image x) q
          ((mem_ready_iff _ _ _).mpr ⟨other.1, other.2, same.trans urgent.symm⟩)
        rw [urgent] at least
        exact least
      · obtain ⟨b, u, is, burst, bay, group, count, first⟩ := begins burn stops
        refine ⟨b, u, is, burst, bay, group, count, fun x q other same => ?_⟩
        have least := (firstOf_least first).2 (.image x) q ((mem_ready_iff (s := s) _ _ _).mpr ⟨other.1, other.2, same⟩)
        exact least

end Sys2Proof.Machine
end

section
/-! PROOFS. CREDIT and WRITTEN, the sending of groups, the issue of READs and the signature cache (O44). -/

namespace Sys2Proof.Machine

variable {s t u : State}

/-! ### CREDIT (R80, R106) -/

/-- A list with at most one element of a kind loses it and no other. -/
theorem eraseP_eq_filter {α : Type} {p : α → Bool} {l : List α} (one : (l.filter p).length ≤ 1) : l.eraseP p = l.filter fun x => !p x := by
  induction l with
  | nil => rfl
  | cons x l ih =>
    cases here : p x with
    | true =>
      have none_left : l.filter p = [] := by
        rw [List.filter_cons_of_pos here, List.length_cons] at one
        exact List.length_eq_zero_iff.mp (by omega)
      have keeps : l.filter (fun x => !p x) = l := List.filter_eq_self.mpr fun y mem => by
        have := List.filter_eq_nil_iff.mp none_left y mem
        simpa using this
      rw [List.eraseP_cons_of_pos here, List.filter_cons_of_neg (by simp [here]), keeps]
    | false =>
      rw [List.filter_cons_of_neg (by simp [here])] at one
      rw [List.eraseP_cons_of_neg (by simp [here]), List.filter_cons_of_pos (by simp [here]), ih one]

/-- The bay after a CREDIT that is counted. -/
def Bay.credited (r : Bay) (c : Burn) (n : Nat) (opens : Bool) : Bay :=
  { r with
    reqs := if opens then r.reqs.eraseP fun o => o.req == .burnOpen else r.reqs
    channel := if opens then .burn c.firstCredit else .burn c
    credits := max r.credits (min r.driveOr.maxCredits (r.credits + n))
    linkErrors := if r.driveOr.maxCredits < r.credits + n then countUp 65535 r.linkErrors else r.linkErrors }

theorem burnOf_eq_some_iff (b : BayNo) (c : Burn) (s : State) : s.burnOf b = some c ↔ (s.bay b).channel = .burn c := by
  unfold State.burnOf
  cases (s.bay b).channel <;> simp

theorem setBay_setBay (b : BayNo) (p q : Bay) (s : State) : (s.setBay b p).setBay b q = s.setBay b q := by
  simp [State.setBay]

theorem onCredit_eq {b : BayNo} {c : Burn} (state : (s.bay b).state = .burning) (unasked : s.hasReq b .halt = false)
    (burn : s.burnOf b = some c) (n : Nat) : onCredit b n s = s.setBay b ((s.bay b).credited c n (s.hasReq b .burnOpen)) := by
  have channel := (burnOf_eq_some_iff b c s).mp burn
  have works : (s.bay b).inBurn = true := by simp [Bay.inBurn, state]
  have first : (dropReq b .burnOpen s).burnOf b = some c :=
    (burnOf_eq_some_iff ..).mpr (by rw [dropReq_bay, if_pos rfl]; exact channel)
  unfold onCredit
  rw [if_pos works, if_neg (by simp [unasked])]
  dsimp only
  rw [first]
  cases opens : s.hasReq b .burnOpen with
  | true =>
    simp only [if_true, setChannel, dropReq, State.bay_setBay, linkError, setBay_setBay, Bay.credited]
    split <;> rfl
  | false =>
    simp only [Bool.false_eq_true, if_false, State.bay_setBay, if_true, linkError, setBay_setBay, Bay.credited, ← channel]
    split <;> rfl

/-! ### WRITTEN (R81, R119) -/

theorem oldestGroup_asked {b : BayNo} {g : Nat} (oldest : (s.bay b).oldestGroup = some g) : s.hasReq b (.group g) = true := by
  obtain ⟨before, o, after, list, is, -⟩ := List.findSome?_eq_some_iff.mp oldest
  unfold State.hasReq
  rw [List.any_eq_true]
  refine ⟨o, by rw [list]; simp, ?_⟩
  cases ask : o.req <;> simp_all

/-- The state in which the answer to the oldest GROUP has been taken. -/
def taken (b : BayNo) (g : Nat) (d : DocketNo) (s : State) : State := groupWritten d (dropReq b (.group g) s)

theorem onWritten_of_oldest {b : BayNo} {g : Nat} {d : DocketNo} {c : Burn} (unasked : s.hasReq b .halt = false)
    (docket : (s.bay b).docket = some d) (oldest : (s.bay b).oldestGroup = some g) (burn : s.burnOf b = some c) :
    onWritten b g s = if c.state = .draining ∧ g + 1 = c.groups then closeBurn b d c (taken b g d s) else taken b g d s := by
  unfold onWritten
  rw [docket]
  dsimp only
  rw [if_neg (by simp [unasked]), if_pos oldest, burn]
  rfl

theorem taken_spec {b : BayNo} {g : Nat} {d : DocketNo} {r : Docket} (holds : s.docket d = some r) (below : r.groupsWritten < 65535) :
    (taken b g d s).docket d = some { r with groupsWritten := r.groupsWritten + 1 }
    ∧ (∀ x, (taken b g d s).bay x = if x = b then { s.bay b with reqs := (s.bay b).reqs.eraseP fun o => o.req == .group g } else s.bay x)
    ∧ s.sameHost (taken b g d s) ∧ s.samePlant (taken b g d s) ∧ (taken b g d s).jobs = s.jobs
    ∧ (taken b g d s).transport = s.transport := by
  unfold taken groupWritten
  refine ⟨?_, fun x => by rw [State.updDocket_bay, dropReq_bay], ⟨by simp, by simp, by simp, by simp⟩, ⟨by simp, by simp, by simp⟩, by simp,
    by simp⟩
  rw [updDocket_docket, if_pos rfl, State.docket_congr (s := s) (by simp), holds]
  simp [countUp, below]

theorem closeBurn_spec {b : BayNo} {d : DocketNo} {r : Docket} (holds : s.docket d = some r) (c : Burn) :
    (closeBurn b d c s).docket d = some { r with state := .finalizing } ∧ ((closeBurn b d c s).bay b).state = .finalizing
    ∧ (closeBurn b d c s).hasReq b .burnClose = true ∧ (closeBurn b d c s).burnOf b = some { c with state := .closing }
    ∧ s.otherBays (closeBurn b d c s) b ∧ s.sameHost (closeBurn b d c s) ∧ s.samePlant (closeBurn b d c s)
    ∧ (closeBurn b d c s).jobs = s.jobs ∧ (closeBurn b d c s).transport = s.transport := by
  have bay (x : BayNo) : (closeBurn b d c s).bay x = if x = b then { (sendReq b .burnClose .normal .burnClose s).bay b with
      channel := .burn { c with state := .closing }, state := .finalizing } else s.bay x := by
    rw [closeBurn, setBayState_bay]
    simp only [setDocketState, State.updDocket_bay, setChannel_bay, if_true]
    split
    · rfl
    · next other => rw [sendReq_bay, if_neg other]
  have self := bay b
  rw [if_pos rfl] at self
  refine ⟨?_, by rw [self], ?_, (burnOf_eq_some_iff ..).mpr (by rw [self]), fun x other => by rw [bay, if_neg other], ?_, ?_, ?_, ?_⟩
  · rw [closeBurn, setBayState_docket, setDocketState, updDocket_docket, if_pos rfl, State.docket_congr (s := s) (by simp [setChannel]), holds]
    rfl
  · rw [State.hasReq_of_reqs (s := sendReq b .burnClose .normal .burnClose s) (by rw [self]), sendReq_hasReq]
  all_goals unfold closeBurn
  · exact ⟨by simp [setDocketState, setChannel], by simp [setDocketState, setChannel], by simp [setDocketState, setChannel],
      by simp [setDocketState, setChannel]⟩
  · exact ⟨by simp [setDocketState, setChannel], by simp [setDocketState, setChannel], by simp [setDocketState, setChannel]⟩
  · simp [setDocketState, setChannel]
  · simp [setDocketState, setChannel]

/-! ### Groups sent and READs issued (R118, R125) -/

theorem sendable_iff (c : Burn) (r : Bay) : c.sendable r = true ↔ (c.state = .streaming ∨ c.state = .draining) ∧ c.send < c.complete
    ∧ 1 ≤ r.credits ∧ r.groupsOut < 8 ∧ (c.send + 1 = c.groups → c.compares = [] ∧ c.held = []) := by
  simp only [Burn.sendable, Bool.and_eq_true, Bool.or_eq_true, beq_iff_eq, decide_eq_true_iff, bne_iff_ne, List.isEmpty_iff, and_assoc,
    ne_eq, imp_iff_not_or]

/-- The state in which the next group has been sent from its page. -/
def groupSent (b : BayNo) (c : Burn) (p : Page) (s : State) : State :=
  let v := enterReq b (.group c.send) .normal (.group c.send ((piecesData p.got).length / 2048) (piecesData p.got)) s
  v.setBay b { v.bay b with
    credits := (v.bay b).credits - 1, channel := .burn { c with pages := dropPage c.send c.pages, send := c.send + 1 } }

theorem sendGroup_eq {b : BayNo} {c : Burn} {p : Page} (burn : s.burnOf b = some c) (page : pageOf c.send c.pages = some p) :
    sendGroup b s = if c.sendable (s.bay b) = true then some (groupSent b c p s) else none := by
  unfold sendGroup
  rw [burn]
  dsimp only
  rw [page]
  rfl

theorem groupSent_spec (b : BayNo) (c : Burn) (p : Page) (s : State) : s.otherBays (groupSent b c p s) b
    ∧ groupSent b c p s = { s with bays := (groupSent b c p s).bays
                                   out := s.out ++ [.drive b (.group c.send ((piecesData p.got).length / 2048) (piecesData p.got))] }
    ∧ (groupSent b c p s).bay b = { s.bay b with
        credits := (s.bay b).credits - 1
        reqs := (s.bay b).reqs ++ [{ req := .group c.send, purpose := .normal, left := 5000 }]
        channel := .burn { c with pages := c.pages.filter (fun q => q.group != c.send), send := c.send + 1 } } := by
  have bay (x : BayNo) := enterReq_bay b x (.group c.send) .normal
    (.group c.send ((piecesData p.got).length / 2048) (piecesData p.got)) s
  refine ⟨fun x other => ?_, rfl, ?_⟩
  · exact (State.bay_setBay ..).trans ((if_neg other).trans ((bay x).trans (if_neg other)))
  · refine (State.bay_setBay ..).trans ((if_pos rfl).trans ?_)
    rw [bay, if_pos rfl]
    rfl

theorem takeRead_spec {b : BayNo} {c : Verify} {g : Nat} (wants : c.wanted = some g) (s : State) : s.otherBays (takeRead b c s) b
    ∧ takeRead b c s = { s with bays := (takeRead b c s).bays, out := s.out ++ [.drive b (.read g)] }
    ∧ (takeRead b c s).bay b = { s.bay b with
        reqs := (s.bay b).reqs ++ [{ req := .read g, purpose := .normal, left := 5000 }]
        channel := .verify { c with pages := c.pages ++ [{ group := g, full := false, got := [] }] } } := by
  have is : takeRead b c s = enterReq b (.read g) .normal (.read g)
      (setChannel b (.verify { c with pages := c.pages ++ [{ group := g, full := false, got := [] }] }) s) := by
    unfold takeRead
    rw [wants]
  rw [is]
  refine ⟨fun x other => ?_, rfl, ?_⟩
  · rw [enterReq_bay, if_neg other, setChannel_bay, if_neg other]
  · rw [enterReq_bay, if_pos rfl, setChannel_bay, if_pos rfl]
    rfl

theorem pageOf_eq_none_iff (g : Nat) (l : List Page) : pageOf g l = none ↔ ∀ p ∈ l, p.group ≠ g := by
  simp [pageOf, List.find?_eq_none]

/-- The group whose READ comes next is the lowest of the window of two that has no page. -/
theorem wanted_eq_some_iff (c : Verify) (g : Nat) : c.wanted = some g ↔ g < c.groups ∧ (∀ p ∈ c.pages, p.group ≠ g)
    ∧ (g = c.check ∨ (g = c.check + 1 ∧ ∃ p ∈ c.pages, p.group = c.check)) := by
  have paged : ¬ (pageOf c.check c.pages = none) ↔ ∃ p ∈ c.pages, p.group = c.check := by
    rw [pageOf_eq_none_iff]
    simp
  unfold Verify.wanted
  simp only [← pageOf_eq_none_iff] at *
  rw [← paged]
  split
  · next first =>
    constructor
    · rintro ⟨⟩
      exact ⟨first.1, first.2, .inl rfl⟩
    · rintro ⟨-, -, rfl | ⟨-, no⟩⟩
      · rfl
      · exact absurd first.2 no
  · next first =>
    split
    · next second =>
      constructor
      · rintro ⟨⟩
        exact ⟨second.1, second.2, .inr ⟨rfl, fun no => first ⟨by omega, no⟩⟩⟩
      · rintro ⟨lt, no, rfl | ⟨rfl, -⟩⟩
        · exact absurd ⟨lt, no⟩ first
        · rfl
    · next second =>
      constructor
      · nofun
      · rintro ⟨lt, no, rfl | ⟨rfl, -⟩⟩
        · exact absurd ⟨lt, no⟩ first
        · exact absurd ⟨lt, no⟩ second

theorem issueRead_eq {b : BayNo} {c : Verify} (verify : s.verifyOf b = some c) : issueRead b s =
    if c.state = .reading ∧ c.wanted.isSome ∧ b ∉ s.pageWaiters then
      if s.canTakePage b then some (takeRead b c s) else some { s with pageWaiters := s.pageWaiters ++ [b] }
    else none := by
  unfold issueRead
  rw [verify]
  exact if_congr (by simp) rfl rfl

theorem issueRead_of_wanted {b : BayNo} {c : Verify} {g : Nat} (verify : s.verifyOf b = some c) (reading : c.state = .reading)
    (wants : c.wanted = some g) (absent : b ∉ s.pageWaiters) : issueRead b s =
      if s.canTakePage b = true then some (takeRead b c s) else some { s with pageWaiters := s.pageWaiters ++ [b] } :=
  (issueRead_eq verify).trans (if_pos ⟨reading, by rw [wants]; rfl, absent⟩)

theorem issueRead_of_not {b : BayNo} {c : Verify} (verify : s.verifyOf b = some c)
    (not : c.state = .stopped ∨ b ∈ s.pageWaiters ∨ c.wanted = none) : issueRead b s = none := by
  rw [issueRead_eq verify, if_neg]
  rintro ⟨reading, wants, absent⟩
  rcases not with stopped | waits | nothing
  · exact nomatch reading.symm.trans stopped
  · exact absent waits
  · rw [nothing] at wants
    cases wants

/-! ### The signature cache (R127) -/

theorem parseEntries_spec (n : Nat) (bytes : List Byte) : (parseEntries n bytes).length = n
    ∧ ∀ i, i < n → (parseEntries n bytes)[i]? = some (BitVec.ofNat 32 (field bytes (4 * i) 4)) := by
  induction n generalizing bytes with
  | zero => exact ⟨rfl, fun i lt => absurd lt (Nat.not_lt_zero _)⟩
  | succ n ih =>
    obtain ⟨length, entries⟩ := ih (bytes.drop 4)
    refine ⟨congrArg (· + 1) length, fun i lt => ?_⟩
    cases i with
    | zero => rfl
    | succ i =>
      rw [parseEntries, List.getElem?_cons_succ, entries i (by omega), field, field, List.drop_drop, Nat.mul_succ, Nat.add_comm 4]

/-- Settles O44. -/
theorem burnAnswersAndReads : Obligations.BurnAnswersAndReads := by
  refine ⟨fun b n g d r c s docket holds burn state => ⟨fun halted => ?_, fun within unasked => ?_, fun unasked oldest below => ?_,
      fun halted withdrawn => ?_⟩, fun b c p s burn page => ?_, fun b c s verify => ?_, fun s t bounded e => step_requestsBounded bounded e,
    requestsBounded_reset⟩
  · have works : (s.bay b).inBurn = true := by simp [Bay.inBurn, state]
    exact next_conclude ((if_pos works).trans (if_pos halted))
  · have made := onCredit_eq state unasked burn n
    generalize after : s.setBay b ((s.bay b).credited c n (s.hasReq b .burnOpen)) = t at made
    have self : t.bay b = (s.bay b).credited c n (s.hasReq b .burnOpen) := by rw [← after, State.bay_setBay, if_pos rfl]
    refine ⟨t, next_conclude made, ?_, fun opens opening => ⟨c.firstCredit, ?_, ?_⟩, fun one opens => ?_, fun no => ?_, fun le => ?_, fun lt room => ?_,
      by rw [← after]; rfl, fun x other => by rw [← after, State.bay_setBay, if_neg other]⟩
    · rw [self]
      dsimp only [Bay.credited]
      split <;> omega
    · exact (burnOf_eq_some_iff ..).mpr (by rw [self, opens]; rfl)
    · unfold Burn.firstCredit
      rw [if_pos opening]
    · have reqs : (t.bay b).reqs = (s.bay b).reqs.filter fun o => o.req != .burnOpen := by
        rw [self, opens]
        exact eraseP_eq_filter (one.1 .burnOpen nofun nofun)
      refine ⟨?_, reqs⟩
      unfold State.hasReq
      rw [reqs, List.any_filter]
      simp
    · refine ⟨by rw [self, no]; rfl, (burnOf_eq_some_iff ..).mpr (by rw [self, no]; rfl)⟩
    · rw [self]
      exact if_neg (by omega)
    · rw [self]
      exact (if_pos lt).trans (if_pos room)
  · have made := onWritten_of_oldest unasked docket oldest burn
    have asked := oldestGroup_asked oldest
    have fewer := dropReq_length asked
    rw [dropReq_bay, if_pos rfl] at fewer
    obtain ⟨given, bays, host, plant, jobs, arm⟩ := taken_spec (b := b) (g := g) holds below
    refine ⟨onWritten b g s, rfl, ?_⟩
    rw [made]
    by_cases last : c.state = .draining ∧ g + 1 = c.groups
    · obtain ⟨closed, finalizing, asks, closing, others, host', plant', jobs', arm'⟩ := closeBurn_spec (b := b) given c
      rw [if_pos last]
      obtain ⟨h1, h2, h3, h4⟩ := host
      obtain ⟨k1, k2, k3, k4⟩ := host'
      obtain ⟨p1, p2, p3⟩ := plant
      obtain ⟨q1, q2, q3⟩ := plant'
      refine ⟨⟨k1.trans h1, k2.trans h2, k3.trans h3, k4.trans h4⟩, ⟨q1.trans p1, q2.trans p2, q3.trans p3⟩, jobs'.trans jobs, arm'.trans arm,
        fun x other => (others x other).trans (by rw [bays, if_neg other]), ⟨_, closed, rfl, ?_⟩, fun _ _ => ⟨finalizing, asks, _, closing, rfl⟩,
        fun other => absurd last.2 other⟩
      rw [if_pos last]
    · rw [if_neg last]
      refine ⟨host, plant, jobs, arm, fun x other => by rw [bays, if_neg other], ⟨_, given, rfl, by rw [if_neg last]⟩,
        fun draining is => absurd ⟨draining, is⟩ last, fun _ => ?_⟩
      rw [bays, if_pos rfl]
      exact ⟨state, fewer⟩
  · have works : (s.bay b).inBurn = true := by simp [Bay.inBurn, state]
    refine next_conclude ?_
    unfold onWritten
    rw [docket]
    dsimp only
    rw [if_pos ⟨halted, works⟩, if_pos (List.contains_iff_mem.mpr withdrawn)]
    unfold groupWritten State.updDocket
    rw [State.docket_congr (s := s) (by simp), holds]
    rfl
  · have made := sendGroup_eq burn page
    obtain ⟨others, only, self⟩ := groupSent_spec b c p s
    exact ⟨fun can => ⟨_, made.trans (if_pos ((sendable_iff c _).mpr can)), others, only, self⟩,
      fun cannot => made.trans (if_neg (mt (sendable_iff c _).mp cannot))⟩
  · refine ⟨fun g reading low absent room => ?_, fun g reading low absent full => ?_, fun not => ?_, fun table => ⟨fun more new => ?_, fun old => ?_⟩,
      fun n r reading block left => ?_, fun n r off data bytes reading block whole => ?_⟩
    · have wants := (wanted_eq_some_iff c g).mpr low
      exact ⟨_, (issueRead_of_wanted verify reading wants absent).trans (if_pos room), takeRead_spec wants s⟩
    · have wants := (wanted_eq_some_iff c g).mpr low
      exact (issueRead_of_wanted verify reading wants absent).trans (if_neg (by simp [full]))
    · refine issueRead_of_not verify (not.imp_right (Or.imp_right fun nothing => ?_))
      cases wants : c.wanted with
      | none => rfl
      | some g => exact absurd ((wanted_eq_some_iff c g).mp wants) (nothing g)
    · exact if_pos ⟨more, new⟩
    · exact if_neg (by omega)
    · have next : r.next = some (r.base + r.cut, pieceLen (r.base + r.cut) (r.len - r.cut), r.cut) := if_pos left
      intro len
      have made : presentBlock b s = if c.state = .reading ∧ (s.bay b).compare = none then
          some (present (.compare b) (r.base + r.cut) len (.block n r.cut)
            (setChannel b (.verify { c with blockRead := some (n, r.advance len) }) s)) else none := by
        unfold presentBlock
        rw [verify]
        dsimp only
        rw [block]
        dsimp only
        rw [next]
        rfl
      refine ⟨fun free => ?_, fun busy => made.trans (if_neg fun h => busy h.2)⟩
      rw [made, if_pos ⟨reading, free⟩, present_compare_eq]
      rfl
    · obtain ⟨length, entries⟩ := parseEntries_spec (r.len / 4) bytes
      refine ⟨parseEntries (r.len / 4) bytes, length, entries, ?_⟩
      unfold arriveBlock
      rw [verify]
      dsimp only
      rw [reading, block]
      dsimp only
      rw [if_pos rfl, whole]
      rfl

end Sys2Proof.Machine
end

section
/-! PROOFS. A tower reset and a link reset (O52). -/

namespace Sys2Proof.Machine

variable {s t u v : State}

/-! ### Reports of a status change (R172) -/

/-- `t` has come from `s` by reports of the status alone, as the engine goes: writes may be posted behind the others, none where no status
block is in use. -/
structure Reported (s t : State) : Prop where
  slots : t.engine.slots = s.engine.slots
  print : t.engine.print = s.engine.print
  board : t.engine.board = s.engine.board
  pointer : t.engine.pointer = s.engine.pointer
  posted : ∃ more, t.engine.posted = s.engine.posted ++ more
  silent : s.board.statusAddr = none → t.engine.posted = s.engine.posted
  statusAddr : t.board.statusAddr = s.board.statusAddr
  tally : t.board.tally = s.board.tally
  generation : t.board.generation = s.board.generation

theorem Reported.of_engine (engine : t.engine = s.engine) (board : t.board = s.board) : Reported s t :=
  ⟨by rw [engine], by rw [engine], by rw [engine], by rw [engine], ⟨[], by rw [engine, List.append_nil]⟩, fun _ => by rw [engine], by rw [board],
    by rw [board], by rw [board]⟩

theorem Reported.trans (h : Reported s t) (k : Reported t u) : Reported s u := by
  obtain ⟨more, before⟩ := h.posted
  obtain ⟨more', after⟩ := k.posted
  exact ⟨k.slots.trans h.slots, k.print.trans h.print, k.board.trans h.board, k.pointer.trans h.pointer,
    ⟨more ++ more', by rw [after, before, List.append_assoc]⟩,
    fun unused => (k.silent (h.statusAddr.trans unused)).trans (h.silent unused), k.statusAddr.trans h.statusAddr,
    k.tally.trans h.tally, k.generation.trans h.generation⟩

theorem reportStatus_reported (s : State) : Reported s (reportStatus s) := by
  unfold reportStatus queueStatus
  split
  · exact .of_engine rfl rfl
  · next a used =>
    split
    · exact .of_engine rfl rfl
    · split
      · exact ⟨rfl, rfl, rfl, rfl, ⟨_, rfl⟩, fun unused => absurd (used.symm.trans unused) nofun, rfl, rfl, rfl⟩
      · exact ⟨rfl, rfl, rfl, rfl, ⟨[], (List.append_nil _).symm⟩, fun _ => rfl, rfl, rfl, rfl⟩

theorem reportStatus_reported_of (engine : t.engine = s.engine) (board : t.board = s.board) : Reported s (reportStatus t) :=
  (Reported.of_engine engine board).trans (reportStatus_reported t)

theorem setBayState_reported (b : BayNo) (st : BayState) (s : State) : Reported s (setBayState b st s) := by
  unfold setBayState
  split
  · exact .of_engine rfl rfl
  · exact reportStatus_reported_of rfl rfl

theorem setPrinter_reported (st : PrinterState) (s : State) : Reported s (setPrinter st s) := by
  unfold setPrinter
  split
  · exact .of_engine rfl rfl
  · exact reportStatus_reported_of rfl rfl

theorem setPrinter_reported_of {st : PrinterState} (engine : t.engine = s.engine) (board : t.board = s.board) :
    Reported s (setPrinter st t) := (Reported.of_engine engine board).trans (setPrinter_reported st t)

theorem enterSpindown_reported (s : State) : Reported s (enterSpindown s) := setPrinter_reported_of rfl rfl

theorem setTransport_reported (st : TransportState) (s : State) : Reported s (setTransport st s) := by
  unfold setTransport
  split
  · exact .of_engine rfl rfl
  · exact reportStatus_reported_of rfl rfl

theorem setTransport_reported_of {st : TransportState} (engine : t.engine = s.engine) (board : t.board = s.board) :
    Reported s (setTransport st t) := (Reported.of_engine engine board).trans (setTransport_reported st t)

theorem setTower_reported (st : TowerState) (s : State) : Reported s (setTower st s) := by
  unfold setTower
  split
  · exact .of_engine rfl rfl
  · have reports : Reported s (reportStatus { s with tower := { s.tower with state := st } }) :=
      reportStatus_reported_of rfl rfl
    dsimp only
    split
    · refine reports.trans (.of_engine ?_ ?_)
      · simp
      · simp
    · exact reports

theorem startHoming_reported (s : State) : Reported s (startHoming s) := by
  unfold startHoming
  dsimp only
  split <;> exact .of_engine rfl rfl

theorem resetSent_reported (b : BayNo) (s : State) : Reported s (resetSent b s) :=
  Reported.trans (.of_engine (by simp) (by simp)) (setBayState_reported _ _ _)

theorem towerHomes_reported (s : State) : Reported s (towerHomes s) := by
  unfold towerHomes
  split
  · exact ((setTower_reported _ _).trans (setTransport_reported _ _)).trans (startHoming_reported _)
  · exact setTower_reported _ _

theorem restartTower_reported (s : State) : Reported s (restartTower s) := by
  unfold restartTower
  split
  · exact .of_engine rfl rfl
  · exact towerHomes_reported s

/-! ### The bays at a reset of the tower (R84) -/

/-- A bay after a reset of the tower. -/
def Bay.afterReset (r : Bay) : Bay :=
  if r.installed = true ∧ r.state ≠ .retired ∧ r.state ≠ .resetting then r.resetting else r

/-- Nothing is under way at the bays or on the arm. -/
def State.workless (s : State) : Prop :=
  s.transport.errand = none ∧ ∀ b, (s.bay b).channel = .closed ∧ (s.bay b).docket = none

theorem startReset_of_workless (idle : s.workless) {b : BayNo} (live : (s.bay b).state ≠ .retired ∧ (s.bay b).state ≠ .resetting) :
    startReset b s = resetSent b s := by
  obtain ⟨errand, bays⟩ := idle
  obtain ⟨closed, docket⟩ := bays b
  have self : (resetSent b s).bay b = (s.bay b).resetting := by rw [resetSent_bay, if_pos rfl]
  have kept : discardChannel b (resetSent b s) = resetSent b s := by
    unfold discardChannel
    rw [self, show (s.bay b).resetting.channel = .closed from closed]
  have still : resetErrand b (resetSent b s) = resetSent b s := by
    unfold resetErrand
    rw [show (resetSent b s).transport.errand = none by simpa [resetSent] using errand]
  rw [startReset_of_live live, kept, still]
  unfold resetDocket
  rw [self, show (s.bay b).resetting.docket = none from docket]

/-- What the resets of the bays keep where no work is under way. -/
structure OnlyBays (s t : State) : Prop where
  jobs : t.jobs = s.jobs
  dockets : t.dockets = s.dockets
  faults : t.faults = s.faults
  health : t.health = s.health
  transport : t.transport = s.transport
  tower : t.tower = s.tower
  printer : t.printer = s.printer
  regs : t.regs = s.regs
  engine : Reported s t

theorem OnlyBays.refl (s : State) : OnlyBays s s := ⟨rfl, rfl, rfl, rfl, rfl, rfl, rfl, rfl, .of_engine rfl rfl⟩

theorem OnlyBays.trans (h : OnlyBays s t) (k : OnlyBays t u) : OnlyBays s u :=
  ⟨k.jobs.trans h.jobs, k.dockets.trans h.dockets, k.faults.trans h.faults, k.health.trans h.health, k.transport.trans h.transport,
    k.tower.trans h.tower, k.printer.trans h.printer, k.regs.trans h.regs, h.engine.trans k.engine⟩

theorem resetSent_onlyBays (b : BayNo) (s : State) : OnlyBays s (resetSent b s) := by
  refine ⟨?_, ?_, ?_, ?_, ?_, ?_, ?_, ?_, resetSent_reported b s⟩ <;> simp [resetSent]

/-- One bay of the round of resets. -/
def resetInstalled (b : BayNo) (s : State) : State := if (s.bay b).installed then startReset b s else s

theorem resetInstalled_spec (idle : s.workless) (b : BayNo) : OnlyBays s (resetInstalled b s)
    ∧ ∀ x, (resetInstalled b s).bay x = if x = b then (s.bay b).afterReset else s.bay x := by
  by_cases live : (s.bay b).installed = true ∧ (s.bay b).state ≠ .retired ∧ (s.bay b).state ≠ .resetting
  · have made : resetInstalled b s = resetSent b s := (if_pos live.1).trans (startReset_of_workless idle live.2)
    rw [made]
    refine ⟨resetSent_onlyBays b s, fun x => ?_⟩
    rw [resetSent_bay, Bay.afterReset, if_pos live]
  · have made : resetInstalled b s = s := by
      unfold resetInstalled startReset
      split
      · next installed => exact if_pos (by tauto)
      · rfl
    rw [made]
    refine ⟨.refl s, fun x => ?_⟩
    rw [Bay.afterReset, if_neg live]
    split
    · next same => rw [same]
    · rfl

theorem resetInstalled_workless (idle : s.workless) (b : BayNo) : (resetInstalled b s).workless := by
  obtain ⟨only, bays⟩ := resetInstalled_spec idle b
  refine ⟨by rw [only.transport]; exact idle.1, fun x => ?_⟩
  rw [bays]
  split
  · unfold Bay.afterReset
    split <;> exact idle.2 b
  · exact idle.2 x

theorem foldl_resetInstalled {ls : List BayNo} (once : ls.Nodup) (idle : s.workless) :
    OnlyBays s (ls.foldl (fun u b => resetInstalled b u) s)
    ∧ ∀ x, (ls.foldl (fun u b => resetInstalled b u) s).bay x = if x ∈ ls then (s.bay x).afterReset else s.bay x := by
  induction ls generalizing s with
  | nil => exact ⟨.refl s, fun x => by simp⟩
  | cons b rest ih =>
    obtain ⟨fresh, tail⟩ := List.nodup_cons.mp once
    obtain ⟨only, bays⟩ := resetInstalled_spec idle b
    obtain ⟨only', bays'⟩ := ih tail (resetInstalled_workless idle b)
    refine ⟨only.trans only', fun x => (bays' x).trans ?_⟩
    rw [bays]
    by_cases same : x = b
    · subst same
      simp [fresh]
    · simp [same]

theorem resetBays_spec (idle : s.workless) : OnlyBays s (resetBays s) ∧ ∀ x, (resetBays s).bay x = (s.bay x).afterReset := by
  obtain ⟨only, bays⟩ := foldl_resetInstalled (ls := Config.allBays) (by decide) idle
  exact ⟨only, fun x => (bays x).trans (if_pos (mem_allBays x))⟩

/-! ### The printer at a reset of the tower (R147) -/

/-- The printer with its print let go. -/
def Printer.letGo (p : Printer) : Printer :=
  { p with docket := none, active := none, shadow := none, carriageTarget := none, clampTimer := none, spinupTimer := none
           settleTimer := none, spindownTimer := none, quietTimer := none, load := [], lanes := Vector.replicate 8 Lane.reset }

/-- The spindle is driven. -/
@[reducible] def Printer.driven (p : Printer) : Prop := p.state = .spinup ∨ p.state = .settling ∨ p.state = .stepping ∨ p.state = .printing

/-- The state in which the printer has let its print go. -/
def printLetGo (s : State) : State := orphanLine .print (setLine .print none (setPrinterRec s.printer.letGo s))

theorem resetPrinter_of_driven (driven : s.printer.driven) : resetPrinter s = enterSpindown (printLetGo s) := if_pos driven

theorem resetPrinter_of_still (still : ¬ s.printer.driven) : resetPrinter s =
    setPrinter (if s.sensor .trayPresent then .readyOut else .empty) (printLetGo s) := if_neg still

theorem resetPrinter_printer_of_driven (driven : s.printer.driven) : (resetPrinter s).printer = s.printer.letGo.spinningDown := by
  rw [resetPrinter_of_driven driven, enterSpindown_printer]
  rfl

theorem resetPrinter_printer_of_still (still : ¬ s.printer.driven) : ∃ c, (resetPrinter s).printer = { s.printer.letGo with
    state := if s.sensor .trayPresent = true then .readyOut else .empty, clamped := c } := by
  rw [resetPrinter_of_still still]
  generalize (if s.sensor .trayPresent = true then PrinterState.readyOut else .empty) = st
  rw [setPrinter_printer]
  split
  · next same => exact ⟨_, by rw [← same]; rfl⟩
  · exact ⟨_, rfl⟩

theorem resetPrinter_engine (s : State) : (resetPrinter s).engine.print = none ∧ (resetPrinter s).engine.board = s.engine.board
    ∧ (resetPrinter s).engine.pointer = s.engine.pointer ∧ (∃ more, (resetPrinter s).engine.posted = s.engine.posted ++ more)
    ∧ (s.board.statusAddr = none → (resetPrinter s).engine.posted = s.engine.posted)
    ∧ ∀ k, (resetPrinter s).fetch k = (s.fetch k).map fun f => if f.line = .print then { f with orphan := true } else f := by
  have reports : Reported (printLetGo s) (resetPrinter s) := by
    by_cases driven : s.printer.driven
    · rw [resetPrinter_of_driven driven]
      exact enterSpindown_reported _
    · rw [resetPrinter_of_still driven]
      exact setPrinter_reported _ _
  refine ⟨reports.print, reports.board, reports.pointer, reports.posted, reports.silent, fun k => ?_⟩
  have fetch : (resetPrinter s).fetch k = (printLetGo s).fetch k := congrArg (fun v : Vector (Option Fetch) 8 => v.get k) reports.slots
  rw [fetch, printLetGo, orphanLine_fetch]
  rfl

theorem resetPrinter_bay (s : State) (x : BayNo) : (resetPrinter s).bay x = s.bay x := by
  by_cases driven : s.printer.driven
  · rw [resetPrinter_of_driven driven]
    exact State.bay_congr (by simp [printLetGo, setLine, orphanLine, setPrinterRec]) x
  · rw [resetPrinter_of_still driven]
    exact State.bay_congr (by simp [printLetGo, setLine, orphanLine, setPrinterRec]) x

/-! ### The tower at a reset (R175, R180) -/

theorem restartTower_spec (s : State) :
    (s.tower.state = .loading → (restartTower s).tower.state = .loading ∧ (restartTower s).transport.state = s.transport.state)
    ∧ (s.tower.state ≠ .loading → s.tower.calibration = none → (restartTower s).tower.state = .uncalibrated
      ∧ (restartTower s).transport.state = s.transport.state)
    ∧ (s.tower.state ≠ .loading → s.tower.calibration ≠ none → (restartTower s).tower.state = .homing
      ∧ (restartTower s).transport.state = .homing)
    ∧ (restartTower s).tower.calibration = s.tower.calibration ∧ (restartTower s).transport.queue = s.transport.queue
    ∧ (restartTower s).transport.errand = s.transport.errand ∧ (restartTower s).transport.carrying = s.transport.carrying := by
  unfold restartTower towerHomes
  by_cases loading : s.tower.state = .loading
  · rw [if_pos loading]
    exact ⟨fun _ => ⟨loading, rfl⟩, fun no => absurd loading no, fun no => absurd loading no, rfl, rfl, rfl, rfl⟩
  · rw [if_neg loading]
    cases set : s.tower.calibration with
    | none =>
      dsimp only
      exact ⟨fun is => absurd is loading, fun _ _ => ⟨by simp, by simp⟩, fun _ no => absurd rfl no, by simp [set], by simp, by simp, by simp⟩
    | some c =>
      dsimp only
      refine ⟨fun is => absurd is loading, fun _ no => (nomatch no), fun _ _ => ⟨by simp, ?_⟩, by simp [set], ?_, ?_, ?_⟩ <;>
        rw [startHoming_transport] <;> simp

/-! ### The work cleared (R180) -/

/-- `v` has come from `s` by the clearing of the work and of the lines. -/
structure Cleared (s v : State) : Prop where
  jobs : ∀ j, v.job j = none
  dockets : ∀ d, v.docket d = none
  queue : v.transport.queue = []
  errand : v.transport.errand = none
  arm : v.transport.state = .stopped
  carrying : v.transport.carrying = s.stillCarried
  bay : ∀ b, v.bay b = { s.bay b with
    docket := none, stranded := false, channel := .closed, image := none, extent := none, compare := none }
  tower : v.tower.state = s.tower.state ∧ v.tower.calibration = s.tower.calibration
  health : v.health = s.health
  faults : v.faults = s.faults
  bins : v.bins = s.bins
  sensors : v.sensors = s.sensors
  printer : v.printer = s.printer
  lines : v.engine.board = none

theorem stopTransport_reported (s : State) : Reported s (stopTransport s) := setTransport_reported_of rfl rfl

theorem clearWork_bay (s : State) (b : BayNo) :
    (clearWork s).bay b = { s.bay b with docket := none, stranded := false, channel := .closed } := by
  have same : (stopTransport (setQueue [] s)).bay b = s.bay b := State.bay_congr (by simp [setQueue]) b
  change ((stopTransport (setQueue [] s)).bays.map _).get b = _
  rw [Vector.get_map, ← same]
  rfl

theorem withdrawLines_bay (s : State) (b : BayNo) :
    (withdrawLines s).bay b = { s.bay b with image := none, extent := none, compare := none } := by
  change (s.bays.map _).get b = _
  rw [Vector.get_map]
  rfl

/-- The work is cleared and the lines with it, whatever the engine's own reset does. -/
theorem cleared_of (bays : v.bays = (withdrawLines (clearWork s)).bays)
    (same : v.jobs = (clearWork s).jobs ∧ v.dockets = (clearWork s).dockets ∧ v.transport = (clearWork s).transport
      ∧ v.tower = (clearWork s).tower ∧ v.health = s.health ∧ v.faults = s.faults ∧ v.bins = s.bins ∧ v.sensors = s.sensors
      ∧ v.printer = s.printer) (line : v.engine.board = none) : Cleared s v := by
  obtain ⟨jobs, dockets, transport, tower, health, faults, bins, sensors, printer⟩ := same
  have arm : (clearWork s).transport = { (stopTransport (setQueue [] s)).transport with
      stage := .arm, armDisc := false, sweepList := [], lift := { (stopTransport (setQueue [] s)).transport.lift with trusted := false } } := rfl
  rw [stopTransport_transport] at arm
  refine ⟨fun j => ?_, fun d => ?_, by rw [transport, arm]; rfl, by rw [transport, arm], by rw [transport, arm], by rw [transport, arm]; rfl,
    fun b => ?_, ?_, health, faults, bins, sensors, printer, line⟩
  · rw [State.job_congr jobs]
    change (Vector.replicate 8 none).get j = none
    simp
  · rw [State.docket_congr dockets]
    change (Vector.replicate 16 none).get d = none
    simp
  · rw [State.bay_congr bays, withdrawLines_bay, clearWork_bay]
  · rw [tower]
    have kept : (stopTransport (setQueue [] s)).tower = s.tower := by simp [setQueue]
    show (stopTransport (setQueue [] s)).tower.state = _ ∧ (stopTransport (setQueue [] s)).tower.calibration = _
    rw [kept]
    exact ⟨rfl, rfl⟩

theorem Cleared.workless (c : Cleared s v) : (resetPrinter v).workless :=
  ⟨by simpa using c.errand, fun b => by rw [resetPrinter_bay, c.bay]; exact ⟨rfl, rfl⟩⟩

theorem afterReset_fields (r : Bay) : r.afterReset.soft = r.soft ∧ r.afterReset.hard = r.hard ∧ r.afterReset.logical = r.logical
    ∧ r.afterReset.failing = r.failing ∧ r.afterReset.channel = r.channel ∧ r.afterReset.stranded = r.stranded
    ∧ r.afterReset.image = r.image ∧ r.afterReset.extent = r.extent ∧ r.afterReset.compare = r.compare := by
  unfold Bay.afterReset
  split <;> exact ⟨rfl, rfl, rfl, rfl, rfl, rfl, rfl, rfl, rfl⟩

theorem afterReset_state (r : Bay) : (r.installed = true → r.state ≠ .retired → r.afterReset.state = .resetting)
    ∧ (r.installed = false → r.afterReset.state = r.state) ∧ (r.state = .retired → r.afterReset.state = .retired) := by
  unfold Bay.afterReset
  split
  · next h => exact ⟨fun _ _ => rfl, fun no => absurd (h.1.symm.trans no) nofun, fun is => absurd is h.2.1⟩
  · next h => exact ⟨fun installed live => by_contra fun no => h ⟨installed, live, no⟩, fun _ => rfl, id⟩

/-- What follows the clearing: the printer lets go, the bays are reset and the tower starts again. -/
def restarted (v : State) : State := restartTower (resetBays (resetPrinter v))

theorem restarted_reported (c : Cleared s v) : Reported (resetPrinter v) (restarted v) :=
  (resetBays_spec c.workless).1.engine.trans (restartTower_reported _)

theorem restarted_bay (c : Cleared s v) (b : BayNo) : (restarted v).bay b = (v.bay b).afterReset := by
  rw [restarted, restartTower_bay, (resetBays_spec c.workless).2 b, resetPrinter_bay]

theorem restarted_printer (v : State) : (restarted v).printer = (resetPrinter v).printer := by simp [restarted]

theorem restarted_sameHere (c : Cleared s v) : (restarted v).jobs = v.jobs ∧ (restarted v).dockets = v.dockets
    ∧ (restarted v).faults = s.faults ∧ (restarted v).health = s.health ∧ (restarted v).bins = s.bins := by
  have only := (resetBays_spec c.workless).1
  refine ⟨?_, ?_, ?_, ?_, ?_⟩
  · simp [restarted, only.jobs]
  · simp [restarted, only.dockets]
  · simp [restarted, only.faults, c.faults]
  · simp [restarted, only.health, c.health]
  · simp [restarted, c.bins]

theorem freePages_of_closed (closed : ∀ b, (s.bay b).channel = .closed) : s.freePages = 64 := by
  have holds : s.holding = fun _ => 0 := funext fun b => by rw [State.holding, closed]; rfl
  rw [State.freePages, holds]
  rfl

theorem restarted_closed (c : Cleared s v) (b : BayNo) : ((restarted v).bay b).channel = .closed := by
  rw [restarted_bay c, (afterReset_fields _).2.2.2.2.1, c.bay]

theorem restarted_line (c : Cleared s v) (id : LineId) : (restarted v).line id = none := by
  have lines (b : BayNo) : ((restarted v).bay b).image = none ∧ ((restarted v).bay b).extent = none ∧ ((restarted v).bay b).compare = none := by
    obtain ⟨-, -, -, -, -, -, image, extent, compare⟩ := afterReset_fields (v.bay b)
    rw [restarted_bay c, image, extent, compare, c.bay]
    exact ⟨rfl, rfl, rfl⟩
  obtain ⟨print, board, -⟩ := resetPrinter_engine v
  cases id with
  | image b => exact (lines b).1
  | extent b => exact (lines b).2.1
  | compare b => exact (lines b).2.2
  | print => exact (restarted_reported c).print.trans print
  | board => exact ((restarted_reported c).board.trans board).trans c.lines

theorem restarted_fetch (c : Cleared s v) (k : FetchNo) :
    (restarted v).fetch k = (v.fetch k).map fun f => if f.line = .print then { f with orphan := true } else f := by
  obtain ⟨-, -, -, -, -, fetch⟩ := resetPrinter_engine v
  exact (congrArg (fun r : Vector (Option Fetch) 8 => r.get k) (restarted_reported c).slots).trans (fetch k)

theorem restarted_tower (c : Cleared s v) :
    (s.tower.state = .loading → (restarted v).tower.state = .loading ∧ (restarted v).transport.state = .stopped)
    ∧ (s.tower.state ≠ .loading → s.tower.calibration = none → (restarted v).tower.state = .uncalibrated
      ∧ (restarted v).transport.state = .stopped)
    ∧ (s.tower.state ≠ .loading → s.tower.calibration ≠ none → (restarted v).tower.state = .homing
      ∧ (restarted v).transport.state = .homing)
    ∧ (restarted v).tower.calibration = s.tower.calibration ∧ (restarted v).transport.queue = []
    ∧ (restarted v).transport.errand = none ∧ (restarted v).transport.carrying = s.stillCarried := by
  have only := (resetBays_spec c.workless).1
  have tower : (resetBays (resetPrinter v)).tower = v.tower := by simp
  have arm : (resetBays (resetPrinter v)).transport = v.transport := only.transport.trans (by simp)
  have spec := restartTower_spec (resetBays (resetPrinter v))
  rw [tower, arm, c.tower.1, c.tower.2, c.queue, c.errand, c.carrying, c.arm] at spec
  unfold restarted
  exact spec

/-- The printer after a reset (R147). -/
theorem resetPrinter_let_go (v : State) : (resetPrinter v).printer.position = v.printer.position ∧ (resetPrinter v).printer.docket = none
    ∧ ((resetPrinter v).printer.state
        = (if v.printer.driven then .spindown else if v.sensor .trayPresent = true then .readyOut else .empty)
      ∧ (resetPrinter v).printer.spindownTimer = (if v.printer.driven then some 10000 else none)
      ∧ (resetPrinter v).printer.quietTimer = (if v.printer.driven then some 200 else none)
      ∧ (resetPrinter v).printer.clampTimer = none ∧ (resetPrinter v).printer.spinupTimer = none ∧ (resetPrinter v).printer.settleTimer = none)
    ∧ (resetPrinter v).printer.active = none ∧ (resetPrinter v).printer.shadow = none ∧ (resetPrinter v).printer.load = []
    ∧ (resetPrinter v).printer.carriageTarget = none ∧ ∀ lane, (resetPrinter v).printer.lanes.get lane = Lane.reset := by
  have lanes (lane : LaneNo) : (Vector.replicate 8 Lane.reset).get lane = Lane.reset := by simp
  by_cases driven : v.printer.driven
  · rw [resetPrinter_printer_of_driven driven, if_pos driven, if_pos driven, if_pos driven]
    exact ⟨rfl, rfl, ⟨rfl, rfl, rfl, rfl, rfl, rfl⟩, rfl, rfl, rfl, rfl, lanes⟩
  · obtain ⟨c, after⟩ := resetPrinter_printer_of_still driven
    rw [after, if_neg driven, if_neg driven, if_neg driven]
    exact ⟨rfl, rfl, ⟨rfl, rfl, rfl, rfl, rfl, rfl⟩, rfl, rfl, rfl, rfl, lanes⟩

/-! ### Tower reset -/

/-- The work and the engine of a tower reset cleared, before a scan left pending starts again. -/
def towerCleared (s : State) : State := engineTowerReset (endBurst (clearWork s))

/-- The same with the scan that was left pending. -/
def towerScanned (s : State) : State :=
  if s.board.scan.isSome ∧ s.board.scanPending then requestScan (towerCleared s) else towerCleared s

theorem clearWork_reported (s : State) : Reported s (clearWork s) := by
  obtain ⟨slots, print, board, pointer, posted, silent, statusAddr, tally, generation⟩ :=
    (Reported.of_engine (s := s) (t := setQueue [] s) rfl rfl).trans (stopTransport_reported _)
  exact ⟨slots, print, board, pointer, posted, silent, statusAddr, tally, generation⟩

theorem endBurst_cases (s : State) : endBurst s = s ∨ ∃ u : Burst, endBurst s = { s with engine := { s.engine with burst := none, pointer := u.bay } } := by
  unfold endBurst
  split
  · next u _ => exact .inr ⟨u, rfl⟩
  · exact .inl rfl

theorem towerCleared_cleared (s : State) : Cleared s (towerCleared s) := by
  have work : (clearWork s).health = s.health ∧ (clearWork s).faults = s.faults ∧ (clearWork s).bins = s.bins ∧ (clearWork s).sensors = s.sensors
    ∧ (clearWork s).printer = s.printer := by simp
  unfold towerCleared
  obtain same | ⟨u, same⟩ := endBurst_cases (clearWork s)
  · rw [same]
    exact cleared_of rfl ⟨rfl, rfl, rfl, rfl, work⟩ rfl
  · rw [same]
    exact cleared_of rfl ⟨rfl, rfl, rfl, rfl, work⟩ rfl

theorem towerScanned_spec (s : State) : Cleared s (towerScanned s) ∧ (towerScanned s).engine = (towerCleared s).engine
    ∧ (towerScanned s).board.tally = (towerCleared s).board.tally ∧ (towerScanned s).board.generation = (towerCleared s).board.generation := by
  have c := towerCleared_cleared s
  unfold towerScanned
  split
  · have bays : (requestScan (towerCleared s)).bays = (towerCleared s).bays := by simp
    have board : (requestScan (towerCleared s)).board.tally = (towerCleared s).board.tally
        ∧ (requestScan (towerCleared s)).board.generation = (towerCleared s).board.generation := by
      unfold requestScan
      split
      · exact ⟨rfl, rfl⟩
      · split <;> exact ⟨rfl, rfl⟩
    refine ⟨?_, by simp, board⟩
    obtain ⟨jobs, dockets, queue, errand, arm, carrying, bay, tower, health, faults, bins, sensors, printer, lines⟩ := c
    refine ⟨by simpa using jobs, by simpa using dockets, by simpa using queue, by simpa using errand, by simpa using arm, by simpa using carrying,
      by simpa using bay, by simpa using tower, by simpa using health, by simpa using faults, by simpa using bins, by simpa using sensors,
      by simpa using printer, by simpa using lines⟩
  · exact ⟨c, rfl, rfl, rfl⟩

theorem towerCleared_engine (s : State) : (towerCleared s).engine.posted = (clearWork s).engine.posted
    ∧ (towerCleared s).engine.slots = (clearWork s).engine.slots.map (·.map fun f => { f with orphan := true })
    ∧ (towerCleared s).board = (clearWork s).board := by
  unfold towerCleared
  obtain same | ⟨u, same⟩ := endBurst_cases (clearWork s) <;> rw [same] <;> exact ⟨rfl, rfl, rfl⟩

/-! ### Link reset -/

/-- The work, the engine and the register window of a link reset cleared. -/
def linkCleared (s : State) : State := clearWindow (engineLinkReset (clearWork s))

theorem linkCleared_cleared (s : State) : Cleared s (linkCleared s) := by
  have work : (clearWork s).health = s.health ∧ (clearWork s).faults = s.faults ∧ (clearWork s).bins = s.bins ∧ (clearWork s).sensors = s.sensors
    ∧ (clearWork s).printer = s.printer := by simp
  exact cleared_of rfl ⟨rfl, rfl, rfl, rfl, work⟩ rfl

/-- What a restart keeps of the register window and the board. -/
theorem restarted_kept (v : State) : (restarted v).regs = v.regs ∧ (restarted v).board = v.board := by simp [restarted]

theorem restarted_posted (c : Cleared s v) : (∃ more, (restarted v).engine.posted = v.engine.posted ++ more)
    ∧ (restarted v).engine.pointer = v.engine.pointer
    ∧ (v.board.statusAddr = none → (restarted v).engine.posted = v.engine.posted) := by
  obtain ⟨-, -, pointer, ⟨first, posted⟩, silent, -⟩ := resetPrinter_engine v
  have reports := restarted_reported c
  obtain ⟨last, posted'⟩ := reports.posted
  have board : (resetPrinter v).board = v.board := by simp
  exact ⟨⟨first ++ last, by rw [posted', posted, List.append_assoc]⟩, reports.pointer.trans pointer,
    fun unused => (reports.silent (by rw [board]; exact unused)).trans (silent unused)⟩

theorem towerScanned_regs (s : State) : (towerScanned s).regs = s.regs := by
  have cleared : (towerCleared s).regs = s.regs := by simp [towerCleared]
  unfold towerScanned
  split
  · simpa using cleared
  · exact cleared

/-- The fetches at a tower reset: all are orphans. -/
theorem towerScanned_fetch (s : State) (k : FetchNo) :
    (restarted (towerScanned s)).fetch k = (s.fetch k).map fun f => { f with orphan := true } := by
  obtain ⟨cleared, engine, -⟩ := towerScanned_spec s
  have slots : (towerScanned s).fetch k = (s.fetch k).map fun f => { f with orphan := true } := by
    rw [State.fetch, engine, (towerCleared_engine s).2.1, Vector.get_map, (clearWork_reported s).slots]
    rfl
  rw [restarted_fetch cleared, slots]
  cases s.fetch k with
  | none => rfl
  | some f => simp

/-- Settles O52. -/
theorem towerAndLinkReset : Obligations.TowerAndLinkReset := by
  intro s common
  have all (v : State) (c : Cleared s v) : common (restarted v) := by
    obtain ⟨jobs, dockets, faults, health, bins⟩ := restarted_sameHere c
    obtain ⟨loading, unset, homing, calibration, queue, errand, carrying⟩ := restarted_tower c
    obtain ⟨position, docket, timers, active, shadow, load, target, lanes⟩ := resetPrinter_let_go v
    have sensor : v.sensor .trayPresent = s.sensor .trayPresent := State.sensor_congr c.sensors _
    rw [← restarted_printer] at position docket timers active shadow load target lanes
    rw [sensor] at timers
    rw [c.printer] at position timers
    refine ⟨fun j => ?_, fun d => ?_, queue, errand, fun b => ?_, calibration, health, faults, bins, carrying, position, docket,
      freePages_of_closed (restarted_closed c), timers, active, shadow, load, target, fun lane => ?_, restarted_line c, loading, unset, homing⟩
    · rw [State.job_congr jobs]; exact c.jobs j
    · rw [State.docket_congr dockets]; exact c.dockets d
    · have was := c.bay b
      obtain ⟨soft, hard, logical, failing, channel, stranded, -⟩ := afterReset_fields (v.bay b)
      obtain ⟨live, absent, retired⟩ := afterReset_state (v.bay b)
      rw [restarted_bay c, soft, hard, logical, failing, channel, stranded]
      rw [was] at live absent retired ⊢
      exact ⟨rfl, rfl, rfl, rfl, rfl, rfl, live, absent, retired⟩
    · rw [lanes]; exact ⟨rfl, rfl, rfl, rfl⟩
  refine ⟨⟨restarted (towerScanned s), rfl, all _ (towerScanned_spec s).1, ?_, ?_, ?_, ?_, fun k => ?_⟩,
    ⟨restarted (linkCleared s), rfl, all _ (linkCleared_cleared s), ?_, ?_, ?_, ?_, ?_, ?_, fun k => ?_⟩⟩
  · exact (restarted_kept _).1.trans (towerScanned_regs s)
  · rw [(restarted_kept _).2, (towerScanned_spec s).2.2.1, (towerCleared_engine s).2.2, (clearWork_reported s).tally]
  · rw [(restarted_kept _).2, (towerScanned_spec s).2.2.2, (towerCleared_engine s).2.2, (clearWork_reported s).generation]
  · obtain ⟨cleared, engine, -⟩ := towerScanned_spec s
    obtain ⟨first, posted⟩ := (clearWork_reported s).posted
    obtain ⟨last, posted'⟩ := (restarted_posted cleared).1
    exact ⟨first ++ last, by rw [posted', engine, (towerCleared_engine s).1, posted, List.append_assoc]⟩
  · exact towerScanned_fetch s k
  · exact (restarted_kept _).1
  · rw [(restarted_kept _).2]; rfl
  · rw [(restarted_kept _).2]; rfl
  · rw [(restarted_kept _).2]; rfl
  · exact (restarted_posted (linkCleared_cleared s)).2.2 rfl
  · exact (restarted_posted (linkCleared_cleared s)).2.1
  · have freed : (linkCleared s).fetch k = none := Vector.getElem_replicate _
    rw [restarted_fetch (linkCleared_cleared s), freed]
    rfl

end Sys2Proof.Machine
end

section
/-! PROOFS. What a job fault spares, and the end of a fetch (O53). -/

namespace Sys2Proof.Machine

variable {s t u : State}

/-! ### What the stop of a job spares (R17, R30) -/

/-- A HALT stays outstanding, and of a burn channel's compares some may have gone. -/
def Bay.wanes (r r' : Bay) : Prop := (r.reqs.any (·.req == .halt) = true → r'.reqs.any (·.req == .halt) = true)
  ∧ ∀ c', r'.channel = .burn c' → ∃ c, r.channel = .burn c ∧ ∀ e ∈ c'.compares, e ∈ c.compares

theorem Bay.wanes.of_eq {r r' : Bay} (reqs : r'.reqs = r.reqs) (channel : r'.channel = r.channel) : r.wanes r' :=
  ⟨fun has => by rw [reqs]; exact has, fun c' burn => ⟨c', channel ▸ burn, fun _ mem => mem⟩⟩

theorem Bay.wanes.of_more {r r' : Bay} (more : ∃ l, r'.reqs = r.reqs ++ l) (channel : r'.channel = r.channel) : r.wanes r' := by
  obtain ⟨l, reqs⟩ := more
  exact ⟨fun has => by rw [reqs, List.any_append, has, Bool.true_or], fun c' burn => ⟨c', channel ▸ burn, fun _ mem => mem⟩⟩

theorem Bay.wanes.trans {a b c : Bay} (h : a.wanes b) (k : b.wanes c) : a.wanes c := by
  obtain ⟨halt, compares⟩ := h
  obtain ⟨halt', compares'⟩ := k
  refine ⟨fun has => halt' (halt has), fun c2 burn => ?_⟩
  obtain ⟨c1, burn1, within1⟩ := compares' c2 burn
  obtain ⟨c0, burn0, within0⟩ := compares c1 burn1
  exact ⟨c0, burn0, fun e mem => within0 e (within1 e mem)⟩

/-- What a stop of a job leaves alone: the fetches, an outstanding HALT, the first fault, and the cause and verdict of a docket that has a
cause. No compare is listed. -/
structure State.spares (s t : State) : Prop where
  slots : t.engine.slots = s.engine.slots
  bays : ∀ x, (s.bay x).wanes (t.bay x)
  first : s.firstStays t
  caused : ∀ d r, s.docket d = some r → r.cause ≠ .none → r.state ≠ .reserved → ∃ r', t.docket d = some r' ∧ r'.cause = r.cause
    ∧ r'.verdict = r.verdict ∧ r'.state ≠ .reserved

theorem State.spares.trans (h : s.spares t) (k : t.spares u) : s.spares u := by
  refine ⟨k.slots.trans h.slots, fun x => (h.bays x).trans (k.bays x), h.first.trans k.first, fun d r holds caused state => ?_⟩
  obtain ⟨r', holds', cause', verdict', state'⟩ := h.caused d r holds caused state
  obtain ⟨r'', holds'', cause'', verdict'', state''⟩ := k.caused d r' holds' (by rw [cause']; exact caused) state'
  exact ⟨r'', holds'', cause''.trans cause', verdict''.trans verdict', state''⟩

/-- What changes no docket needs its bays, its fetches and its first fault looked at. -/
theorem State.spares.of (dockets : t.dockets = s.dockets) (slots : t.engine.slots = s.engine.slots) (first : s.firstStays t)
    (bays : ∀ x, (s.bay x).wanes (t.bay x)) : s.spares t :=
  ⟨slots, bays, first, fun d r holds _ state => ⟨r, (State.docket_congr dockets d).trans holds, rfl, rfl, state⟩⟩

theorem State.spares.of_same (dockets : t.dockets = s.dockets) (slots : t.engine.slots = s.engine.slots) (faults : t.faults = s.faults)
    (bays : t.bays = s.bays) : s.spares t :=
  .of dockets slots (State.firstStays_of_eq faults) fun x => .of_eq (by rw [State.bay_congr bays]) (by rw [State.bay_congr bays])

theorem State.spares.refl (s : State) : s.spares s := .of_same rfl rfl rfl rfl

theorem setBay_spares {b : BayNo} {r : Bay} (wanes : (s.bay b).wanes r) : s.spares (s.setBay b r) := by
  refine .of rfl rfl (State.firstStays_of_eq rfl) fun x => ?_
  rw [State.bay_setBay]
  split
  · next same => exact same ▸ wanes
  · exact .of_eq rfl rfl

theorem reportFault_slots (code : FaultCode) (bay : Option BayNo) (docket : Option DocketNo) (s : State) :
    (reportFault code bay docket s).engine.slots = s.engine.slots := by
  unfold reportFault
  split
  · rw [reportStatus_slots]
  · split
    · rfl
    · rw [reportStatus_slots]

theorem reportFault_spares (code : FaultCode) (bay : Option BayNo) (docket : Option DocketNo) (s : State) :
    s.spares (reportFault code bay docket s) :=
  .of (by simp) (reportFault_slots ..) (reportFault_firstStays _ _ _ _) fun x => .of_eq (by simp) (by simp)

theorem setBayState_spares (b : BayNo) (st : BayState) (s : State) : s.spares (setBayState b st s) := by
  refine .of (by simp) (setBayState_slots ..) (State.firstStays_of_eq (by simp)) fun x => ?_
  rw [setBayState_bay]
  split
  · next same => exact .of_eq (by rw [same]) (by rw [same])
  · exact .of_eq rfl rfl

theorem sendReq_spares (b : BayNo) (q : Request) (p : Purpose) (m : DriveMsg) (s : State) : s.spares (sendReq b q p m s) := by
  refine .of (by simp) (by simp) (State.firstStays_of_eq (by simp)) fun x => ?_
  rw [sendReq_bay]
  split
  · next same =>
    subst same
    refine .of_more ?_ rfl
    dsimp only
    split
    · exact ⟨[], (List.append_nil _).symm⟩
    · exact ⟨_, rfl⟩
  · exact .of_eq rfl rfl

theorem setLogical_spares (b : BayNo) (n : Option BayNo) (s : State) : s.spares (setLogical b n s) := by
  refine .of (by simp) ?_ (State.firstStays_of_eq (by simp)) fun x => ?_
  · unfold setLogical
    split
    · rfl
    · rw [reportStatus_slots]; rfl
  · rw [setLogical_bay]
    split
    · next same => exact .of_eq (by rw [same]) (by rw [same])
    · exact .of_eq rfl rfl

theorem setSpare_spares (d : Option BayNo) (s : State) : s.spares (setSpare d s) := .of_same rfl rfl rfl rfl

theorem takeover_spares (n : Option BayNo) (s : State) : s.spares (takeover n s) := by
  unfold takeover
  split
  · next n sp _ =>
    split
    · have named : s.spares (setSpare none (setLogical sp (some n) s)) := (setLogical_spares ..).trans (setSpare_spares ..)
      exact (named.trans (sendReq_spares ..)).trans (setBayState_spares ..)
    · exact .refl s
  · exact .refl s

theorem retire_spares (b : BayNo) (s : State) : s.spares (retire b s) :=
  (((setBayState_spares b .retired s).trans (setLogical_spares ..)).trans (takeover_spares ..)).trans (reportFault_spares ..)

theorem enterIdle_spares (b : BayNo) (s : State) : s.spares (enterIdle b s) := by
  unfold enterIdle
  split
  · exact retire_spares b s
  · exact (setBayState_spares b .idle s).trans (.of_same (by simp) (by simp) (by simp) (by simp))

theorem askTrayClose_spares (b : BayNo) (s : State) : s.spares (askTrayClose b s) := by
  unfold askTrayClose
  split
  · exact (sendReq_spares ..).trans (setBayState_spares ..)
  · exact setBay_spares (.of_eq rfl rfl)
  · exact .refl s

theorem releaseBay_spares (b : BayNo) (s : State) : s.spares (releaseBay b s) := by
  have freed : s.spares (s.setBay b { s.bay b with docket := none }) := setBay_spares (.of_eq rfl rfl)
  unfold releaseBay
  dsimp only
  split
  · exact freed.trans (enterIdle_spares ..)
  · exact freed.trans (askTrayClose_spares ..)
  · exact freed.trans (askTrayClose_spares ..)
  · exact freed

theorem releaseOf_spares (d : DocketNo) (b : BayNo) (s : State) : s.spares (releaseOf d b s) := by
  unfold releaseOf
  split
  · exact releaseBay_spares b s
  · exact .refl s

theorem setTransport_slots (st : TransportState) (s : State) : (setTransport st s).engine.slots = s.engine.slots :=
  (setTransport_reported st s).slots

theorem endErrand_slots (s : State) : (endErrand s).engine.slots = s.engine.slots := by
  unfold endErrand
  dsimp only
  split
  · rfl
  · split
    · rw [setTransport_slots]; rfl
    · rfl

theorem returnToEnd_slots (s : State) : (returnToEnd s).engine.slots = s.engine.slots := by
  unfold returnToEnd
  split
  · split
    · simp
    · exact endErrand_slots s
  · rfl

theorem stopPick_slots (s : State) : (stopPick s).engine.slots = s.engine.slots := by
  unfold stopPick
  split
  · split
    · exact returnToEnd_slots s
    · rfl
    · rfl
    · exact returnToEnd_slots s
    · exact endErrand_slots s
  · rfl

theorem undone_spares (d : DocketNo) (r : Docket) (s : State) : s.spares (undone d r s) := by
  refine .trans ?_ (releaseOf_spares d r.bay _)
  split
  · exact .of_same (by simp) ((stopPick_slots _).trans rfl) (by simp) (by simp)
  · exact .of_same rfl rfl rfl rfl

theorem endJob_slots (k : SlotNo) (s : State) : (endJob k s).engine.slots = s.engine.slots := by
  unfold endJob
  dsimp only
  split <;> simp [startThread]

theorem forgetDissolved_slots (d : DocketNo) (k : SlotNo) (s : State) : (forgetDissolved d k s).engine.slots = s.engine.slots := by
  have ends (v : State) : (endIfStopped k v).engine.slots = v.engine.slots := by
    unfold endIfStopped
    (repeat' split) <;> simp [endJob_slots]
  rw [forgetDissolved, ends]
  simp

/-- A RESERVED docket alone is dissolved. -/
theorem dissolve_spares {d : DocketNo} (reserved : ∀ r, s.docket d = some r → r.state = .reserved) : s.spares (dissolve d s) := by
  cases holds : s.docket d with
  | none =>
    have same : dissolve d s = s := by simp [dissolve, holds]
    rw [same]
    exact .refl s
  | some r =>
    have undo := undone_spares d r s
    have dockets := (undone_frame d r s).2
    rw [dissolve_of_some holds]
    refine ⟨(forgetDissolved_slots ..).trans undo.slots, fun x => (undo.bays x).trans (.of_eq (by simp) (by simp)),
      undo.first.trans (State.firstStays_of_eq (by simp)), fun x q held _ state => ?_⟩
    by_cases self : x = d
    · subst self
      exact absurd (reserved q held) state
    · exact ⟨q, (forgetDissolved_docket_other self ..).trans ((State.docket_congr dockets x).trans held), rfl, rfl, state⟩

theorem sendHalt_spares (b : BayNo) (s : State) : s.spares (sendHalt b s) := by
  unfold sendHalt
  split
  · exact .refl s
  · have withdrawn : s.spares (withdrawBurn b s) := by
      refine .of rfl rfl (State.firstStays_of_eq rfl) fun x => ?_
      by_cases self : x = b
      · subst self
        exact ⟨fun has => (withdrawBurn_hasReq x s).2.2.1.trans has, fun c' burn => ⟨c', by
          unfold withdrawBurn at burn
          rwa [State.bay_setBay, if_pos rfl] at burn, fun _ mem => mem⟩⟩
      · rw [withdrawBurn_bay _ _ _ self]
        exact .of_eq rfl rfl
    have spent : s.spares ((withdrawBurn b s).setBay b { (withdrawBurn b s).bay b with credits := 0 }) :=
      withdrawn.trans (setBay_spares (.of_eq rfl rfl))
    exact spent.trans (sendReq_spares ..)

theorem abortBurn_spares (b : BayNo) (s : State) : s.spares (abortBurn b s) := by
  unfold abortBurn
  split
  · next c burn =>
    split
    · exact .refl s
    · refine setBay_spares ⟨id, fun c' aborted => ⟨c, burn, fun e mem => ?_⟩⟩
      cases aborted
      exact List.mem_of_mem_filter mem
  · exact .refl s

theorem stopVerify_spares (b : BayNo) (s : State) : s.spares (stopVerify b s) := by
  unfold stopVerify
  split
  · split
    · exact .refl s
    · next c _ _ =>
      have stopped : s.spares (s.setBay b { s.bay b with compare := none, channel := .verify { c with state := .stopped } }) :=
        setBay_spares ⟨id, fun _ no => (nomatch no)⟩
      exact ⟨stopped.slots, stopped.bays, stopped.first, stopped.caused⟩
  · exact .refl s

theorem stopWork_spares (halt : Bool) (r : Docket) (s : State) : s.spares (stopWork halt r s) := by
  unfold stopWork
  split
  · split
    · exact (abortBurn_spares ..).trans (sendHalt_spares ..)
    · exact abortBurn_spares ..
  · split
    · exact (abortBurn_spares ..).trans (sendHalt_spares ..)
    · exact abortBurn_spares ..
  · exact stopVerify_spares ..
  · exact .refl s

theorem giveCause_spares (halt : Bool) (d : DocketNo) (c : Cause) (s : State) : s.spares (giveCause halt d c s) := by
  cases holds : s.docket d with
  | none => rw [giveCause_of_free holds]; exact .refl s
  | some r =>
    have bays : ∀ x, (s.bay x).wanes ((giveCause halt d c s).bay x) := by
      rw [giveCause_of_some holds halt c]
      split
      · exact fun x => (stopWork_spares halt r (rejectQueued d (s.setDocket d _))).bays x
      · exact fun x => .of_eq rfl rfl
    refine ⟨by simp, bays, State.firstStays_of_eq (by simp), fun x q held caused state => ?_⟩
    by_cases self : x = d
    · subst self
      exact ⟨q, giveCause_docket_of_caused held caused halt c, rfl, rfl, state⟩
    · exact ⟨q, by rw [giveCause_docket, if_neg self, held], rfl, rfl, state⟩

theorem reroute_spares (d : DocketNo) (c : Cause) (s : State) : s.spares (reroute d c s) := by
  have cause := giveCause_spares false d c s
  have moved : (giveCause false d c s).spares (setDocketState d .rejectOutbound (giveCause false d c s)) := by
    refine ⟨by simp [setDocketState], fun x => .of_eq (by simp [setDocketState]) (by simp [setDocketState]), State.firstStays_of_eq (by simp [setDocketState]),
      fun x q held _ state => ?_⟩
    rw [setDocketState, updDocket_docket]
    split
    · next same => subst same; exact ⟨{ q with state := .rejectOutbound }, by rw [held]; rfl, rfl, rfl, nofun⟩
    · exact ⟨q, held, rfl, rfl, state⟩
  unfold reroute
  dsimp only
  split
  · exact cause
  split
  · exact cause
  · refine (cause.trans moved).trans (State.spares.trans ?_ (releaseOf_spares d _ _))
    split
    · exact .of_same (by simp) (by simp) (by simp) (by simp)
    · exact .refl _

theorem stopDocket_spares (c : Cause) (d : DocketNo) (s : State) : s.spares (stopDocket c d s) := by
  cases holds : s.docket d with
  | none => rw [stopDocket_of_free holds]; exact .refl s
  | some r =>
    rcases stopDocket_cases holds c with ⟨state, h⟩ | ⟨_, h⟩ | ⟨_, h⟩ | ⟨_, h⟩ <;> rw [h]
    · exact dissolve_spares fun q held => by cases holds.symm.trans held; exact state
    · exact reroute_spares d c s
    · exact giveCause_spares true d c s
    · exact .refl s

theorem stopAll_spares (c : Cause) (l : List DocketNo) (s : State) : s.spares (stopAll c l s) := by
  induction l generalizing s with
  | nil => exact .refl s
  | cons d l ih => exact (stopDocket_spares c d s).trans (ih _)

theorem endJob_spares (k : SlotNo) (s : State) : s.spares (endJob k s) :=
  .of_same (by simp) (endJob_slots k s) (by simp) (by simp)

theorem stopJob_spares (k : SlotNo) (outcome : JobOutcome) (fail given : Cause) (s : State) :
    s.spares (stopJob k outcome fail given s) := by
  by_cases active : ∃ j, s.job k = some j ∧ j.state = .active
  · obtain ⟨j, held, active⟩ := active
    obtain ⟨j', -, -, -, -, made⟩ := stopJob_of_active held active outcome fail given
    have begun : s.spares (stopping k j outcome fail s) := .of_same rfl rfl rfl rfl
    have after : s.spares (treated k j outcome fail given s) := begun.trans (stopAll_spares given _ _)
    rw [made]
    split
    · exact after.trans (endJob_spares ..)
    · exact after
  · rw [stopJob_of_inactive (fun j held h => active ⟨j, held, h⟩)]
    exact .refl s

end Sys2Proof.Machine
end

section
/-! PROOFS. How a fetch ends, the cutting and completion of groups, and the staging pool (O53). -/

namespace Sys2Proof.Machine

variable {s t u : State}

/-! ### A job fault (R30) -/

/-- The state a job fault leaves. -/
def faulted (d : DocketNo) (k : SlotNo) (c : Cause) (s : State) : State :=
  stopJob k .failed c .jobFailed (giveCause true d c s)

theorem faulted_spares (d : DocketNo) (k : SlotNo) (c : Cause) (s : State) : s.spares (faulted d k c s) :=
  (giveCause_spares true d c s).trans (stopJob_spares ..)

theorem faulted_docket {d : DocketNo} {r : Docket} {c : Cause} (holds : s.docket d = some r) (causeless : r.cause = .none)
    (state : r.state ≠ .reserved) (given : c ≠ .none) (k : SlotNo) :
    ∃ r', (faulted d k c s).docket d = some r' ∧ r'.cause = c ∧ r'.verdict = some .reject := by
  have after : (giveCause true d c s).docket d = some (r.giveCause c s.tower.time) := by rw [giveCause_docket, if_pos rfl, holds]; rfl
  obtain ⟨cause, verdict⟩ := (giveCause_cases r c s.tower.time).1 causeless
  obtain ⟨r', holds', cause', verdict', -⟩ := (stopJob_spares k .failed c .jobFailed (giveCause true d c s)).caused d _ after
    (by rw [cause]; exact given) (by rw [Docket.giveCause, if_pos causeless]; exact state)
  exact ⟨r', holds', cause'.trans cause, verdict'.trans verdict⟩

theorem faulted_job {k : SlotNo} {j : Job} (held : s.job k = some j) (d : DocketNo) (c : Cause) :
    (j.state = .active → ∃ j', (faulted d k c s).job k = some j' ∧ j'.state ≠ .active ∧ j'.outcome = some .failed ∧ j'.failCause = c)
    ∧ (j.state ≠ .active → (faulted d k c s).jobs = s.jobs) := by
  have after : (giveCause true d c s).job k = some j := by simp [held]
  refine ⟨fun active => stopJob_job after active .failed c .jobFailed, fun stopped => ?_⟩
  rw [faulted, stopJob_of_inactive fun j' held' active => stopped (by cases after.symm.trans held'; exact active)]
  simp

theorem State.spares.compares_gone (h : s.spares t) {b : BayNo} {g : Nat} (gone : ∀ c, s.burnOf b = some c → ∀ e ∈ c.compares, e.group ≠ g) :
    ∀ c, t.burnOf b = some c → ∀ e ∈ c.compares, e.group ≠ g := by
  intro c burn e mem
  obtain ⟨c0, burn0, within⟩ := (h.bays b).2 c ((burnOf_eq_some_iff ..).mp burn)
  exact gone c0 ((burnOf_eq_some_iff ..).mpr burn0) e (within e mem)

/-! ### The end of a fetch (R94, R95, R104) -/

theorem freeFetch_fetch (k : FetchNo) (s : State) : (freeFetch k s).fetch k = none := by
  change (s.engine.slots.set k.val none)[k.val] = none
  simp

section Ends

variable {k : FetchNo} {f : Fetch} {data : List Byte}

theorem fetchEnds_of_wrong (held : s.fetch k = some f) (wrong : data.length ≠ f.len) : fetchEnds k data s = s := by
  simp [fetchEnds, held, wrong]

theorem fetchEnds_of_orphan (held : s.fetch k = some f) (whole : data.length = f.len) (orphan : f.orphan = true) :
    fetchEnds k data s = freeFetch k s := by
  simp [fetchEnds, held, whole, orphan]

theorem fetchEnds_of_live (held : s.fetch k = some f) (whole : data.length = f.len) (live : f.orphan = false) :
    fetchEnds k data s = deliver f data (freeFetch k s) := by
  simp [fetchEnds, held, whole, live]

theorem fetchFails_of_orphan (held : s.fetch k = some f) (orphan : f.orphan = true) (code : FaultCode) :
    fetchFails code k s = freeFetch k s := by
  simp [fetchFails, held, orphan]

theorem fetchFails_of_live (held : s.fetch k = some f) (live : f.orphan = false) (code : FaultCode) :
    fetchFails code k s = requesterFails f (reportFault code (lineBay f.line)
      ((lineBay f.line).bind fun b => (s.bay b).channel.docket) (freeFetch k s)) := by
  simp only [fetchFails, held, live]
  rfl

/-- The state in which a failed fetch of a burn channel has ended, before its job fails. -/
theorem fetchFails_of_burn (held : s.fetch k = some f) (live : f.orphan = false) {b : BayNo}
    (line : f.line = .image b ∨ f.line = .extent b ∨ f.line = .compare b) {c : Burn} (burn : s.burnOf b = some c) (code : FaultCode) :
    ∃ w, fetchFails code k s = failJob c.docket .hostRead w ∧ w.dockets = s.dockets ∧ w.jobs = s.jobs
      ∧ w.faults = s.faults.after code (some b) (some c.docket) s.tower.time ∧ w.engine.slots = (freeFetch k s).engine.slots
      ∧ s.sameHost w ∧ s.samePlant w
      ∧ ∀ g, f.line = .compare b → f.target = .compare g → ∀ c', w.burnOf b = some c' → ∀ e ∈ c'.compares, e.group ≠ g := by
  have channel := (burnOf_eq_some_iff ..).mp burn
  have docket : (s.bay b).channel.docket = some c.docket := by rw [channel]; rfl
  generalize reported : reportFault code (some b) (some c.docket) (freeFetch k s) = v
  have bays : v.bay b = s.bay b := by rw [← reported]; exact State.bay_congr (by simp [freeFetch]) b
  have burn' : v.burnOf b = some c := (burnOf_eq_some_iff ..).mpr (by rw [bays]; exact channel)
  have frame : v.dockets = s.dockets ∧ v.jobs = s.jobs ∧ v.faults = s.faults.after code (some b) (some c.docket) s.tower.time
      ∧ v.engine.slots = (freeFetch k s).engine.slots ∧ s.sameHost v ∧ s.samePlant v := by
    subst reported
    refine ⟨by simp [freeFetch], by simp [freeFetch], ?_, reportFault_slots .., by simp [State.sameHost, freeFetch], by simp [State.samePlant, freeFetch]⟩
    rw [reportFault_faults]
    rfl
  have plain : fetchFails code k s = requesterFails f v := by
    rw [fetchFails_of_live held live, ← reported]
    rcases line with h | h | h <;> simp [h, lineBay, docket]
  obtain ⟨dockets, jobs, faults, slots, host, plant⟩ := frame
  have fails (w : State) (c' : Burn) (channel : (w.bay b).channel = .burn c') :
      requesterFails.burnFails b w = failJob c'.docket .hostRead w := by
    simp [requesterFails.burnFails, channel]
  have alone : (∀ g, f.line = .compare b → f.target = .compare g → False) → requesterFails f v = failJob c.docket .hostRead v →
      ∃ w, fetchFails code k s = failJob c.docket .hostRead w ∧ w.dockets = s.dockets ∧ w.jobs = s.jobs
      ∧ w.faults = s.faults.after code (some b) (some c.docket) s.tower.time ∧ w.engine.slots = (freeFetch k s).engine.slots
      ∧ s.sameHost w ∧ s.samePlant w
      ∧ ∀ g, f.line = .compare b → f.target = .compare g → ∀ c', w.burnOf b = some c' → ∀ e ∈ c'.compares, e.group ≠ g :=
    fun other is => ⟨v, plain.trans is, dockets, jobs, faults, slots, host, plant, fun g h h' => (other g h h').elim⟩
  have channel' := (burnOf_eq_some_iff ..).mp burn'
  rcases line with line | line | line
  · exact alone (fun g h => by rw [line] at h; cases h) (by rw [requesterFails, line]; exact fails v c channel')
  · exact alone (fun g h => by rw [line] at h; cases h) (by rw [requesterFails, line]; exact fails v c channel')
  · have is : requesterFails f v = requesterFails.burnFails b (endCompare b f.target v) := by rw [requesterFails, line]
    by_cases compares : ∃ g, f.target = .compare g
    · obtain ⟨g, target⟩ := compares
      let c1 : Burn := { c with compares := c.compares.filter fun e => e.group != g }
      have ended : endCompare b f.target v = setChannel b (.burn c1) v := by simp [endCompare, target, burn', c1]
      have self : ((setChannel b (.burn c1) v).bay b).channel = .burn c1 := by rw [setChannel_bay, if_pos rfl]
      refine ⟨setChannel b (.burn c1) v, ?_, dockets, jobs, faults, slots, host, plant, fun g' _ h' c' burn1 e mem => ?_⟩
      · rw [plain, is, ended, fails _ c1 self]
      · cases target.symm.trans h'
        cases ((burnOf_eq_some_iff ..).mp burn1).symm.trans self
        simpa using (List.mem_filter.mp mem).2
    · have ended : endCompare b f.target v = v := by
        unfold endCompare
        split
        · next g _ _ _ => exact absurd ⟨g, by assumption⟩ compares
        · rfl
      exact alone (fun g _ h' => compares ⟨g, h'⟩) (by rw [is, ended]; exact fails v c channel')

end Ends

/-! ### The burn streamer (R107 to R112) -/

section Streams

variable {b : BayNo} {c : Burn} {r : Docket} {j : Job}

theorem pageOf_isSome_iff (g : Nat) (l : List Page) : (pageOf g l).isSome = true ↔ ∃ p ∈ l, p.group = g := by
  simp [pageOf, List.find?_isSome]

/-- What `cutPiece` does with a current extent. -/
theorem cutPiece_eq (works : s.burnJob b = some (c, j)) (live : c.live = true) {e : Extent} (cur : c.cur = some e) :
    cutPiece b s = if c.cutGroup < c.groups ∧ (s.bay b).image = none then
        if c.extOffset = e.bytes then
          if c.extIndex + 1 = j.extentCount then some (failJob c.docket .extentMismatch s) else none
        else if (pageOf c.cutGroup c.pages).isSome then
          if c.mismatch e j (c.pieceAt e j.totalSectors) then some (failJob c.docket .extentMismatch s)
          else some (present (.image b) (e.addr + c.extOffset) (c.pieceAt e j.totalSectors) (.image c.cutGroup c.cutBytes)
            (setChannel b (.burn (c.cutBy (c.pieceAt e j.totalSectors) j.totalSectors)) s))
        else none
      else none := by
  simp [cutPiece, works, live, cur]

theorem cutPiece_of_idle (works : s.burnJob b = some (c, j)) (idle : (s.bay b).image ≠ none ∨ c.groups ≤ c.cutGroup) :
    cutPiece b s = none := by
  unfold cutPiece
  rw [works]
  dsimp only
  split
  · rfl
  · exact if_neg fun ⟨_, more, free⟩ => idle.elim (fun taken => taken free) (by omega)

/-- The extents do not cover the image (R110), as `mismatch` tests it. -/
theorem mismatch_iff (c : Burn) (e : Extent) (j : Job) (n : Nat) : c.mismatch e j n = true ↔
    ((c.extOffset + n = e.bytes ∧ c.extIndex + 1 = j.extentCount) ∧ ¬ c.cutBytes + n = groupBytes j.totalSectors c.cutGroup)
    ∨ (c.cutBytes + n = groupBytes j.totalSectors c.cutGroup ∧ c.cutGroup + 1 = c.groups
      ∧ ¬ (c.extOffset + n = e.bytes ∧ c.extIndex + 1 = j.extentCount)) := by
  simp [Burn.mismatch, and_assoc, not_and_or, -not_and]

theorem cutBy_eq (c : Burn) (n sectors : Nat) : c.cutBy n sectors = { c with
    extOffset := c.extOffset + n
    cutGroup := if c.cutBytes + n = groupBytes sectors c.cutGroup then c.cutGroup + 1 else c.cutGroup
    cutBytes := if c.cutBytes + n = groupBytes sectors c.cutGroup then 0 else c.cutBytes + n } := by
  unfold Burn.cutBy
  split <;> rfl

theorem present_image_eq (b : BayNo) (addr len : Nat) (target : Target) (ch : Channel) (s : State) :
    present (.image b) addr len target (setChannel b ch s) = s.setBay b { s.bay b with
      image := some { addr := addr, len := len, target := target, stamp := s.event, aged := false, ageTimer := none }
      channel := ch } := by
  simp only [present, setLine, setChannel, State.bay_setBay, if_true, lineAges]
  simp [State.setBay]

theorem present_extent_eq (b : BayNo) (addr len : Nat) (target : Target) (ch : Channel) (s : State) :
    present (.extent b) addr len target (setChannel b ch s) = s.setBay b { s.bay b with
      extent := some { addr := addr, len := len, target := target, stamp := s.event, aged := false, ageTimer := some 100 }
      channel := ch } := by
  simp only [present, setLine, setChannel, State.bay_setBay, if_true, lineAges]
  simp [State.setBay]

theorem presentExtent_eq (works : s.burnJob b = some (c, j)) (live : c.live = true) (free : (s.bay b).extent = none) :
    presentExtent b s = match nextPiece c.extReads with
      | some (i, addr, len, off) =>
        some (present (.extent b) addr len (.extent i off) (setChannel b (.burn { c with extReads := advanceRead i len c.extReads }) s))
      | none =>
        if c.extAsk ≤ c.extIndex + 1 ∧ c.extAsk < j.extentCount then
          some (setChannel b (.burn { c with
            extReads := c.extReads ++ [(c.extAsk, Reading.start (j.extentTable + 16 * c.extAsk) 16)]
            extAsk := c.extAsk + 1 }) s)
        else none := by
  unfold presentExtent
  rw [works]
  exact if_pos ⟨live, free⟩

theorem presentExtent_of_taken (works : s.burnJob b = some (c, j)) (taken : (s.bay b).extent ≠ none) : presentExtent b s = none := by
  unfold presentExtent
  rw [works]
  exact if_neg fun h => taken h.2

theorem presentExtent_of_piece (works : s.burnJob b = some (c, j)) (live : c.live = true) (free : (s.bay b).extent = none)
    {before after : List (Nat × Reading)} {i : Nat} {rd : Reading} (reads : c.extReads = before ++ (i, rd) :: after)
    (done : ∀ x ∈ before, x.2.len ≤ x.2.cut) (left : rd.cut < rd.len) : presentExtent b s =
      let n := pieceLen (rd.base + rd.cut) (rd.len - rd.cut)
      some (s.setBay b { s.bay b with
        extent := some { addr := rd.base + rd.cut, len := n, target := .extent i rd.cut, stamp := s.event, aged := false
                         ageTimer := some 100 }
        channel := .burn { c with
          extReads := c.extReads.map fun x => if x.1 = i then (x.1, { x.2 with cut := x.2.cut + n }) else x } }) := by
  have advanced (n : Nat) : advanceRead i n c.extReads
      = c.extReads.map fun x => if x.1 = i then (x.1, { x.2 with cut := x.2.cut + n }) else x := by
    simp [advanceRead, Reading.advance]
  rw [presentExtent_eq works live free, reads, nextPiece_of_first done left, ← reads]
  dsimp only
  rw [present_extent_eq, advanced]

theorem presentExtent_of_none (works : s.burnJob b = some (c, j)) (live : c.live = true) (free : (s.bay b).extent = none)
    (done : ∀ x ∈ c.extReads, x.2.len ≤ x.2.cut) : presentExtent b s =
      if c.extAsk ≤ c.extIndex + 1 ∧ c.extAsk < j.extentCount then
        some (setChannel b (.burn { c with
          extReads := c.extReads ++ [(c.extAsk, Reading.start (j.extentTable + 16 * c.extAsk) 16)]
          extAsk := c.extAsk + 1 }) s)
      else none := by
  rw [presentExtent_eq works live free, (nextPiece_eq_none_iff _).mpr done]

theorem completable_eq {p : Page} (live : c.live = true) (page : pageOf c.complete c.pages = some p) (j : Job) : c.completable j =
    if c.complete < c.groups ∧ c.held = [] ∧ c.compares.length < 8 ∧ (piecesData p.got).length = groupBytes j.totalSectors c.complete
    then some (crc32 (piecesData p.got)) else none := by
  have length : piecesLength p.got = (piecesData p.got).length := by simp [piecesLength, piecesData, List.length_flatMap]
  unfold Burn.completable
  rw [page]
  dsimp only
  rw [length, live]
  by_cases may : c.complete < c.groups ∧ c.held = [] ∧ c.compares.length < 8
  · simp [may]
  · rw [if_neg (by simpa [and_assoc] using may), if_neg (by tauto)]

end Streams

/-! ### The staging pool (R91, R92) -/

theorem pageTaker_eq_some {b : BayNo} {before after : List BayNo} (waits : s.pageWaiters = before ++ b :: after)
    (can : s.canTakePage b = true)
    (first : (s.holding b < 2 ∧ ∀ x ∈ before, s.holding x < 2 → s.canTakePage x = false)
      ∨ (2 ≤ s.holding b ∧ (∀ x ∈ s.pageWaiters, s.holding x < 2 → s.canTakePage x = false) ∧ ∀ x ∈ before, s.canTakePage x = false)) :
    s.pageTaker = some b := by
  unfold State.pageTaker
  obtain ⟨few, ahead⟩ | ⟨many, none_few, ahead⟩ := first
  · have found : s.pageWaiters.find? (fun b => decide (s.holding b < 2) && s.canTakePage b) = some b := by
      rw [List.find?_eq_some_iff_append]
      refine ⟨by simp [few, can], before, after, waits, fun x mem => ?_⟩
      by_cases h : s.holding x < 2
      · simp [ahead x mem h]
      · simp [h]
    rw [found]
  · have absent : s.pageWaiters.find? (fun b => decide (s.holding b < 2) && s.canTakePage b) = none := by
      rw [List.find?_eq_none]
      intro x mem
      by_cases h : s.holding x < 2
      · simp [none_few x mem h]
      · simp [h]
    rw [absent]
    dsimp only
    rw [List.find?_eq_some_iff_append]
    exact ⟨by simp [many, can], before, after, waits, fun x mem => by simp [ahead x mem]⟩

theorem pageTaker_eq_none (none_can : ∀ b ∈ s.pageWaiters, s.canTakePage b = false) : s.pageTaker = none := by
  have absent (p : BayNo → Bool) : s.pageWaiters.find? (fun b => p b && s.canTakePage b) = none := by
    rw [List.find?_eq_none]
    intro x mem
    simp [none_can x mem]
  unfold State.pageTaker
  rw [absent]
  exact absent _

theorem canTakePage_iff (b : BayNo) (s : State) : s.canTakePage b = true ↔ (s.holding b < 2 ∧ 1 ≤ s.reservedFree)
    ∨ (2 ≤ s.holding b ∧ s.holding b < 8 ∧ 1 ≤ s.freePages - s.reservedFree) := by
  unfold State.canTakePage State.commonFree
  split
  · next few => simp [few]
  · next many => simp [many]; omega

theorem unusedReserve_eq (b : BayNo) (s : State) :
    s.unusedReserve b = if (s.bay b).channel = .closed then 0 else 2 - (s.bay b).channel.pages.length := by
  unfold State.unusedReserve State.holding
  cases (s.bay b).channel <;> simp [Channel.isOpen]

theorem ageLine_of_ageless {id : LineId} (ageless : lineAges id = false) : ageLine id s = s := by
  unfold ageLine
  split
  · rw [ageless]; rfl
  · rfl

/-! ### Deliveries -/

section Deliveries

variable {k : FetchNo} {f : Fetch} {data : List Byte} {b : BayNo}

theorem arriveCompare_of_listed {c : Burn} {g : Nat} {e : Compare} (burn : s.burnOf b = some c)
    (listed : c.compares.find? (fun x => x.group == g) = some e) (data : List Byte) : arriveCompare b g data s =
      let left := setChannel b (.burn { c with compares := c.compares.filter fun x => x.group != g }) s
      if BitVec.ofNat 32 (fromLe data) = e.crc then left else failJob c.docket .sourceChanged left := by
  simp [arriveCompare, burn, listed]

theorem fromLe_lt (l : List Byte) : fromLe l < 256 ^ l.length := by
  induction l with
  | nil => simp [fromLe]
  | cons x rest ih =>
    have bound : x.toNat < 256 := x.isLt
    simp only [fromLe, List.length_cons, Nat.pow_succ]
    omega

/-- The CRC fetched is the compare's own. -/
theorem crc_fetched_iff (data : List Byte) (whole : data.length = 4) (crc : BitVec 32) :
    BitVec.ofNat 32 (fromLe data) = crc ↔ field data 0 4 = crc.toNat := by
  have bound : fromLe data < 2 ^ 32 := by
    have lt := fromLe_lt data
    rwa [whole] at lt
  have here : field data 0 4 = fromLe data := by
    rw [field, List.drop_zero, List.take_of_length_le (by omega)]
  rw [here, ← BitVec.toNat_inj, BitVec.toNat_ofNat, Nat.mod_eq_of_lt bound]

theorem arriveExtent_eq {c : Burn} {i off : Nat} {rd : Reading} (burn : s.burnOf b = some c)
    (reads : c.extReads.find? (fun x => x.1 == i) = some (i, rd)) (data : List Byte) :
    let placed : Burn := { c with extReads := c.extReads.map fun x => if x.1 = i then (x.1, x.2.place off data) else x }
    arriveExtent b i off data s = ((rd.place off data).data.elim (setChannel b (.burn placed) s)
      fun record => takeExtent b placed i record (setChannel b (.burn placed) s)) := by
  have whole := wholeRead_placeRead i off data c.extReads
  rw [reads] at whole
  intro placed
  have is : { c with extReads := placeRead i off data c.extReads } = placed := by rw [placeRead_eq]
  unfold arriveExtent
  rw [burn]
  dsimp only
  rw [is, show wholeRead i (placeRead i off data c.extReads) = (rd.place off data).data from whole]
  cases (rd.place off data).data <;> rfl

end Deliveries

section Failures

variable {k : FetchNo} {f : Fetch} {b : BayNo} {r : Docket}

theorem FaultRecord.after_of_clean {g : FaultRecord} (clean : g.first = none) (code : FaultCode) (bay : Option BayNo) (docket : Option DocketNo)
    (time : Nat) : (g.after code bay docket time).first = some { code := code, bay := bay, docket := docket, time := time } := by
  rw [FaultRecord.after_of_none clean]

/-- A failed fetch of a burn channel fails its job with HOST_READ (R104). -/
theorem burnFetch_fails (held : s.fetch k = some f) (live : f.orphan = false)
    (line : f.line = .image b ∨ f.line = .extent b ∨ f.line = .compare b) {c : Burn} (burn : s.burnOf b = some c)
    (holds : s.docket c.docket = some r) {j : Job} (job : s.job r.slot = some j) (active : j.state = .active) (causeless : r.cause = .none)
    (first : s.faults.first = none) (code : FaultCode) :
    (fetchFails code k s).faults.first = some { code := code, bay := some b, docket := some c.docket, time := s.tower.time }
    ∧ (fetchFails code k s).fetch k = none ∧ s.sameHost (fetchFails code k s) ∧ s.samePlant (fetchFails code k s)
    ∧ (r.state ≠ .reserved → ∃ r', (fetchFails code k s).docket c.docket = some r' ∧ r'.cause = .hostRead ∧ r'.verdict = some .reject)
    ∧ (∀ g c', f.line = .compare b → f.target = .compare g → (fetchFails code k s).burnOf b = some c' → ∀ e ∈ c'.compares, e.group ≠ g)
    ∧ ∃ j', (fetchFails code k s).job r.slot = some j' ∧ j'.state ≠ .active ∧ j'.outcome = some .failed ∧ j'.failCause = .hostRead := by
  obtain ⟨w, made, dockets, jobs, faults, slots, ⟨pending, tower, regs, board⟩, ⟨sensors, bins, printer⟩, gone⟩ :=
    fetchFails_of_burn held live line burn code
  have holds' : w.docket c.docket = some r := (State.docket_congr dockets _).trans holds
  have job' : w.job r.slot = some j := (State.job_congr jobs _).trans job
  have made' : fetchFails code k s = faulted c.docket r.slot .hostRead w := made.trans (failJob_of_some holds' _)
  have spared := faulted_spares c.docket r.slot .hostRead w
  rw [made']
  refine ⟨spared.first _ ?_, ?_, ?_, ?_, fun state => faulted_docket (c := .hostRead) holds' causeless state (by decide) _, fun g c' line target =>
    spared.compares_gone (gone g line target) c', (faulted_job job' c.docket .hostRead).1 active⟩
  · rw [faults, FaultRecord.after_of_clean first]
  · exact (congrArg (fun v : Vector (Option Fetch) 8 => v.get k) (spared.slots.trans slots)).trans (freeFetch_fetch k s)
  · simp [State.sameHost, faulted, pending, tower, regs, board]
  · simp [State.samePlant, faulted, sensors, bins, printer]

/-- A failed fetch of a verify channel gives its docket HOST_READ (R104). -/
theorem verifyFetch_fails (held : s.fetch k = some f) (live : f.orphan = false) (line : f.line = .compare b) {c : Verify}
    (verify : s.verifyOf b = some c) (reading : c.state = .reading) (holds : s.docket c.docket = some r) (verifying : r.state = .verifying)
    (own : r.bay = b) (causeless : r.cause = .none) (first : s.faults.first = none) (code : FaultCode) :
    (fetchFails code k s).faults.first = some { code := code, bay := some b, docket := some c.docket, time := s.tower.time }
    ∧ (fetchFails code k s).fetch k = none ∧ (fetchFails code k s).jobs = s.jobs ∧ s.sameHost (fetchFails code k s)
    ∧ s.samePlant (fetchFails code k s)
    ∧ (fetchFails code k s).docket c.docket = some { r with cause := .hostRead, verdict := some .reject, verdictTime := some s.tower.time }
    ∧ (fetchFails code k s).verifyOf b = some { c with state := .stopped } := by
  have channel := (verifyOf_eq_some_iff ..).mp verify
  have docket : (s.bay b).channel.docket = some c.docket := by rw [channel]; rfl
  generalize reported : reportFault code (some b) (some c.docket) (freeFetch k s) = v
  have bays : v.bay b = s.bay b := by rw [← reported]; exact State.bay_congr (by simp [freeFetch]) b
  have channel' : (v.bay b).channel = .verify c := by rw [bays]; exact channel
  have holds' : v.docket c.docket = some r := by rw [← reported]; exact (State.docket_congr (by simp [freeFetch]) _).trans holds
  have ended : endCompare b f.target v = v := by
    unfold endCompare State.burnOf
    rw [channel']
    cases f.target <;> rfl
  have made : fetchFails code k s = giveCause true c.docket .hostRead v := by
    rw [fetchFails_of_live held live, line]
    simp only [requesterFails, line, lineBay, Option.bind_some, docket, reported, ended, requesterFails.burnFails, channel']
  have spared := giveCause_spares true c.docket .hostRead v
  have now : v.tower.time = s.tower.time := by rw [← reported]; simp [freeFetch]
  rw [made]
  refine ⟨spared.first _ ?_, ?_, ?_, ?_, ?_, ?_, ?_⟩
  · rw [← reported, reportFault_faults]
    exact FaultRecord.after_of_clean first ..
  · refine (congrArg (fun v : Vector (Option Fetch) 8 => v.get k) spared.slots).trans ?_
    rw [← reported, reportFault_slots]
    exact freeFetch_fetch k s
  · simp [← reported, freeFetch]
  · simp [State.sameHost, ← reported, freeFetch]
  · simp [State.samePlant, ← reported, freeFetch]
  · rw [giveCause_docket, if_pos rfl, holds', Option.map_some, Docket.giveCause, if_pos causeless, now]
  · rw [verifyOf_eq_some_iff, giveCause_of_verifying holds' verifying own causeless channel' reading, if_pos rfl]

end Failures

/-- Settles O53. -/
theorem fetchesBurnsAndPages : Obligations.FetchesBurnsAndPages := by
  refine ⟨fun k data s free => ?_, fun k data f s held => ?_, fun s => ?_, fun b c r j s burn holds job state => ?_, fun s => ?_⟩
  · have ends : fetchEnds k data s = s := by simp [fetchEnds, free]
    have fails (code : FaultCode) : fetchFails code k s = s := by simp [fetchFails, free]
    exact ⟨congrArg (fun u => Host.Outcome.next (conclude u)) ends, congrArg (fun u => Host.Outcome.next (conclude u)) (fails _),
      congrArg (fun u => Host.Outcome.next (conclude u)) (fails _)⟩
  · intro freed fails
    have runs {v : State} (is : fetchEnds k data s = v) : exec (.fetchComplete k data) s = .next (conclude v) := by rw [← is]; rfl
    have fail {t u : State} (is : fetchFails .readError k s = t) (is' : fetchFails .readTimeout k s = u) : fails t u := by
      subst is is'; exact ⟨rfl, rfl⟩
    refine ⟨fun orphan whole => ⟨runs (fetchEnds_of_orphan held whole orphan), fail (fetchFails_of_orphan held orphan _)
      (fetchFails_of_orphan held orphan _)⟩, fun b g off c live whole line target burn => ?_, fun wrong => runs (fetchEnds_of_wrong held wrong),
      fun live whole => ?_, fun b c r j live line burn holds job active causeless first => ?_,
      fun b c r live line verify reading holds verifying own causeless first => ?_, fun live line => ?_, fun live line stale => ?_,
      fun live line fresh => ?_⟩
    · have burn' : (freeFetch k s).burnOf b = some c := burn
      refine ⟨setChannel b (.burn (c.placeImage g off data)) (freeFetch k s), runs ?_, freeFetch_fetch k s, ?_, ⟨rfl, rfl, rfl, rfl⟩,
        ⟨rfl, rfl⟩, ⟨rfl, rfl, rfl⟩, rfl, rfl, fun x other => ?_⟩
      · rw [fetchEnds_of_live held whole live]
        simp only [deliver, line, target, arriveImage, burn']
      · rw [burnOf_eq_some_iff, setChannel_bay, if_pos rfl]
        rfl
      · rw [setChannel_bay, if_neg other]
        rfl
    · have ends := fetchEnds_of_live held whole live
      refine ⟨fun b g c e line target four burn listed => ?_, fun b i off c rd line target burn reads => ?_,
        fun b n off line target => runs (by rw [ends]; simp only [deliver, line, target]; rfl),
        fun part off line target => ⟨fun stale => runs (by rw [ends]; simp only [deliver, line, target, stale]; rfl),
          fun fresh => runs (by rw [ends]; simp only [deliver, line, target, fresh]; rfl)⟩, fun off sc rd line target scan => ?_⟩
      · intro left
        have burn' : (freeFetch k s).burnOf b = some c := burn
        have delivered : fetchEnds k data s
            = if BitVec.ofNat 32 (fromLe data) = e.crc then left else failJob c.docket .sourceChanged left := by
          rw [ends]
          simp only [deliver, line, target]
          exact arriveCompare_of_listed burn' listed data
        have crc := crc_fetched_iff data (whole.trans four) e.crc
        refine ⟨fun same => runs (delivered.trans (if_pos (crc.mpr same))), fun differs r j holds job => ?_⟩
        have burnLeft (c' : Burn) (is : left.burnOf b = some c') : ∀ x ∈ c'.compares, x.group ≠ g := by
          have self : (left.bay b).channel = .burn { c with compares := c.compares.filter fun x => x.group != g } := by
            rw [State.bay_setBay, if_pos rfl]
          cases ((burnOf_eq_some_iff ..).mp is).symm.trans self
          intro x mem
          simpa using (List.mem_filter.mp mem).2
        have made : failJob c.docket .sourceChanged left = faulted c.docket r.slot .sourceChanged left := failJob_of_some (s := left) holds _
        have spared := faulted_spares c.docket r.slot .sourceChanged left
        refine ⟨faulted c.docket r.slot .sourceChanged left, runs ((delivered.trans (if_neg (mt crc.mp differs))).trans made), rfl,
          spared.compares_gone burnLeft, fun causeless state => faulted_docket (s := left) (c := .sourceChanged) holds causeless state (by decide) r.slot,
          fun causeless burning own unasked live => ?_, (faulted_job (s := left) job c.docket .sourceChanged).1,
          (faulted_job (s := left) job c.docket .sourceChanged).2⟩
        have asked := (giveCause_burning_bay (s := left) holds burning own causeless .sourceChanged
          ((setBay_hasReq (s := freeFetch k s) (by rfl) b .halt).trans unasked) (by rw [State.bay_setBay, if_pos rfl]; exact live)).2.1
        exact ((stopJob_spares ..).bays b).1 asked
      · intro placed held_
        have delivered : fetchEnds k data s = (rd.place off data).data.elim held_ fun record => takeExtent b placed i record held_ := by
          rw [ends]
          simp only [deliver, line, target]
          exact arriveExtent_eq (s := freeFetch k s) burn reads data
        exact ⟨fun part => runs (by rw [delivered, part]; rfl), fun record all => runs (by rw [delivered, all]; rfl)⟩
      · have scan' : (freeFetch k s).board.scan = some sc := scan
        have delivered : fetchEnds k data s = arriveBoard off data (freeFetch k s) := by
          rw [ends]
          simp only [deliver, line, target]
        refine ⟨fun phase part => runs ?_, fun bytes phase all => runs ?_, fun phase => runs ?_⟩
        · rw [delivered]
          simp only [arriveBoard, scan', phase, part]
          rfl
        · rw [delivered]
          simp only [arriveBoard, scan', phase, all]
          rfl
        · rw [delivered]
          simp only [arriveBoard, scan', phase]
          rfl
    · intro rejected
      have reject (code : FaultCode) : rejected (fetchFails code k s) code :=
        burnFetch_fails held live line burn holds job active causeless first code
      exact ⟨_, _, ⟨rfl, rfl⟩, reject _, reject _⟩
    · intro rejected
      have reject (code : FaultCode) : rejected (fetchFails code k s) code :=
        verifyFetch_fails held live line verify reading holds verifying own causeless first code
      exact ⟨_, _, ⟨rfl, rfl⟩, reject _, reject _⟩
    · exact fail (by rw [fetchFails_of_live held live, line]; simp only [requesterFails, line]; rfl)
        (by rw [fetchFails_of_live held live, line]; simp only [requesterFails, line]; rfl)
    · exact fail (by rw [fetchFails_of_live held live, line]; simp only [requesterFails, line, stale]; rfl)
        (by rw [fetchFails_of_live held live, line]; simp only [requesterFails, line, stale]; rfl)
    · exact fail (by rw [fetchFails_of_live held live, line]; simp only [requesterFails, line, fresh]; rfl)
        (by rw [fetchFails_of_live held live, line]; simp only [requesterFails, line, fresh]; rfl)
  · refine ⟨fun q asked => ⟨_, ?_, rfl, rfl⟩, fun b q asked => ⟨_, ?_, rfl, rfl⟩, fun b => ⟨?_, ?_⟩, ?_, fun id absent => ?_⟩
    · exact congrArg (fun u => Host.Outcome.next (conclude u)) (by simp only [ageLine, asked]; rfl : ageLine .board s = _)
    · exact congrArg (fun u => Host.Outcome.next (conclude u)) (by simp only [ageLine, asked]; rfl : ageLine (.extent b) s = _)
    · exact congrArg (fun u => Host.Outcome.next (conclude u)) (ageLine_of_ageless rfl)
    · exact congrArg (fun u => Host.Outcome.next (conclude u)) (ageLine_of_ageless rfl)
    · exact congrArg (fun u => Host.Outcome.next (conclude u)) (ageLine_of_ageless rfl)
    · exact congrArg (fun u => Host.Outcome.next (conclude u)) (by simp only [ageLine, absent] : ageLine id s = _)
  · have works := burnJob_eq burn holds job
    have live := (live_iff c).mpr state
    intro bytes mismatch
    have misses : failJob c.docket .extentMismatch s = mismatch := failJob_of_some holds _
    refine ⟨fun e cur more free => ?_, cutPiece_of_idle works, presentExtent_of_taken works,
      fun before i rd after free reads done left => presentExtent_of_piece works live free reads done left, fun free done => ?_,
      fun e x cur next atEnd => ?_, fun i record => ?_, fun p found => ?_⟩
    · intro atEnd n lastPiece endsThere page
      have cut := cutPiece_eq works live cur
      rw [if_pos ⟨more, free⟩, misses] at cut
      have piece : c.pieceAt e j.totalSectors = n := rfl
      refine ⟨fun is last => ?_, fun is not => ?_, fun no absent => ?_, fun no is either => ?_, fun no is neither => ?_⟩
      · exact cut.trans ((if_pos is).trans (if_pos last))
      · exact cut.trans ((if_pos is).trans (if_neg not))
      · exact cut.trans ((if_neg no).trans (if_neg fun some_ => absent ((pageOf_isSome_iff ..).mp some_)))
      · exact cut.trans ((if_neg no).trans ((if_pos ((pageOf_isSome_iff ..).mpr is)).trans (if_pos ((mismatch_iff ..).mpr either))))
      · refine cut.trans ((if_neg no).trans ((if_pos ((pageOf_isSome_iff ..).mpr is)).trans
          ((if_neg fun h => neither ((mismatch_iff ..).mp h)).trans ?_)))
        rw [present_image_eq, cutBy_eq]
        rfl
    · intro asks
      rw [presentExtent_of_none works live free done]
      exact ⟨fun may => if_pos may, fun not => if_neg not⟩
    · simp only [advanceExtent, burn, cur, next, live]
      exact if_pos ⟨trivial, atEnd⟩
    · intro e taken
      have tests : takeExtent b c i record s = if e.addr % 4 ≠ 0 ∨ e.sectors = 0 then
            failJob c.docket .extentMismatch (setChannel b (.burn taken) s)
          else if i = 0 then setChannel b (.burn { taken with cur := some e }) s
          else setChannel b (.burn { taken with nxt := some e }) s := if_pos live
      refine ⟨fun bad => ?_, fun aligned some_ zero => ?_, fun aligned some_ later => ?_⟩
      · rw [tests, if_pos bad]
        exact failJob_of_some (s := setChannel b (.burn taken) s) holds _
      · rw [tests, if_neg (not_or.mpr ⟨not_not.mpr aligned, some_⟩), if_pos zero]
        rfl
      · rw [tests, if_neg (not_or.mpr ⟨not_not.mpr aligned, some_⟩), if_neg later]
        rfl
    · intro data may
      have complete := completable_eq live found j
      have step : completeGroup b s = (c.completable j).map fun crc =>
          signatureAction b r.slot j c.complete crc (setChannel b (.burn c.completed) s) := by
        simp only [completeGroup, works, holds]
        cases c.completable j <;> rfl
      have done : may → c.completable j = some (crc32 data) := fun is => complete.trans (if_pos is)
      have stays : ¬ may → c.completable j = none := fun not => complete.trans (if_neg not)
      exact ⟨fun is => by rw [step, done is]; rfl, fun not => by rw [step, stays not]; rfl⟩
  · intro free need
    have reserved : s.reservedFree = min free need := by
      unfold State.reservedFree
      rw [show s.unusedReserve = _ from funext fun b => unusedReserve_eq b s]
      rfl
    refine ⟨fun b => (canTakePage_iff b s).trans (by rw [reserved]; rfl), fun none_can => ?_,
      fun b before after waits fresh can first => ?_⟩
    · simp only [offerPage, pageTaker_eq_none none_can]
    · intro s1
      have taker := pageTaker_eq_some waits can first
      refine ⟨fun c burn => ?_, fun c g verify wants => ?_⟩
      · simp only [offerPage, taker, (burnOf_eq_some_iff ..).mp burn]
        rfl
      · obtain ⟨others, is, self⟩ := takeRead_spec (b := b) wants s1
        refine ⟨takeRead b c s1, ?_, others, is, self⟩
        simp only [offerPage, taker, (verifyOf_eq_some_iff ..).mp verify]
        rfl

end Sys2Proof.Machine
end

section
/-! PROOFS. The report of a disc, the counts of a landing, the stopping of a job and the treatment of its dockets (O39). -/

namespace Sys2Proof.Machine

variable {s t u : State}

/-! ### The report (R14, R183) -/

theorem reportTime_eq (picked t : Option Nat) : reportTime picked t = le 4 (t.elim 0 fun x => min (x - picked.getD 0) (2 ^ 32 - 1)) := by
  unfold reportTime heldTo
  cases t <;> rfl

theorem reportPrint_length (p : Option PrintCounters) : (reportPrint p).length = 14 := by
  simp [reportPrint, zeros_eq_le]

/-- The first bytes of a report, with the codes of its bins. -/
def Docket.reportHead (d : Docket) (bin out : Nat) : List Byte :=
  le 4 d.ticket ++ (le 2 (d.ordinal.getD 0) ++ (le 1 d.outcomeCode ++ (le 1 d.cause.code
    ++ (le 1 bin
    ++ (le 1 d.bay.val ++ (le 1 d.logical.val
    ++ (le 1 ((d.place.map Place.code).getD 0)
    ++ (le 1 out
    ++ (le 1 (d.print.isSome.toNat + 2 * d.burnStart.isSome.toNat + 4 * d.burnEnd.isSome.toNat
        + 8 * d.verdictTime.isSome.toNat + 16 * d.landed.isSome.toNat)
    ++ (le 2 (heldTo 65535 d.groupsWritten) ++ (le 1 (heldTo 255 d.links) ++ le 1 (heldTo 255 d.rereads))))))))))))

/-- The last bytes of a report. -/
def Docket.reportTail (d : Docket) : List Byte :=
  le 8 (d.picked.getD 0) ++ (reportTime d.picked d.burnStart ++ (reportTime d.picked d.burnEnd
    ++ (reportTime d.picked d.verdictTime ++ (reportTime d.picked d.landed ++ le 8 0))))

/-- A report by its three parts, the codes of the bins in the first. -/
theorem report_eq (d : Docket) : ∃ bin out, d.report = d.reportHead bin out ++ (reportPrint d.print ++ d.reportTail)
    ∧ bin = (match d.inputBin with | .a => 0 | .b => 1) ∧ out = (match d.outputBin with | none => 0 | some .good => 1 | some .reject => 2) := by
  refine ⟨?bin, ?out, ?parts, ?isBin, ?isOut⟩
  case parts =>
    unfold Docket.report
    rw [zeros_eq_le, Docket.reportHead, Docket.reportTail]
    simp only [List.append_assoc]
    rfl
  case isBin => rfl
  case isOut => rfl

theorem reportHead_length (d : Docket) (bin out : Nat) : (d.reportHead bin out).length = 18 := by
  simp only [Docket.reportHead, List.length_append, le_length]

/-- What stands in the first part of a report stands in the report. -/
theorem report_head (d : Docket) : ∃ bin out, (∀ off len, off + len ≤ 18 → field d.report off len = field (d.reportHead bin out) off len)
    ∧ bin = (match d.inputBin with | .a => 0 | .b => 1) ∧ out = (match d.outputBin with | none => 0 | some .good => 1 | some .reject => 2) := by
  obtain ⟨bin, out, parts, isBin, isOut⟩ := report_eq d
  exact ⟨bin, out, fun off len within => by rw [parts, field_within (by rw [reportHead_length]; exact within)], isBin, isOut⟩

theorem report_print (d : Docket) {off len : Nat} (past : 18 ≤ off) (within : off + len ≤ 32) :
    field d.report off len = field (reportPrint d.print) (off - 18) len := by
  obtain ⟨bin, out, parts, -⟩ := report_eq d
  rw [parts, field_after (by rw [reportHead_length]; exact past), reportHead_length,
    field_within (by rw [reportPrint_length]; omega)]

theorem report_tail (d : Docket) {off : Nat} (past : 32 ≤ off) (len : Nat) :
    field d.report off len = field d.reportTail (off - 32) len := by
  obtain ⟨bin, out, parts, -⟩ := report_eq d
  rw [parts, field_after (by rw [reportHead_length]; omega), reportHead_length,
    field_after (by rw [reportPrint_length]; omega), reportPrint_length, Nat.sub_sub]

/-- The fields of a report. -/
theorem report_fields (d : Docket) : d.report.length = 64
    ∧ field d.report 0 4 = d.ticket % 2 ^ 32 ∧ field d.report 4 2 = d.ordinal.getD 0 % 2 ^ 16
    ∧ field d.report 6 1 = (match d.outputBin with | some .good => 0 | some .reject => 1 | none => 2)
    ∧ field d.report 7 1 = d.cause.code ∧ field d.report 8 1 = (match d.inputBin with | .a => 0 | .b => 1)
    ∧ field d.report 9 1 = d.bay.val ∧ field d.report 10 1 = d.logical.val
    ∧ (∀ p, d.place = some p → field d.report 11 1 = p.code)
    ∧ field d.report 12 1 = (match d.outputBin with | none => 0 | some .good => 1 | some .reject => 2)
    ∧ field d.report 13 1 = (if d.print = none then 0 else 1) + (if d.burnStart = none then 0 else 2)
        + (if d.burnEnd = none then 0 else 4) + (if d.verdictTime = none then 0 else 8) + (if d.landed = none then 0 else 16)
    ∧ field d.report 14 2 = min d.groupsWritten 65535 ∧ field d.report 16 1 = min d.links 255
    ∧ field d.report 17 1 = min d.rereads 255 := by
  have cause : d.cause.code < 256 := by cases d.cause <;> decide
  have bay : d.bay.val < 256 := by have := d.bay.isLt; omega
  have logical : d.logical.val < 256 := by have := d.logical.isLt; omega
  have place (p : Place) : p.code < 256 := by cases p <;> decide
  have groups : min d.groupsWritten 65535 < 65536 := by omega
  have links : min d.links 255 < 256 := by omega
  have rereads : min d.rereads 255 < 256 := by omega
  obtain ⟨bin, out, head, isBin, isOut⟩ := report_head d
  have small : bin < 256 ∧ out < 256 := by
    subst isBin isOut
    exact ⟨by split <;> decide, by split <;> decide⟩
  rw [← isBin, ← isOut]
  refine ⟨?_, ?_, ?_, ?_, ?_, ?_, ?_, ?_, fun p at_ => ?_, ?_, ?_, ?_, ?_, ?_⟩
  · obtain ⟨bin, out, parts, -⟩ := report_eq d
    rw [parts, List.length_append, List.length_append, reportHead_length, reportPrint_length]
    simp [Docket.reportTail, reportTime_eq]
  all_goals rw [head _ _ (by decide)]; unfold Docket.reportHead heldTo
  · simp [field_here]
  · simp [field_skip, field_here]
  · cases o : d.outputBin with
    | none => simp [field_skip, field_here, Docket.outcomeCode, o]
    | some o' => cases o' <;> simp [field_skip, field_here, Docket.outcomeCode, o]
  · simp [field_skip, field_here, Nat.mod_eq_of_lt cause]
  · simp [field_skip, field_here, Nat.mod_eq_of_lt small.1]
  · simp [field_skip, field_here, Nat.mod_eq_of_lt bay]
  · simp [field_skip, field_here, Nat.mod_eq_of_lt logical]
  · simp [field_skip, field_here, at_, Nat.mod_eq_of_lt (place p)]
  · simp [field_skip, field_here, Nat.mod_eq_of_lt small.2]
  · have given {α : Type} (o : Option α) (n : Nat) : (if o = none then 0 else n) = n * o.isSome.toNat := by cases o <;> simp
    have flag {α : Type} (o : Option α) : o.isSome.toNat ≤ 1 := Bool.toNat_le _
    have small : d.print.isSome.toNat + 2 * d.burnStart.isSome.toNat + 4 * d.burnEnd.isSome.toNat
        + 8 * d.verdictTime.isSome.toNat + 16 * d.landed.isSome.toNat < 256 := by
      have := flag d.print
      have := flag d.burnStart
      have := flag d.burnEnd
      have := flag d.verdictTime
      have := flag d.landed
      omega
    rw [given, given, given, given, given]
    simp [field_skip, field_here, Nat.mod_eq_of_lt small]
  · simp [field_skip, field_here, Nat.mod_eq_of_lt groups]
  · simp [field_skip, field_here, Nat.mod_eq_of_lt links]
  · simp [field_skip, field_le, Nat.mod_eq_of_lt rereads]

theorem report_counters (d : Docket) : (∀ c, d.print = some c → field d.report 18 1 = c.slips % 256 ∧ field d.report 20 3 = c.fired % 2 ^ 24
        ∧ field d.report 23 3 = c.crowded % 2 ^ 24 ∧ field d.report 26 3 = c.dropped % 2 ^ 24
        ∧ field d.report 29 3 = c.clipped % 2 ^ 24)
    ∧ (d.print = none → field d.report 18 14 = 0) := by
  refine ⟨fun c counts => ?_, fun unprinted => ?_⟩
  · rw [report_print d (by decide) (by decide), report_print d (by decide) (by decide), report_print d (by decide) (by decide),
      report_print d (by decide) (by decide), report_print d (by decide) (by decide), counts]
    unfold reportPrint
    simp [zeros_eq_le, field_skip, field_here, field_le]
  · rw [report_print d (by decide) (by decide), unprinted]
    decide

theorem report_times (d : Docket) : (∀ p, d.picked = some p → field d.report 32 8 = p % 2 ^ 64
      ∧ (∀ x, d.burnStart = some x → field d.report 40 4 = min (x - p) (2 ^ 32 - 1))
      ∧ (∀ x, d.burnEnd = some x → field d.report 44 4 = min (x - p) (2 ^ 32 - 1))
      ∧ (∀ x, d.verdictTime = some x → field d.report 48 4 = min (x - p) (2 ^ 32 - 1))
      ∧ (∀ x, d.landed = some x → field d.report 52 4 = min (x - p) (2 ^ 32 - 1)))
    ∧ field d.report 56 8 = 0 := by
  have small (n : Nat) : min n (2 ^ 32 - 1) % 256 ^ 4 = min n (2 ^ 32 - 1) := Nat.mod_eq_of_lt (by omega)
  refine ⟨fun p picked => ⟨?_, fun x at_ => ?_, fun x at_ => ?_, fun x at_ => ?_, fun x at_ => ?_⟩, ?_⟩
  all_goals
    rw [report_tail d (by decide)]
    unfold Docket.reportTail
    simp only [reportTime_eq]
  · rw [picked]; exact field_here ..
  · rw [picked, at_, field_skip (by decide), field_here]; exact small _
  · rw [picked, at_, field_skip (by decide), field_skip (by decide), field_here]; exact small _
  · rw [picked, at_, field_skip (by decide), field_skip (by decide), field_skip (by decide), field_here]; exact small _
  · rw [picked, at_, field_skip (by decide), field_skip (by decide), field_skip (by decide), field_skip (by decide), field_here]; exact small _
  · rw [field_skip (by decide), field_skip (by decide), field_skip (by decide), field_skip (by decide), field_skip (by decide)]
    exact field_le ..

end Sys2Proof.Machine
end

section
/-! PROOFS. A job that stops or ends, its dockets, and the end of a RELEASE (O39). -/

namespace Sys2Proof.Machine

variable {s t u : State}

/-! ### The final write of a job (R28, R164) -/

/-- The outcome of a job as its card has it. -/
def Job.outcomeCode (j : Job) : Nat := ((j.outcome.map JobOutcome.card).getD .absent).code

/-- The final write of a job: the result fields, the state FINISHED, the tally, and the freeing of its slot. -/
def Job.finalThread (j : Job) (k : SlotNo) (base : Nat) : Thread := [
  .write { addr := base + 64 + 128 * j.cardIndex.val + 112
           data := .fields (le 1 j.outcomeCode ++ le 1 j.failCause.code ++ [0#8]) (le 2 j.good ++ le 2 j.reject), docket := none },
  .write (plainWrite (base + 64 + 128 * j.cardIndex.val) [3#8]), .tally base, .freeSlot k]

theorem finalWrite_of {k : SlotNo} {j : Job} (held : s.job k = some j) : s.finalWrite k = j.finalThread k s.boardAddr := by
  have finished : le 1 cardFinished = [3#8] := by decide
  have unrefused : le 1 Reason.none.code = [0#8] := by decide
  unfold State.finalWrite
  rw [held]
  unfold finishCard resultWrite resultFields
  rw [finished, unrefused]
  rfl

theorem updJob_of {k : SlotNo} {j : Job} (held : s.job k = some j) (f : Job → Job) : s.updJob k f = s.setJob k (some (f j)) := by
  simp [State.updJob, held]

theorem endJob_of {k : SlotNo} {j : Job} (held : s.job k = some j) :
    endJob k s = if s.board.scan = none then startThread (j.finalThread k s.boardAddr) (s.setJob k (some { j with state := .ended }))
      else s.setJob k (some { j with state := .ended }) := by
  have self : (s.setJob k (some { j with state := .ended })).job k = some { j with state := .ended } := by
    rw [State.job_setJob, if_pos rfl]
  have final : (s.setJob k (some { j with state := .ended })).finalWrite k = j.finalThread k s.boardAddr :=
    (finalWrite_of self).trans rfl
  unfold endJob
  rw [updJob_of held]
  dsimp only
  rw [final]
  change (match s.board.scan with
    | none => _
    | some _ => _) = _
  cases s.board.scan with
  | none => rfl
  | some c => rfl

/-! ### The tests of a landing (R25) -/

theorem endIfStopped_of {k : SlotNo} {j : Job} (held : s.job k = some j) :
    endIfStopped k s = if j.state = .stopping ∧ j.inFlight = 0 then endJob k s else s := by
  simp [endIfStopped, held]

theorem decideLanding_of {k : SlotNo} {j : Job} (held : s.job k = some j) : decideLanding k s =
    if j.state = .active ∧ j.maxRejects < j.reject then stopJob k .failed .jobFailed .jobFailed s
    else if j.state = .active ∧ j.good = j.copies ∧ j.inFlight = 0 then
      endJob k (s.setJob k (some { j with outcome := some .done, failCause := .none }))
    else if j.state = .stopping ∧ j.inFlight = 0 then endJob k s else s := by
  rw [← endIfStopped_of held]
  simp [decideLanding, held]

theorem countDocket_of {d : DocketNo} {r : Docket} {j : Job} (holds : s.docket d = some r) (held : s.job r.slot = some j) :
    countDocket d s = s.setJob r.slot (some (if r.outputBin = some .good
        then { j with inFlight := j.inFlight - 1, good := j.good + 1 }
        else { j with inFlight := j.inFlight - 1, reject := j.reject + 1 })) := by
  have test : (r.outputBin == some .good) = decide (r.outputBin = some .good) := by
    rw [Bool.eq_iff_iff]; simp
  have counts : countDocket d s = s.updJob r.slot fun j => j.countLanding (r.outputBin == some .good) := by simp [countDocket, holds]
  rw [counts, updJob_of held, test]
  simp only [Job.countLanding, decide_eq_true_eq]

theorem writeProgress_of {k : SlotNo} {j : Job} (held : s.job k = some j) : writeProgress k s =
    post (plainWrite (s.boardAddr + 64 + 128 * j.cardIndex.val + 116) (le 2 j.good ++ le 2 j.reject)) s := by
  simp [writeProgress, held, cardAddr]

/-! ### The dockets of a stopping job, in order (R17) -/

theorem mem_docketsOf (k : SlotNo) (d : DocketNo) (s : State) : d ∈ s.docketsOf k ↔ ∃ r, s.docket d = some r ∧ r.slot = k := by
  have all : d ∈ Config.allDockets := by revert d; decide
  simp [State.docketsOf, all]

theorem docketsOf_pairwise (k : SlotNo) (s : State) : (s.docketsOf k).Pairwise (· < ·) :=
  List.Pairwise.filter _ (by decide)

/-! ### The treatment of a docket (R17) -/

/-- What a cause given to a docket brings. -/
theorem giveCause_given (r : Docket) (c : Cause) (now : Nat) : (r.giveCause c now).cause = (if r.cause = .none then c else r.cause)
    ∧ (r.cause = .none → (r.giveCause c now).verdict = some .reject ∧ (r.giveCause c now).verdictTime = some now)
    ∧ (r.giveCause c now).state = r.state ∧ (r.giveCause c now).bay = r.bay := by
  unfold Docket.giveCause
  split <;> simp [*]

theorem dissolve_spec {d : DocketNo} {r : Docket} (holds : s.docket d = some r) : (dissolve d s).docket d = none
    ∧ ∀ j, s.job r.slot = some j → ∃ j', (dissolve d s).job r.slot = some j' ∧ j'.inFlight = j.inFlight - 1 ∧ j'.good = j.good
      ∧ j'.reject = j.reject := by
  rw [dissolve_of_some holds]
  have jobs := (undone_frame d r s).1
  generalize undone d r s = v at jobs
  refine ⟨by simp [forgetDissolved], fun j held => ?_⟩
  have counted : (triggerRound ((v.setDocket d none).updJob r.slot fun job => { job with inFlight := job.inFlight - 1 })).job r.slot
      = some { j with inFlight := j.inFlight - 1 } := by
    rw [triggerRound_job, updJob_job, if_pos rfl, State.job_setDocket, (State.job_congr jobs _).trans held]
    rfl
  rw [forgetDissolved, endIfStopped_of counted]
  split
  · exact ⟨{ j with inFlight := j.inFlight - 1, state := .ended }, by rw [endJob_job, if_pos rfl, counted]; rfl, rfl, rfl, rfl⟩
  · exact ⟨_, counted, rfl, rfl, rfl⟩

theorem beginLeg_keeps (leg : Leg) (s : State) : (beginLeg leg s).transport.errand = s.transport.errand
    ∧ (beginLeg leg s).transport.state = s.transport.state ∧ (beginLeg leg s).transport.queue = s.transport.queue := by
  unfold beginLeg
  (repeat' split) <;> exact ⟨rfl, rfl, rfl⟩

theorem redirectArm_keeps (s : State) : (redirectArm s).transport.errand = s.transport.errand.map (fun e => { e with dest := .output .reject })
    ∧ (redirectArm s).transport.state = s.transport.state := by
  unfold redirectArm
  dsimp only
  split
  · split
    · exact ⟨(beginLeg_keeps ..).1, (beginLeg_keeps ..).2.1⟩
    · exact ⟨(beginLeg_keeps ..).1, (beginLeg_keeps ..).2.1⟩
    · exact ⟨(beginLeg_keeps ..).1, (beginLeg_keeps ..).2.1⟩
    · exact ⟨rfl, rfl⟩
  · exact ⟨rfl, rfl⟩

theorem releaseBay_docketOf (b : BayNo) (s : State) : ((releaseBay b s).bay b).docket = none := by
  have freed : ((s.setBay b { s.bay b with docket := none }).bay b).docket = none := by rw [State.bay_setBay, if_pos rfl]
  unfold releaseBay
  dsimp only
  split
  · unfold enterIdle
    split
    · rw [retire_bay_self]; exact freed
    · rw [triggerRound_bay, setBayState_bay, if_pos rfl]; exact freed
  · rw [askTrayClose_docketOf]; exact freed
  · rw [askTrayClose_docketOf]; exact freed
  · exact freed

/-- An INBOUND docket given a cause while no RELEASE runs is on its way to the reject bin. -/
theorem reroute_spec {d : DocketNo} {r : Docket} (holds : s.docket d = some r)
    (free : ¬ (s.transport.phase = .release ∧ s.transport.state = .busy)) (c : Cause) :
    (reroute d c s).docket d = some { r.giveCause c s.tower.time with state := .rejectOutbound }
    ∧ ((s.bay r.bay).docket = some d → ((reroute d c s).bay r.bay).docket = none)
    ∧ (reroute d c s).transport.state = s.transport.state
    ∧ (s.taskInFlight.map (·.docket) = some d →
      (reroute d c s).transport.errand = s.transport.errand.map fun e => { e with dest := .output .reject }) := by
  have given : (giveCause false d c s).docket d = some (r.giveCause c s.tower.time) := by rw [giveCause_docket, if_pos rfl, holds]; rfl
  have arm := giveCause_transport false d c s
  have bay : ((giveCause false d c s).bay r.bay).docket = (s.bay r.bay).docket := by rw [giveCause_bay_keeps false d c s r.bay]
  generalize moved : setDocketState d .rejectOutbound (giveCause false d c s) = v
  have arm' : v.transport.errand = s.transport.errand ∧ v.transport.state = s.transport.state := by
    have same : v.transport = (giveCause false d c s).transport := by rw [← moved]; simp [setDocketState]
    rw [same, arm]
    exact ⟨rfl, rfl⟩
  have task : v.taskInFlight = s.taskInFlight := by unfold State.taskInFlight; rw [arm'.1]
  have docket : v.docket d = some { r.giveCause c s.tower.time with state := .rejectOutbound } := by
    rw [← moved, setDocketState, updDocket_docket, if_pos rfl, given]; rfl
  have bay' : (v.bay r.bay).docket = (s.bay r.bay).docket := by
    rw [← bay, ← moved]
    simp [setDocketState]
  have is : reroute d c s = releaseOf d r.bay (if (v.taskInFlight.map (·.docket)) = some d then redirectArm v else v) := by
    unfold reroute
    dsimp only
    rw [if_neg free, given]
    dsimp only
    rw [moved, (giveCause_given r c s.tower.time).2.2.2]
    rfl
  generalize turned : (if (v.taskInFlight.map (·.docket)) = some d then redirectArm v else v) = w at is
  have kept : w.docket d = v.docket d ∧ w.bay r.bay = v.bay r.bay ∧ w.transport.state = v.transport.state := by
    rw [← turned]
    split
    · exact ⟨by simp, by simp, (redirectArm_keeps v).2⟩
    · exact ⟨rfl, rfl, rfl⟩
  rw [is]
  have released : (releaseOf d r.bay w).transport = w.transport ∧ (releaseOf d r.bay w).dockets = w.dockets := by
    unfold releaseOf
    split <;> simp
  refine ⟨?_, fun own => ?_, ?_, fun flies => ?_⟩
  · rw [State.docket_congr released.2, kept.1, docket]
  · have held : (w.bay r.bay).docket = some d := by rw [kept.2.1, bay', own]
    rw [releaseOf, if_pos held, releaseBay_docketOf]
  · rw [released.1, kept.2.2, arm'.2]
  · rw [released.1, ← turned, if_pos (by rw [task]; exact flies), (redirectArm_keeps v).1, arm'.1]

/-! ### The end of a RELEASE (R51, R56) -/

/-- The gripper has opened. -/
def opened (s : State) : State := { s with transport := { s.transport with gripper := none, gripTimer := none, gripperClosed := false } }

theorem exec_releaseComplete (release : s.transport.gripper = some .release) :
    exec .releaseComplete s = .next (conclude (endRelease s)) := if_pos release

theorem endRelease_of_held (holds : s.sensor .discPresent = true) : endRelease s = releaseFault (opened s) := by
  unfold endRelease
  exact if_pos holds

theorem endRelease_of_gone (gone : s.sensor .discPresent = false) (phase : s.transport.phase = .release) :
    endRelease s = placeDone (opened s) := by
  unfold endRelease
  rw [gone, phase]
  rfl

section Placed

variable {q : Task} {e : Errand}

theorem placeDone_bay {b : BayNo} (errand : s.transport.errand = some e) (work : e.work = .task q) (dest : e.dest = .bay b) :
    placeDone s = seatDocket b q.docket (endErrand s) := by
  obtain ⟨w, source, d, h, m⟩ := e
  subst work dest
  simp [placeDone, errand]

theorem placeDone_printer (errand : s.transport.errand = some e) (work : e.work = .task q) (dest : e.dest = .printer) :
    placeDone s = setPhase .awaitTray { s with transport := { s.transport with placeTimer := some 500 } } := by
  obtain ⟨w, source, d, h, m⟩ := e
  subst work dest
  simp [placeDone, errand]

/-- The place in which a disc lands. -/
def OutputBin.place : OutputBin → Place
  | .good => .goodBin
  | .reject => .rejectBin

theorem placeDone_output {o : OutputBin} (errand : s.transport.errand = some e) (work : e.work = .task q) (dest : e.dest = .output o) :
    placeDone s = endErrand (land q.docket (some o.place) (some o) (binUp o s)) := by
  obtain ⟨w, source, d, h, m⟩ := e
  subst work dest
  simp only [placeDone, errand]
  cases o <;> rfl

theorem land_of_some {d : DocketNo} {r : Docket} {j : Job} {n : Nat} (holds : s.docket d = some r) (held : s.job r.slot = some j)
    (ordinal : r.ordinal = some n) (place : Place) (o : OutputBin) : land d (some place) (some o) s =
      let r' := { r with state := .landed, place := some place, outputBin := some o, landed := some s.tower.time }
      startThread [.write { addr := j.reportArea + 64 * (n - 1), data := .bytes r'.report, docket := some d },
        .counted d, .progress r.slot, .decide r.slot, .freeDocket d] (s.setDocket d (some r')) := by
  simp [land, holds, held, ordinal]

theorem binUp_count (o : OutputBin) (s : State) : ((binUp o s).bins.out o).count = (s.bins.out o).count + 1 := by
  have bins : (binUp o s).bins = s.bins.setCount ((s.bins.out o).count + 1) o := by simp [binUp]
  rw [bins]
  cases o <;> rfl

theorem taskInFlight_of (errand : s.transport.errand = some e) (work : e.work = .task q) :
    s.taskInFlight = some { q with dest := e.dest } := by
  obtain ⟨w, source, d, h, m⟩ := e
  subst work
  simp [State.taskInFlight, errand]

theorem opened_endErrand (busy : s.transport.state = .busy) : (endErrand (opened s)).transport.state = .free
    ∧ (endErrand (opened s)).transport.errand = none ∧ (endErrand (opened s)).transport.gripperClosed = false
    ∧ (endErrand (opened s)).transport.queue = s.transport.queue
    ∧ (endErrand (opened s)).transport.nextAge = s.transport.nextAge := by
  have free : (endErrand (opened s)).transport = (opened s).transport.free := endErrand_transport _
  have busy' : (opened s).transport.state = .busy := busy
  rw [free, Transport.free, if_neg (by rw [busy']; nofun), busy']
  exact ⟨rfl, rfl, rfl, rfl, rfl⟩

/-- The docket of a disc released into a tray. -/
def Docket.seated (r : Docket) : Docket := { r with state := .seated, place := some .bay }

theorem seatDocket_open {b : BayNo} {d : DocketNo} {r : Docket} (state : (s.bay b).state = .open) (holds : s.docket d = some r) :
    (seatDocket b d s).docket d = some r.seated ∧ ((seatDocket b d s).bay b).state = .closing
    ∧ (seatDocket b d s).hasReq b .trayClose = true ∧ (seatDocket b d s).transport = s.transport
    ∧ (seatDocket b d s).jobs = s.jobs ∧ s.sameHost (seatDocket b d s) ∧ s.samePlant (seatDocket b d s)
    ∧ s.otherBays (seatDocket b d s) b := by
  have is : seatDocket b d s = askTrayClose b (s.updDocket d Docket.seated) := by simp only [seatDocket, state]; rfl
  obtain ⟨closing, asked⟩ := askTrayClose_closes (s := s.updDocket d Docket.seated) (b := b) (by simpa using state)
  rw [is]
  refine ⟨?_, closing, asked, by simp, by simp, by simp [State.sameHost], by simp [State.samePlant], fun x other => ?_⟩
  · rw [askTrayClose_docket, updDocket_docket, if_pos rfl, holds]
    rfl
  · rw [askTrayClose_bay_other other, State.updDocket_bay]

theorem seatDocket_discovering {b : BayNo} {d : DocketNo} {r : Docket} (state : (s.bay b).state = .discovering)
    (holds : s.docket d = some r) (idle : s.transport.errand = none) (fresh : ∀ q ∈ s.transport.queue, q.docket ≠ d) :
    (∃ r' : Docket, (seatDocket b d s).docket d = some r' ∧ r'.state = .rejectWait ∧ r'.place = some .bay)
    ∧ (seatDocket b d s).hasReq b .trayOpen = true
    ∧ (seatDocket b d s).transport = { s.transport with
        queue := s.transport.queue ++ [{ docket := d, kind := .unload, source := .bay r.bay, dest := .output .reject, age := s.transport.nextAge }]
        nextAge := s.transport.nextAge + 1 } := by
  have is : seatDocket b d s = openAfterReset b .completion d (s.updDocket d Docket.seated) := by simp only [seatDocket, state]; rfl
  generalize asked : sendReq b .trayOpen .completion .trayOpen (s.updDocket d Docket.seated) = v
  have holds' : v.docket d = some r.seated := by
    rw [← asked, State.docket_congr (s := s.updDocket d Docket.seated) (by simp), updDocket_docket, if_pos rfl, holds]; rfl
  have arm : v.transport = s.transport := by rw [← asked]; simp
  have has : v.hasReq b .trayOpen = true := by rw [← asked]; exact sendReq_hasReq ..
  have wait : toRejectWait d v = queueTask d .unload (.bay r.bay) (.output .reject) (v.setDocket d (some { r.seated with
      state := .rejectWait, place := some .bay
      burnEnd := if (r.seated.state = .burning ∨ r.seated.state = .finalizing) ∧ r.seated.burnEnd = none then some v.tower.time
        else r.seated.burnEnd })) := by
    simp only [toRejectWait, holds']
    rfl
  rw [is, openAfterReset, asked]
  refine ⟨⟨_, by rw [wait, queueTask_docket, State.docket_setDocket, if_pos rfl], rfl, rfl⟩, ?_, ?_⟩
  · rw [State.hasReq_congr (toRejectWait_bay ..)]
    exact has
  · rw [wait, queueTask_transport_of_new (s := v.setDocket d _) _ _ _ (by
      intro q mem
      exact fresh q (by rw [← arm]; exact mem)) (by
      intro q flies
      unfold State.taskInFlight at flies
      rw [show (v.setDocket d _).transport.errand = none from (congrArg Transport.errand arm).trans idle] at flies
      cases flies)]
    rw [show (v.setDocket d _).transport = s.transport from arm]

end Placed

theorem reportStatus_agenda (s : State) : (reportStatus s).engine.agenda = s.engine.agenda := by
  unfold reportStatus queueStatus
  (repeat' split) <;> rfl

theorem setTransport_agenda (st : TransportState) (s : State) : (setTransport st s).engine.agenda = s.engine.agenda := by
  unfold setTransport
  split
  · rfl
  · rw [reportStatus_agenda]

theorem endErrand_agenda (s : State) : (endErrand s).engine.agenda = s.engine.agenda := by
  unfold endErrand
  dsimp only
  split
  · rfl
  · split
    · rw [setTransport_agenda]; rfl
    · rfl

section Releases

variable {q : Task} {e : Errand} {r : Docket}

/-- A disc that lands in an output bin. -/
theorem release_lands {o : OutputBin} {j : Job} {n : Nat} (gone : s.sensor .discPresent = false) (phase : s.transport.phase = .release)
    (errand : s.transport.errand = some e) (work : e.work = .task q) (dest : e.dest = .output o) (holds : s.docket q.docket = some r)
    (busy : s.transport.state = .busy) (held : s.job r.slot = some j) (ordinal : r.ordinal = some n) :
    let r' := { r with state := .landed, place := some o.place, outputBin := some o, landed := some s.tower.time }
    (endRelease s).docket q.docket = some r' ∧ ((endRelease s).bins.out o).count = (s.bins.out o).count + 1
    ∧ (endRelease s).transport.state = .free ∧ (endRelease s).transport.errand = none ∧ (endRelease s).jobs = s.jobs
    ∧ s.sameHost (endRelease s) ∧ (endRelease s).bays = s.bays ∧ (endRelease s).printer = s.printer
    ∧ (endRelease s).engine.agenda = s.engine.agenda ++
          [[.write { addr := j.reportArea + 64 * (n - 1), data := .bytes r'.report, docket := some q.docket },
            .counted q.docket, .progress r.slot, .decide r.slot, .freeDocket q.docket]] := by
  intro r'
  have counts := binUp_count o (opened s)
  generalize raised : binUp o (opened s) = v at counts
  have frame : v.dockets = s.dockets ∧ v.jobs = s.jobs ∧ s.sameHost v ∧ v.bays = s.bays ∧ v.printer = s.printer
      ∧ v.transport = (opened s).transport ∧ v.engine.agenda = s.engine.agenda := by
    subst raised
    exact ⟨by simp [binUp, opened], by simp [binUp, opened], by simp [State.sameHost, binUp, opened], by simp [binUp, opened],
      by simp [binUp, opened], by simp [binUp], reportStatus_agenda _⟩
  obtain ⟨dockets, jobs, host, bays, printer, arm, agenda⟩ := frame
  have now : v.tower.time = s.tower.time := by rw [host.2.1]
  have landed := land_of_some (s := v) ((State.docket_congr dockets _).trans holds) ((State.job_congr jobs _).trans held) ordinal o.place o
  rw [now] at landed
  have placed : endRelease s = endErrand (land q.docket (some o.place) (some o) v) := by
    rw [endRelease_of_gone gone phase, placeDone_output (s := opened s) errand work dest, raised]
  have free : (endRelease s).transport = (opened s).transport.free := by
    rw [placed, endErrand_transport, landed]
    exact congrArg Transport.free arm
  obtain ⟨state, idle, -⟩ := opened_endErrand busy
  rw [endErrand_transport] at state idle
  refine ⟨?_, ?_, by rw [free, state], by rw [free, idle], ?_, ?_, ?_, ?_, ?_⟩
  · rw [placed, endErrand_docket, landed, startThread_docket, State.docket_setDocket, if_pos rfl]
  · rw [placed, landed]
    simpa [opened] using counts
  · rw [placed, landed]
    simpa using jobs
  · rw [placed, landed]
    simpa [State.sameHost] using host
  · rw [placed, landed]
    simpa using bays
  · rw [placed, landed]
    simpa using printer
  · rw [placed, endErrand_agenda, landed]
    exact congrArg (· ++ _) agenda

/-- A disc that does not come free. -/
theorem releaseFault_of (errand : s.transport.errand = some e) (work : e.work = .task q) (holds : s.docket q.docket = some r) :
    releaseFault s = if r.state = .inbound ∧ r.verdict = some .reject then reroute q.docket r.cause (transportFault .release s)
      else transportFault .release s := by
  have docket : (transportFault .release s).docket q.docket = some r := by rw [transportFault_docket]; exact holds
  unfold releaseFault
  rw [taskInFlight_of errand work]
  dsimp only
  rw [docket]

end Releases

/-- Settles O39. -/
theorem discsReleasedAndCounted : Obligations.DiscsReleasedAndCounted := by
  refine ⟨fun q e r s gripper phase errand work holds busy => ?_, fun d => ?_, fun k j s held => ?_, fun g d r s holds given => ?_⟩
  · intro opened_
    have runs {v : State} (is : endRelease s = v) : exec .releaseComplete s = .next (conclude v) := by
      rw [exec_releaseComplete gripper, is]
    obtain ⟨free, idle, gripperOpen, queue, age⟩ := opened_endErrand busy
    have errand' : (opened s).transport.errand = some e := errand
    have holds' : (endErrand (opened s)).docket q.docket = some r := by rw [endErrand_docket]; exact holds
    refine ⟨fun b gone dest state => ?_, fun b gone dest state fresh => ?_, fun o j n gone dest held ordinal => ?_,
      fun gone dest => runs ((endRelease_of_gone gone phase).trans (placeDone_printer errand' work dest)), fun disc plain => ?_,
      fun disc inbound verdict caused => ?_⟩
    · have placed : endRelease s = seatDocket b q.docket (endErrand (opened s)) :=
        (endRelease_of_gone gone phase).trans (placeDone_bay errand' work dest)
      obtain ⟨docket, closing, asked, arm, jobs, ⟨pending, tower, regs, board⟩, ⟨sensors, bins, printer⟩, others⟩ :=
        seatDocket_open (s := endErrand (opened s)) (b := b) (by rw [endErrand_bay]; exact state) holds'
      refine ⟨_, runs placed, docket, closing, asked, by rw [arm, free], by rw [arm, idle], by rw [arm, gripperOpen], by rw [jobs]; simp [opened],
        ⟨by rw [pending]; simp [opened], by rw [tower]; simp [opened], by rw [regs]; simp [opened], by rw [board]; simp [opened]⟩,
        ⟨by rw [sensors]; simp [opened], by rw [bins]; simp [opened], by rw [printer]; simp [opened]⟩, fun x other => ?_⟩
      rw [others x other, endErrand_bay]
      rfl
    · have placed : endRelease s = seatDocket b q.docket (endErrand (opened s)) :=
        (endRelease_of_gone gone phase).trans (placeDone_bay errand' work dest)
      obtain ⟨docket, asked, arm⟩ := seatDocket_discovering (s := endErrand (opened s)) (b := b) (by rw [endErrand_bay]; exact state)
        holds' idle (by rw [queue]; exact fresh)
      exact ⟨_, runs placed, docket, asked, by rw [arm]; exact free, by rw [arm]; exact idle, by rw [arm, queue, age]⟩
    · obtain ⟨docket, count, state, idle', jobs, host, bays, printer, agenda⟩ :=
        release_lands gone phase errand work dest holds busy held ordinal
      exact ⟨endRelease s, _, runs rfl, by cases o <;> rfl, docket, count, state, idle', jobs, host, bays, printer, agenda⟩
    · refine runs ((endRelease_of_held disc).trans ((releaseFault_of (s := opened s) errand work holds).trans (if_neg fun h => ?_)))
      exact plain.elim (fun no => no h.1) (fun no => no h.2)
    · have is : endRelease s = reroute q.docket r.cause (transportFault .release (opened s)) :=
        (endRelease_of_held disc).trans ((releaseFault_of (s := opened s) errand work holds).trans (if_pos ⟨inbound, verdict⟩))
      obtain ⟨halted, -, -, -, kept, -⟩ := transportFault_halts .release (opened s)
      have kept' : (transportFault .release (opened s)).transport.errand = some e := by rw [kept, errand', haltedErrand_of_task work]
      obtain ⟨docket, bay, state, turned⟩ := reroute_spec (s := transportFault .release (opened s)) (d := q.docket) (r := r)
        (by rw [transportFault_docket]; exact holds) (fun h => absurd (halted.symm.trans h.2) nofun) r.cause
      refine ⟨_, runs is, by rw [state, halted], ?_, ?_, fun own => bay (by rw [transportFault_bay]; exact own)⟩
      · rw [docket, Docket.giveCause, if_neg caused]
      · rw [turned (by rw [taskInFlight_of kept' work]; rfl), kept']
        rfl
  · obtain ⟨length, ticket, ordinal, outcome, cause, bin, bay, logical, place, out, flags, groups, links, rereads⟩ := report_fields d
    obtain ⟨counters, unprinted⟩ := report_counters d
    obtain ⟨times, last⟩ := report_times d
    exact ⟨length, ticket, ordinal, outcome, cause, bin, bay, logical, place, out, flags, groups, links, rereads, counters, unprinted, times, last⟩
  · intro card fresh outcome result final
    have code : j.outcomeCode = outcome := by
      rcases out : j.outcome with _ | _ | _ | _ <;> simp [Job.outcomeCode, outcome, out, JobOutcome.card, CardOutcome.code]
    have thread : j.finalThread k s.boardAddr = final := by unfold Job.finalThread; rw [code]
    have decide_ := decideLanding_of held
    have decides {v : State} (is : decideLanding k s = v) : runTodo (.decide k) s = ([], v) := by rw [← is]; rfl
    refine ⟨fun d r holds own => ?_, ?_, fun active over_ => decides (decide_.trans (if_pos ⟨active, over_⟩)), fun active within all home => ?_,
      fun active within more => ?_, fun stopping home => ?_, fun stopping away => ?_, fun ended => ?_, fun idle => ?_, fun busy => ?_,
      fun ended => ?_, fun addr idle => ?_, fun addr busy => ?_, fun o f g inactive => ?_, fun o f g active => ?_⟩
    · subst own
      exact congrArg (Prod.mk []) (countDocket_of holds held)
    · exact congrArg (Prod.mk []) (writeProgress_of held)
    · refine decides (decide_.trans ((if_neg fun h => ?_).trans (if_pos ⟨active, all, home⟩)))
      exact absurd h.2 (by omega)
    · refine decides (decide_.trans ((if_neg fun h => ?_).trans ((if_neg fun h => ?_).trans (if_neg fun h => ?_))))
      · exact absurd h.2 (by omega)
      · exact more.elim (fun no => no h.2.1) (fun no => no h.2.2)
      · exact absurd (active.symm.trans h.1) nofun
    · refine decides (decide_.trans ((if_neg fun h => ?_).trans ((if_neg fun h => ?_).trans (if_pos ⟨stopping, home⟩))))
      · exact absurd (stopping.symm.trans h.1) nofun
      · exact absurd (stopping.symm.trans h.1) nofun
    · refine decides (decide_.trans ((if_neg fun h => ?_).trans ((if_neg fun h => ?_).trans (if_neg fun h => away h.2))))
      · exact absurd (stopping.symm.trans h.1) nofun
      · exact absurd (stopping.symm.trans h.1) nofun
    · refine decides (decide_.trans ((if_neg fun h => ?_).trans ((if_neg fun h => ?_).trans (if_neg fun h => ?_))))
      · exact absurd (ended.symm.trans h.1) nofun
      · exact absurd (ended.symm.trans h.1) nofun
      · exact absurd (ended.symm.trans h.1) nofun
    · rw [endJob_of held, if_pos idle, thread]
    · rw [endJob_of held, if_neg busy]
    · rw [finalWrite_of held, thread]
    · refine ⟨freeSlot k s, rfl, ?_, fun x other => ?_, ?_⟩
      · rw [freeSlot, requestScan_job, State.job_setJob, if_pos rfl]
      · rw [freeSlot, requestScan_job, State.job_setJob, if_neg other]
      · rw [freeSlot, requestScan_of_idle (s := s.setJob k none) addr idle]
        rfl
    · refine ⟨freeSlot k s, rfl, ?_, fun x other => ?_, ?_⟩
      · rw [freeSlot, requestScan_job, State.job_setJob, if_pos rfl]
      · rw [freeSlot, requestScan_job, State.job_setJob, if_neg other]
      · rw [freeSlot, requestScan_of_busy (s := s.setJob k none) addr busy]
        rfl
    · exact stopJob_of_inactive (fun j' held' active => inactive (by cases held.symm.trans held'; exact active)) o f g
    · obtain ⟨j', after, -, out, cause, made⟩ := stopJob_of_active held active o f g
      exact ⟨s.docketsOf k, treated k j o f g s, fun d => mem_docketsOf k d s, docketsOf_pairwise k s, rfl, j', after, out, cause, made⟩
  · intro t given_
    have gives (r' : Docket) (h : r'.cause = (r.giveCause g s.tower.time).cause) (h' : r'.verdict = (r.giveCause g s.tower.time).verdict)
        (h'' : r'.verdictTime = (r.giveCause g s.tower.time).verdictTime) : given_ r' := by
      obtain ⟨cause, verdict, -⟩ := giveCause_given r g s.tower.time
      exact ⟨h.trans cause, fun causeless => ⟨h'.trans (verdict causeless).1, h''.trans (verdict causeless).2⟩⟩
    have caused (halt : Bool) : (giveCause halt d g s).docket d = some (r.giveCause g s.tower.time) := by
      rw [giveCause_docket, if_pos rfl, holds]; rfl
    have state := (giveCause_given r g s.tower.time).2.2.1
    refine ⟨fun reserved => ?_, fun inbound free => ?_, fun inbound phase busy => ?_, fun working => ?_, fun other => ?_⟩
    · have is : t = dissolve d s := by simp only [t, stopDocket, holds, reserved]
      rw [is]
      exact dissolve_spec holds
    · have is : t = reroute d g s := by simp only [t, stopDocket, holds, inbound]
      obtain ⟨docket, bay, -, errand⟩ := reroute_spec holds free g
      rw [is]
      refine ⟨⟨_, docket, rfl, gives _ rfl rfl rfl⟩, bay, fun e q held work own => ?_⟩
      have flies : s.taskInFlight.map (·.docket) = some d := by rw [taskInFlight_of held work]; exact congrArg some own
      exact ⟨_, (errand flies).trans (by rw [held]; rfl), rfl⟩
    · have is : t = giveCause false d g s := by
        simp only [t, stopDocket, holds, inbound, reroute, phase, busy, and_self, if_true]
      rw [is]
      exact ⟨_, caused false, state.trans inbound, gives _ rfl rfl rfl⟩
    · have is : t = giveCause true d g s := by
        rcases working with h | h | h | h <;> simp only [t, stopDocket, holds, h]
      rw [is]
      exact ⟨_, caused true, state, gives _ rfl rfl rfl⟩
    · rcases other with h | h | h | h | h | h <;> simp only [t, stopDocket, holds, h]

end Sys2Proof.Machine
end

section
/-! PROOFS. A GRIP that finds no disc, a drop while STOPPED, and the steps of the arm (O38). -/

namespace Sys2Proof.Machine

variable {s t u v : State} {q : Task} {e : Errand} {r : Docket} {i : InputBin} {b : BayNo}

/-! ### A pick that finds its bin empty (R54) -/

/-- The bin that a pick has found empty. -/
def emptied (i : InputBin) (s : State) : State := if (s.bins.input i).state = .loaded then setInput i .empty s else s

@[simp] theorem emptied_frame (i : InputBin) (s : State) : (emptied i s).dockets = s.dockets ∧ (emptied i s).transport = s.transport
    ∧ (emptied i s).jobs = s.jobs ∧ (emptied i s).bays = s.bays := by
  unfold emptied
  split <;> simp

theorem emptied_input (loaded : (s.bins.input i).state = .loaded) : ((emptied i s).bins.input i).state = .empty := by
  rw [emptied, if_pos loaded, setInput_input, if_pos rfl]

theorem pickEmpty_of_task (errand : s.transport.errand = some e) (work : e.work = .task q) :
    pickEmpty i s = dissolve q.docket (emptied i s) := by
  have flies : (emptied i s).taskInFlight = some { q with dest := e.dest } := taskInFlight_of (by simpa using errand) work
  change (match (emptied i s).taskInFlight with
    | some t => dissolve t.docket (emptied i s)
    | none => endErrand (emptied i s)) = _
  rw [flies]

/-- A dissolve of the docket whose task is in flight stops the arm's pick. -/
theorem dissolve_transport {d : DocketNo} (holds : s.docket d = some r) (flies : s.taskInFlight.map (·.docket) = some d) :
    (dissolve d s).transport = (stopPick (unqueueTask d s)).transport := by
  have flies' : (unqueueTask d s).taskInFlight.map (·.docket) = some d := flies
  rw [dissolve_of_some holds, undone, if_pos flies']
  unfold releaseOf
  split <;> simp [forgetDissolved]

/-- What a pick that finds its bin empty brings. -/
theorem pickEmpty_spec (errand : s.transport.errand = some e) (work : e.work = .task q) (holds : s.docket q.docket = some r) (i : InputBin) :
    (pickEmpty i s).docket q.docket = none ∧ ((s.bins.input i).state = .loaded → ((pickEmpty i s).bins.input i).state = .empty)
    ∧ (pickEmpty i s).transport = (stopPick (unqueueTask q.docket (emptied i s))).transport := by
  have holds' : (emptied i s).docket q.docket = some r := (State.docket_congr (by simp) _).trans holds
  have flies : (emptied i s).taskInFlight.map (·.docket) = some q.docket := by
    rw [taskInFlight_of (s := emptied i s) (e := e) (q := q) (by simpa using errand) work]; rfl
  rw [pickEmpty_of_task errand work]
  refine ⟨(dissolve_spec holds').1, fun loaded => ?_, dissolve_transport holds' flies⟩
  have bins : (dissolve q.docket (emptied i s)).bins = (emptied i s).bins := by simp
  rw [bins, emptied_input loaded]

/-! ### The stop of a pick (R54, R65) -/

theorem stopPick_of_return (busy : s.transport.state = .busy) (phase : s.transport.phase = .descend ∨ s.transport.phase = .returnRetry) :
    stopPick s = returnToEnd s := by
  unfold stopPick
  rw [if_pos busy]
  rcases phase with h | h <;> rw [h]

theorem stopPick_of_grip (busy : s.transport.state = .busy) (phase : s.transport.phase = .grip) :
    stopPick s = setPhase .orphanGrip (setErrand (s.transport.errand.map fun e => { e with work := .ended }) s) := by
  unfold stopPick
  rw [if_pos busy, phase]

theorem stopPick_of_miss (busy : s.transport.state = .busy) (phase : s.transport.phase = .openMiss) :
    stopPick s = setErrand (s.transport.errand.map fun e => { e with work := .ended }) s := by
  unfold stopPick
  rw [if_pos busy, phase]

theorem stopPick_of_leg (busy : s.transport.state = .busy)
    (phase : s.transport.phase = .lift .pick ∨ s.transport.phase = .turn .pick ∨ s.transport.phase = .ready .pick) :
    stopPick s = endErrand s := by
  unfold stopPick
  rw [if_pos busy]
  rcases phase with h | h | h <;> rw [h]

theorem returnToEnd_of {st : Station} (errand : s.transport.errand = some e) (source : e.source = some st) : returnToEnd s =
    startMove (s.position st) (setPhase .returnEnd (setErrand (some { e with work := .ended }) (stopLift s))) := by
  simp only [returnToEnd, errand, source]

/-! ### A GRIP that reads no disc (R54, R55) -/

/-- The gripper has closed. -/
def closed (s : State) : State := { s with transport := { s.transport with gripper := none, gripTimer := none, gripperClosed := true } }

theorem exec_gripMiss (gripper : s.transport.gripper = some .grip) (phase : s.transport.phase = .grip)
    (gone : s.sensor .discPresent = false) : exec .gripComplete s = .next (conclude (gripMiss (closed s))) := by
  rw [exec_gripComplete gripper phase, gone]
  rfl

/-- The arm opens the gripper after a miss. -/
def missed (e : Errand) (s : State) : State :=
  setPhase .openMiss (startGripper .release (setErrand (some { e with misses := e.misses + 1 }) s))

theorem gripMiss_of_input (errand : s.transport.errand = some e) (work : e.work = .task q) (source : e.source = some (.input i)) :
    gripMiss s = if e.misses + 1 < 2 then missed e s else pickEmpty i (missed e s) := by
  obtain ⟨w, src, d, h, m⟩ := e
  subst work source
  simp only [gripMiss, errand]
  rfl

theorem gripMiss_of_other (errand : s.transport.errand = some e) (work : e.work = .task q) (source : ∀ i, e.source ≠ some (.input i)) :
    gripMiss s = missDrop q s := by
  obtain ⟨w, src, d, h, m⟩ := e
  subst work
  rcases src with _ | (i | _ | _ | _)
  case some.input => exact absurd rfl (source i)
  all_goals simp only [gripMiss, errand]

/-! ### The bay of a drop (R15, R76) -/

/-- The tray of this bay is being closed. -/
def State.closes (s : State) (b : BayNo) : Prop := (s.bay b).state = .closing ∧ s.hasReq b .trayClose = true

theorem leaveBay_open {d : DocketNo} (isOpen : (s.bay b).state = .open) (r : Docket) :
    ((leaveBay d r s).bay b).state = .open ∨ (leaveBay d r s).closes b := by
  unfold leaveBay
  split
  · split
    · by_cases own : r.bay = b
      · refine .inr ?_
        have released : releaseBay r.bay s = askTrayClose r.bay (s.setBay r.bay { s.bay r.bay with docket := none }) := by
          subst own
          simp only [releaseBay, isOpen]
        rw [released, own]
        exact askTrayClose_closes (by rw [State.bay_setBay, if_pos rfl]; exact isOpen)
      · exact .inl (by rw [releaseBay_bay_other (Ne.symm own) (by rw [isOpen]; nofun), isOpen])
    · refine .inl ?_
      rw [State.bay_setBay]
      split
      · next same => rw [← same]; exact isOpen
      · exact isOpen
  · exact .inl isOpen

theorem dropFault_open (task : s.taskInFlight = some q) (holds : s.docket q.docket = some r) (place : Option Place)
    (isOpen : (s.bay b).state = .open) :
    ((dropFault place s).bay b).state = .open ∨ (dropFault place s).closes b := by
  have lost := loseDisc_of_some (s := stopMotors s) (d := q.docket) (r := r) (by simpa using holds) true
    (place.getD (((s.docket q.docket).bind (·.place)).getD .arm))
  generalize begun : endErrandOf q.docket (unqueueTask q.docket (dropCause true q.docket (stopMotors s))) = w at lost
  have kept : (w.bay b).state = .open := by
    rw [← begun, State.bay_congr (s := dropCause true q.docket (stopMotors s)) (by simp), (dropCause_bay_keeps ..).state]
    simpa using isOpen
  have bay : (dropFault place s).bay b = (leaveBay q.docket r w).bay b := by
    rw [dropFault_of_task task, haltTransport_bay, lost]
    exact State.bay_congr (by simp) b
  have left := leaveBay_open (d := q.docket) kept r
  unfold State.closes at left ⊢
  rw [State.hasReq_congr bay, bay]
  exact left

theorem askTrayClose_closes_of (is : (s.bay b).state = .open ∨ s.closes b) : (askTrayClose b s).closes b := by
  obtain isOpen | closing := is
  · exact askTrayClose_closes isOpen
  · have same : askTrayClose b s = s := by simp only [askTrayClose, closing.1]
    rw [same]
    exact closing

theorem askTrayClose_agrees (b : BayNo) (s : State) : (askTrayClose b s).transport = s.transport ∧ (askTrayClose b s).regs = s.regs
    ∧ (askTrayClose b s).tower = s.tower ∧ (askTrayClose b s).jobs = s.jobs ∧ (askTrayClose b s).bins = s.bins
    ∧ (askTrayClose b s).board = s.board ∧ (askTrayClose b s).faults = s.faults ∧ (askTrayClose b s).dockets = s.dockets := by
  simp

/-- What a disc lost at a station leaves: the transport halted with DROP, the docket landed there. -/
structure LostAt (s u : State) (d : DocketNo) (r : Docket) (place : Place) (bay : Option BayNo) : Prop where
  halted : u.transport.state = .halted
  cause : u.regs.halted = true
  tower : s.tower.state = .running → u.tower.state = .halted
  lift : u.transport.lift.duty = 0
  swing : u.transport.swing = none
  jobs : u.jobs = s.jobs
  bins : u.bins = s.bins
  board : u.board = s.board
  first : s.faults.first = none → (∀ x : BayNo, (s.bay x).failing = false) → u.faults.first = some
    { code := .drop, bay := bay, docket := some d, time := s.tower.time }
  docket : ∃ r' : Docket, u.docket d = some r' ∧ r'.state = .landed ∧ r'.outputBin = none ∧ r'.place = some place
    ∧ r'.landed = some s.tower.time ∧ r'.cause = (if r.cause = .none then .dropped else r.cause)
    ∧ r'.verdict = (if r.cause = .none then some .reject else r.verdict)

theorem dropFault_lost (task : s.taskInFlight = some q) (holds : s.docket q.docket = some r) (place : Place) :
    LostAt s (dropFault (some place) s) q.docket r place q.bay := by
  obtain ⟨halted, -, duty, swing, cause, tower, jobs, bins, board⟩ := dropFault_halts task (some place)
  refine ⟨halted, cause, tower, duty, swing, jobs, bins, board, fun first sound => dropFault_first task first sound _,
    _, dropFault_docket task holds (some place), rfl, rfl, rfl, rfl, ?_, ?_⟩
  · exact (giveCause_given r .dropped s.tower.time).1
  · unfold Docket.giveCause
    split <;> simp [*]

theorem LostAt.trays {d : DocketNo} {place : Place} {bay : Option BayNo} (lost : LostAt s u d r place bay) (b : BayNo) :
    LostAt s (askTrayClose b u) d r place bay := by
  obtain ⟨halted, cause, tower, lift, swing, jobs, bins, board, first, r', docket, fields⟩ := lost
  obtain ⟨arm, regs, tower', jobs', bins', board', faults, dockets⟩ := askTrayClose_agrees b u
  exact ⟨by rw [arm, halted], by rw [regs, cause], by rw [tower']; exact tower, by rw [arm, lift], by rw [arm, swing], by rw [jobs', jobs],
    by rw [bins', bins], by rw [board', board], by rw [faults]; exact first, r', (State.docket_congr dockets _).trans docket, fields⟩

/-! ### A drop while STOPPED (R52) -/

theorem reportFault_transport (code : FaultCode) (bay : Option BayNo) (docket : Option DocketNo) (s : State) :
    (reportFault code bay docket s).transport = s.transport := by simp

theorem exec_dropStopped (on : s.sensor .discPresent = true) (carrying : s.transport.carrying = true)
    (stopped : s.transport.state = .stopped) :
    exec (.sensorChange .discPresent false) s = .next (conclude (reportFault .drop none none (stopMotors (discGone s)))) := by
  rw [exec_sensorChange (by simp [on])]
  have falls : discFalls (s.setFilter .discPresent { on := false, agree := 0 }) = reportFault .drop none none (stopMotors (discGone s)) := by
    unfold discFalls
    rw [if_pos (by simpa using carrying)]
    split
    · next halted => exact absurd (stopped.symm.trans halted) nofun
    · rfl
    · next other => exact absurd stopped other
  exact congrArg (fun u => Host.Outcome.next (conclude u)) falls

/-! ### The steps of the arm (R49, R53 to R56) -/

section Steps

variable (moving : s.transport.state = .homing ∨ s.transport.state = .sweeping ∨ s.transport.state = .busy)

include moving

theorem armStep_homeUp (phase : s.transport.phase = .homeUp) :
    armStep s = if s.sensor .liftHome then none else some (homeDownFrom s) := by
  simp only [armStep, if_pos moving, phase]

theorem armStep_homeDown (phase : s.transport.phase = .homeDown) :
    armStep s = if s.sensor .liftHome then some (homeReached s) else none := by
  simp only [armStep, if_pos moving, phase]

theorem armStep_homeSwing (phase : s.transport.phase = .homeSwing) : armStep s = turnStep .bin finishHoming s := by
  simp only [armStep, if_pos moving, phase]

theorem armStep_raise (phase : s.transport.phase = .raise) :
    armStep s = if s.transport.lift.mode = .still then some (beginLeg .place s) else none := by
  simp only [armStep, if_pos moving, phase]

theorem armStep_lift {leg : Leg} (phase : s.transport.phase = .lift leg) :
    armStep s = if s.transport.lift.mode = .still then some (setPhase (.turn leg) s) else none := by
  simp only [armStep, if_pos moving, phase]

theorem armStep_turn {leg : Leg} {st : Station} (phase : s.transport.phase = .turn leg)
    (station : (s.transport.errand.bind fun e => e.station leg) = some st) :
    armStep s = turnStep st.side (setPhase (.ready leg)) s := by
  simp only [armStep, if_pos moving, phase, station]

theorem armStep_readyPick (phase : s.transport.phase = .ready .pick) : armStep s = readyPick s := by
  simp only [armStep, if_pos moving, phase]

theorem armStep_readyPlace (phase : s.transport.phase = .ready .place) : armStep s = readyPlace s := by
  simp only [armStep, if_pos moving, phase]

theorem armStep_descend (phase : s.transport.phase = .descend) : armStep s =
    if s.sensor .contact then some (setPhase .grip (startGripper .grip (stopLift s)))
      else if s.transport.lift.mode = .still then s.pickBin.map fun i => pickEmpty i s
      else none := by
  simp only [armStep, if_pos moving, phase]

theorem armStep_returnRetry (phase : s.transport.phase = .returnRetry) : armStep s =
    if s.transport.lift.mode = .still then s.pickBin.map fun i => readStack i s else none := by
  simp only [armStep, if_pos moving, phase]

theorem armStep_returnEnd (phase : s.transport.phase = .returnEnd) :
    armStep s = if s.transport.lift.mode = .still then some (endErrand s) else none := by
  simp only [armStep, if_pos moving, phase]

theorem armStep_awaitTray (phase : s.transport.phase = .awaitTray) :
    armStep s = if s.sensor .trayPresent then some (placedAtPrinter s) else none := by
  simp only [armStep, if_pos moving, phase]

end Steps

theorem turnStep_of_there {side : Side} {done : State → State} (there : s.sensor side.sensor = true) :
    turnStep side done s = some (done (stopSwing s)) := if_pos there

theorem turnStep_of_turning {side : Side} {done : State → State} (away : s.sensor side.sensor = false)
    (driven : s.transport.swing = some side) : turnStep side done s = none := by
  rw [turnStep, away, if_pos driven]
  rfl

theorem turnStep_of_still {side : Side} {done : State → State} (away : s.sensor side.sensor = false)
    (idle : s.transport.swing ≠ some side) : turnStep side done s = some (driveSwing side s) := by
  rw [turnStep, away, if_neg idle]
  rfl

theorem pickBin_of (errand : s.transport.errand = some e) (source : e.source = some (.input i)) : s.pickBin = some i := by
  obtain ⟨w, src, d, h, m⟩ := e
  subst source
  simp only [State.pickBin, errand]

theorem readyPick_of_input (errand : s.transport.errand = some e) (source : e.source = some (.input i)) :
    readyPick s = if (s.bins.input i).state = .open then none else some (readStack i s) := by
  obtain ⟨w, src, d, h, m⟩ := e
  subst source
  simp only [readyPick, errand]

theorem readyPick_of_bay (errand : s.transport.errand = some e) (source : e.source = some (.bay b)) : readyPick s =
    if (s.bay b).tray = .open ∧ ((s.bay b).state = .open ∨ (s.bay b).state = .absent) then
      some (setPhase .grip (startGripper .grip s))
    else none := by
  obtain ⟨w, src, d, h, m⟩ := e
  subst source
  simp only [readyPick, errand]

theorem readyPick_of_printer (errand : s.transport.errand = some e) (source : e.source = some .printer) :
    readyPick s = if s.printer.state = .readyOut then some (setPhase .grip (startGripper .grip s)) else none := by
  obtain ⟨w, src, d, h, m⟩ := e
  subst source
  simp only [readyPick, errand]

theorem readyPlace_of (errand : s.transport.errand = some e) :
    readyPlace s = if s.placeReady e.dest then some (setPhase .release (startGripper .release s)) else none := by
  simp only [readyPlace, errand]

/-- What the arm does where it may read its stack: it goes on with the pick of the task's bin. -/
theorem armStep_reads (moving : s.transport.state = .homing ∨ s.transport.state = .sweeping ∨ s.transport.state = .busy)
    (errand : s.transport.errand = some e) (source : e.source = some (.input i))
    (phase : s.transport.phase = .ready .pick ∨ (s.transport.phase = .returnRetry ∧ s.transport.lift.mode = .still)) :
    armStep s = if s.transport.phase = .returnRetry ∨ (s.bins.input i).state ≠ .open then some (readStack i s) else none := by
  obtain ready | ⟨retry, still⟩ := phase
  · rw [armStep_readyPick moving ready, readyPick_of_input errand source, ready]
    by_cases isOpen : (s.bins.input i).state = .open <;> simp [isOpen]
  · rw [armStep_returnRetry moving retry, if_pos still, pickBin_of errand source, if_pos (.inl retry)]
    rfl

theorem startDescent_eq (i : InputBin) (s : State) : startDescent i s = { s with transport := { s.transport with
    phase := .descend
    lift := if ((s.floor i : Int) - s.transport.lift.count).natAbs ≤ 4 then s.transport.lift.stop
      else s.transport.lift.stop.creep s.cal (.descend (s.floor i)) (decide (s.transport.lift.count < (s.floor i : Int))) } } := by
  unfold startDescent
  dsimp only
  split
  · next near => rw [if_pos (show ((s.floor i : Int) - s.transport.lift.count).natAbs ≤ 4 from near)]; rfl
  · next far => rw [if_neg (show ¬ ((s.floor i : Int) - s.transport.lift.count).natAbs ≤ 4 from far)]; rfl

/-- A disc taken by the printer frees the arm. -/
theorem placedAtPrinter_of (flies : s.taskInFlight = some q) : placedAtPrinter s = endErrand (takeDisc q.docket s) := by
  simp only [placedAtPrinter, flies]

/-- The printer as it takes a disc (R148). -/
theorem takeDisc_spec {d : DocketNo} {j : Job} (holds : s.docket d = some r) (held : s.job r.slot = some j) :
    (takeDisc d s).docket d = some { r with state := .printing, place := some .printer }
    ∧ (∀ x, x ≠ d → (takeDisc d s).docket x = s.docket x)
    ∧ (takeDisc d s).printer = { s.printer with
        state := .seating, docket := some d, nextBand := 0, active := none
        shadow := some { band := 0, record := none, dots := [] }
        load := [(.record, { base := j.bandTable, len := 144, cut := 0, got := [] })]
        lanes := s.printer.lanes.map Lane.stop, clamped := true, clampTimer := some 300 } := by
  have holds' : (s.updDocket d fun r => { r with state := .printing, place := some .printer }).docket d
      = some { r with state := .printing, place := some .printer } := by
    rw [updDocket_docket, if_pos rfl, holds]; rfl
  have job : (s.updDocket d fun r => { r with state := .printing, place := some .printer }).jobOf d = some j := by
    rw [jobOf_eq holds', State.updDocket_job]; exact held
  have printer : (s.updDocket d fun r => { r with state := .printing, place := some .printer }).printer = s.printer := by simp
  have others (x : DocketNo) (other : x ≠ d) :
      (s.updDocket d fun r => { r with state := .printing, place := some .printer }).docket x = s.docket x := by
    rw [updDocket_docket, if_neg other]
  unfold takeDisc
  dsimp only
  generalize s.updDocket d _ = v at *
  rw [job]
  refine ⟨by rw [setPrinter_docket]; exact holds', fun x other => by rw [setPrinter_docket]; exact others x other, ?_⟩
  rw [setPrinter_printer_of_busy (st := .seating) nofun, ← printer]
  rfl

theorem takeDisc_keeps (d : DocketNo) (s : State) : s.sameHost (takeDisc d s) ∧ (takeDisc d s).jobs = s.jobs ∧ (takeDisc d s).bays = s.bays
    ∧ (takeDisc d s).bins = s.bins ∧ (takeDisc d s).sensors = s.sensors ∧ (takeDisc d s).faults = s.faults
    ∧ (takeDisc d s).transport = s.transport := by
  simp [State.sameHost]

/-- Settles O38. -/
theorem missesAndArmSteps : Obligations.MissesAndArmSteps := by
  refine ⟨fun q e r s gripper phase gone errand work source holds busy => ?_, fun s on carrying stopped => ?_, fun s moving => ?_⟩
  · intro lost
    have errand' : (closed s).transport.errand = some e := errand
    have flies : (closed s).taskInFlight = some { q with dest := e.dest } := taskInFlight_of errand' work
    have runs {u : State} (is : gripMiss (closed s) = u) : exec .gripComplete s = .next (conclude u) := by
      rw [exec_gripMiss gripper phase gone, is]
    refine ⟨fun i at_ first => ?_, fun i at_ again loaded => ?_, fun b at_ => ?_, fun at_ => ?_⟩
    · have is := gripMiss_of_input (s := closed s) errand' work (source.trans (congrArg some at_))
      refine ⟨_, runs (is.trans (if_pos (by omega))), ?_⟩
      rw [missed, first]
      rfl
    · have is := (gripMiss_of_input (s := closed s) errand' work (source.trans (congrArg some at_))).trans (if_neg (by omega))
      obtain ⟨docket, bins, arm⟩ := pickEmpty_spec (s := missed e (closed s)) (q := q) (r := r)
        (e := { e with misses := e.misses + 1 }) rfl work holds i
      have stop : stopPick (unqueueTask q.docket (emptied i (missed e (closed s)))) = _ := stopPick_of_miss (by
        change (emptied i (missed e (closed s))).transport.state = _
        rw [(emptied_frame ..).2.1]
        exact busy) (by
        change (emptied i (missed e (closed s))).transport.phase = _
        rw [(emptied_frame ..).2.1]
        rfl)
      refine ⟨_, runs is, bins loaded, docket, ?_, ?_⟩
      · rw [arm, stop]
        change (emptied i (missed e (closed s))).transport.gripper = _
        rw [(emptied_frame ..).2.1]
        rfl
      · rw [arm, stop]
        change (emptied i (missed e (closed s))).transport.phase = _
        rw [(emptied_frame ..).2.1]
        rfl
    · have is : gripMiss (closed s) = askTrayClose b (dropFault (some .bay) (closed s)) := by
        rw [gripMiss_of_other errand' work (fun i no => by rw [source, at_] at no; cases no), missDrop, at_]
      obtain ⟨halted, cause, tower, lift, swing, jobs, bins, board, first, docket⟩ :=
        (dropFault_lost flies (s := closed s) (r := r) holds .bay).trays b
      have named : ({ q with dest := e.dest } : Task).bay = some b := by simp only [Task.bay, at_]
      rw [named] at first
      exact ⟨_, ⟨runs is, halted, cause, tower, lift, swing, jobs, bins, board, first, docket⟩, fun isOpen _ =>
        askTrayClose_closes_of (dropFault_open flies (s := closed s) (r := r) holds (some .bay) isOpen)⟩
    · have is : gripMiss (closed s) = dropFault (some .printer) (closed s) := by
        rw [gripMiss_of_other errand' work (fun i no => by rw [source, at_] at no; cases no), missDrop, at_]
      obtain ⟨halted, cause, tower, lift, swing, jobs, bins, board, first, docket⟩ :=
        dropFault_lost flies (s := closed s) (r := r) holds .printer
      have named : ({ q with dest := e.dest } : Task).bay = (match e.dest with | .bay x => some x | _ => none) := by
        simp only [Task.bay, at_]
        cases e.dest <;> rfl
      rw [named] at first
      exact ⟨_, runs is, halted, cause, tower, lift, swing, jobs, bins, board, first, docket⟩
  · refine ⟨_, exec_dropStopped on carrying stopped, ?_, ?_, ?_, ?_, ?_, ?_, ?_, ?_, ?_, fun first => ?_⟩
    · rw [reportFault_transport]; exact stopped
    · rw [reportFault_transport]; rfl
    · rw [reportFault_transport]; rfl
    · rw [reportFault_transport]; rfl
    · simp
    · simp
    · simp [State.sameWork]
    · simp
    · simp
    · rw [reportFault_faults, FaultRecord.after_of_clean (by simpa using first)]
      simp
  · intro l still stall gives acts
    refine ⟨fun phase => ?_, fun phase => ?_, fun phase => ?_, fun leg phase away => ?_, fun e phase at_ errand => ?_, fun leg phase at_ => ?_,
      fun leg e st phase errand station => ?_, fun e i errand source phase => ?_, fun e b errand source phase => ?_,
      fun e errand source phase => ?_, fun e errand phase => ?_, fun phase contact => ?_, fun phase off away => ?_,
      fun e i q r phase off at_ busy errand source work holds loaded => ?_, fun phase at_ busy => ?_, fun phase off => ?_,
      fun q r j phase on busy flies holds held => ?_, fun e i busy errand source => ?_⟩
    · have step := armStep_homeUp moving phase
      refine ⟨fun on => step.trans (if_pos on), fun off => step.trans ?_⟩
      rw [off]
      rfl
    · rw [armStep_homeDown moving phase]
      refine ⟨fun off => by rw [off]; rfl, fun on => ?_⟩
      show armStep s = _
      rw [armStep_homeDown moving phase, if_pos on]
      rfl
    · refine ⟨fun there => ?_, fun off driven => ?_, fun off idle => ?_⟩
      · rw [armStep_homeSwing moving phase, turnStep_of_there (side := .bin) there]
        rfl
      · rw [armStep_homeSwing moving phase, turnStep_of_turning (side := .bin) off driven]
      · show armStep s = _
        rw [armStep_homeSwing moving phase, turnStep_of_still (side := .bin) off idle]
        rfl
    · rcases phase with phase | phase | phase | phase
      · rw [armStep_raise moving phase, if_neg away]
      · rw [armStep_lift moving phase, if_neg away]
      · rw [armStep_returnRetry moving phase, if_neg away]
      · rw [armStep_returnEnd moving phase, if_neg away]
    · have leg : beginLeg .place s = startMove (s.position e.dest) (setPhase (.lift .place) s) := by
        simp [beginLeg, errand, Errand.station]
      rw [armStep_raise moving phase, if_pos at_, leg]
      rfl
    · show armStep s = _
      rw [armStep_lift moving phase, if_pos at_]
      rfl
    · intro side there
      have station' : (s.transport.errand.bind fun e => e.station leg) = some st := by
        rw [errand, Option.bind_some]
        obtain ⟨rfl, source⟩ | ⟨rfl, dest⟩ := station
        · exact source
        · exact congrArg some dest
      have side_ : st.side = side := by cases st <;> rfl
      have sensor : s.sensor side.sensor = there := by cases st <;> rfl
      have step := armStep_turn moving phase station'
      rw [side_] at step
      refine ⟨fun at_ => ?_, fun off driven => ?_, fun off idle => ?_⟩
      · exact step.trans (turnStep_of_there (sensor.trans at_))
      · exact step.trans (turnStep_of_turning (sensor.trans off) driven)
      · exact step.trans (turnStep_of_still (sensor.trans off) idle)
    · intro f stack mayRead
      have step := armStep_reads moving errand source phase
      have floor : s.floor i = f := by cases i <;> rfl
      have sensor : s.sensor i.stack = stack := by cases i <;> rfl
      have descent := startDescent_eq i s
      rw [floor] at descent
      refine ⟨fun no => step.trans (if_neg no), fun may on near => ?_, fun may on far => ?_, fun q r may off work holds => ?_⟩
      · refine step.trans ((if_pos may).trans ?_)
        rw [readStack, sensor, if_pos on, descent, if_pos near]
        rfl
      · refine step.trans ((if_pos may).trans ?_)
        rw [readStack, sensor, if_pos on, descent, if_neg (Nat.not_le.mpr far)]
        rfl
      · have read : readStack i s = pickEmpty i s := by rw [readStack, sensor, off]; rfl
        obtain ⟨docket, bins, arm⟩ := pickEmpty_spec errand work holds i
        refine ⟨_, step.trans ((if_pos may).trans (congrArg some read)), docket, bins, fun ready busy => ?_⟩
        have stop : stopPick (unqueueTask q.docket (emptied i s)) = _ := stopPick_of_leg (by
          change (emptied i s).transport.state = _
          rw [(emptied_frame ..).2.1, busy]) (.inr (.inr (by
          change (emptied i s).transport.phase = _
          rw [(emptied_frame ..).2.1, ready])))
        have free : (pickEmpty i s).transport = Transport.free (unqueueTask q.docket (emptied i s)).transport := by
          rw [arm, stop, endErrand_transport]
        have state : (unqueueTask q.docket (emptied i s)).transport.state = .busy := by
          change (emptied i s).transport.state = _
          rw [(emptied_frame ..).2.1, busy]
        rw [free, Transport.free, if_neg (by rw [state]; nofun), state]
        exact ⟨rfl, rfl⟩
    · have step := (armStep_readyPick moving phase).trans (readyPick_of_bay errand source)
      exact ⟨fun may => step.trans (if_pos may), fun no => step.trans (if_neg no)⟩
    · have step := (armStep_readyPick moving phase).trans (readyPick_of_printer errand source)
      exact ⟨fun may => step.trans (if_pos may), fun no => step.trans (if_neg no)⟩
    · intro free
      have step := (armStep_readyPlace moving phase).trans (readyPlace_of errand)
      have ready : s.placeReady e.dest = true ↔ free := by
        simp only [free]
        cases e.dest <;> simp [State.placeReady]
      exact ⟨fun may => step.trans (if_pos (ready.mpr may)), fun no => step.trans (if_neg (mt ready.mp no))⟩
    · show armStep s = _
      rw [armStep_descend moving phase, if_pos contact]
      rfl
    · rw [armStep_descend moving phase, off, if_neg away]
      rfl
    · obtain ⟨docket, bins, arm⟩ := pickEmpty_spec errand work holds i
      refine ⟨pickEmpty i s, ?_, bins loaded, docket, ?_⟩
      · rw [armStep_descend moving phase, off, if_pos at_, pickBin_of errand source]
        rfl
      · have stop : stopPick (unqueueTask q.docket (emptied i s)) = _ := stopPick_of_return (by
          change (emptied i s).transport.state = _
          rw [(emptied_frame ..).2.1, busy]) (.inl (by
          change (emptied i s).transport.phase = _
          rw [(emptied_frame ..).2.1, phase]))
        rw [arm, stop, returnToEnd_of (s := unqueueTask q.docket (emptied i s)) (e := e) (by
          change (emptied i s).transport.errand = _
          rw [(emptied_frame ..).2.1, errand]) source]
        rfl
    · refine ⟨_, (armStep_returnEnd moving phase).trans (if_pos at_), ?_⟩
      rw [endErrand_transport, Transport.free, if_neg (by rw [busy]; nofun), busy]
      exact ⟨rfl, rfl, rfl⟩
    · rw [armStep_awaitTray moving phase, off]
      rfl
    · obtain ⟨docket, others, printer⟩ := takeDisc_spec holds held
      obtain ⟨⟨pending, tower, regs, board⟩, jobs, bays, bins, sensors, faults, arm⟩ := takeDisc_keeps q.docket s
      have step : armStep s = some (endErrand (takeDisc q.docket s)) := by
        rw [armStep_awaitTray moving phase, if_pos on, placedAtPrinter_of flies]
      refine ⟨_, step, by rw [endErrand_docket, docket], fun d other => by rw [endErrand_docket, others d other], ?_, ?_,
        by simp [State.sameHost], by simp, by simp, by simp, by simp, by simp⟩
      · have same : (endErrand (takeDisc q.docket s)).printer = (takeDisc q.docket s).printer := by simp
        rw [same, printer]
        rfl
      · rw [endErrand_transport, arm, Transport.free, if_neg (by rw [busy]; nofun), busy]
        rfl
    · refine ⟨fun phase => ?_, fun phase => ?_, fun phase => ?_, fun phase => ?_⟩
      · rw [stopPick_of_return busy phase, returnToEnd_of errand source]
        rfl
      · rw [stopPick_of_grip busy phase, errand]
        rfl
      · rw [stopPick_of_miss busy phase, errand]
        rfl
      · rw [stopPick_of_leg busy phase, endErrand_transport, Transport.free, if_neg (by rw [busy]; nofun), busy]
        exact ⟨rfl, rfl, rfl, rfl⟩

end Sys2Proof.Machine
end

section
/-! PROOFS. A command over every bay, the plausibility of a geometry, and the recovery sweep (O51). -/

namespace Sys2Proof.Machine

variable {s t u v : State} {b : BayNo} {e : Errand}

/-! ### A command given to every bay, each time in that bay alone -/

/-- A command run over a list of bays, which reads and writes the record of its own bay alone while `keeps` holds. -/
theorem foldl_bay (f : State → BayNo → State) (g : BayNo → Bay → Bay) (keeps : State → Prop) (stays : ∀ u b, keeps u → keeps (f u b))
    (own : ∀ u b x, keeps u → (f u b).bay x = if x = b then g b (u.bay b) else u.bay x) {ls : List BayNo} (once : ls.Nodup)
    (held : keeps s) (x : BayNo) : (ls.foldl f s).bay x = if x ∈ ls then g x (s.bay x) else s.bay x := by
  induction ls generalizing s with
  | nil => simp
  | cons b rest ih =>
    obtain ⟨fresh, tail⟩ := List.nodup_cons.mp once
    have first := own s b x held
    rw [List.foldl_cons, ih tail (stays s b held), first]
    by_cases same : x = b
    · subst same
      simp [fresh]
    · simp [same]

/-- Such a command over every bay. -/
theorem foldl_allBays (f : State → BayNo → State) (g : BayNo → Bay → Bay) (keeps : State → Prop) (stays : ∀ u b, keeps u → keeps (f u b))
    (own : ∀ u b x, keeps u → (f u b).bay x = if x = b then g b (u.bay b) else u.bay x) (held : keeps s) (x : BayNo) :
    (Config.allBays.foldl f s).bay x = g x (s.bay x) :=
  (foldl_bay f g keeps stays own (by decide) held x).trans (if_pos (mem_allBays x))

/-! ### The plausibility of a geometry (R177) -/

theorem lt_foldl_max_iff (n : Nat) (l : List Nat) (m : Nat) : n < l.foldl max m ↔ n < m ∨ ∃ x ∈ l, n < x := by
  induction l generalizing m with
  | nil => simp
  | cons x rest ih =>
    rw [List.foldl_cons, ih, lt_max_iff]
    simp [or_assoc]

theorem mem_stations (c : Calibration) (x : Nat) : x ∈ c.stations ↔ ∃ i : Fin 17, c.stations.get i = x := by
  rw [Vector.mem_iff_getElem]
  exact ⟨fun ⟨i, lt, at_⟩ => ⟨⟨i, lt⟩, at_⟩, fun ⟨i, at_⟩ => ⟨i.val, i.isLt, at_⟩⟩

theorem plausible_iff (c : Calibration) : c.plausible = true ↔
    c.floorA ≤ 200000 ∧ c.floorB ≤ 200000 ∧ (∀ i : Fin 17, c.stations.get i ≤ 200000)
    ∧ (1 ≤ c.startDuty ∧ c.startDuty ≤ 1000) ∧ (1 ≤ c.cruiseDuty ∧ c.cruiseDuty ≤ 1000)
    ∧ (1 ≤ c.creepDuty ∧ c.creepDuty ≤ 1000) ∧ (1 ≤ c.rampStep ∧ c.rampStep ≤ 1000)
    ∧ (c.braking < c.floorA ∨ c.braking < c.floorB ∨ ∃ i : Fin 17, c.braking < c.stations.get i) := by
  have reach : c.braking < c.positions.foldl max 0 ↔
      c.braking < c.floorA ∨ c.braking < c.floorB ∨ ∃ i : Fin 17, c.braking < c.stations.get i := by
    rw [lt_foldl_max_iff]
    simp [Calibration.positions, mem_stations]
  have within : (∀ x ∈ c.positions, x ≤ 200000) ↔
      c.floorA ≤ 200000 ∧ c.floorB ≤ 200000 ∧ ∀ i : Fin 17, c.stations.get i ≤ 200000 := by
    simp [Calibration.positions, mem_stations]
  unfold Calibration.plausible
  simp only [Bool.and_eq_true, List.all_eq_true, decide_eq_true_eq, within, reach, List.mem_cons, List.not_mem_nil, or_false,
    forall_eq_or_imp, forall_eq, and_assoc]

/-! ### The end of DISCOVERING (R175, R178) -/

theorem State.discovered_iff (s : State) : s.discovered = true ↔
    ∀ b : BayNo, (s.bay b).installed = true → (s.bay b).state ≠ .discovering ∧ (s.bay b).state ≠ .resetting := by
  simp [State.discovered, mem_allBays, or_iff_not_imp_left]

/-- A bay as the sweep probes begin. -/
def Bay.swept (r : Bay) : Bay :=
  if r.installed = true ∧ (r.state = .idle ∨ r.state = .spare) then
    { r with state := .probing, sweepProbe := some r.state
             reqs := if r.reqs.any (fun o => o.req == .probe) then r.reqs else
               r.reqs ++ [{ req := .probe, purpose := .sweep, left := timeoutOf .probe }] }
  else if r.installed = true ∧ r.state = .absent then { r with stranded := true }
  else r

theorem beginProbe_of_ready (installed : (s.bay b).installed = true) (ready : (s.bay b).state = .idle ∨ (s.bay b).state = .spare) :
    beginProbe b s = setBayState b .probing (sendReq b .probe .sweep .probe
      (s.setBay b { s.bay b with sweepProbe := some (s.bay b).state })) := by
  obtain state | state := ready <;> simp [beginProbe, installed, state]

theorem beginProbe_of_absent (installed : (s.bay b).installed = true) (state : (s.bay b).state = .absent) :
    beginProbe b s = s.setBay b { s.bay b with stranded := true } := by
  simp [beginProbe, installed, state]

theorem beginProbe_of_other (other : ¬ ((s.bay b).installed = true
    ∧ ((s.bay b).state = .idle ∨ (s.bay b).state = .spare ∨ (s.bay b).state = .absent))) : beginProbe b s = s := by
  unfold beginProbe
  dsimp only
  split
  · split <;> simp_all
  · rfl

theorem beginProbe_bay (b x : BayNo) (s : State) : (beginProbe b s).bay x = if x = b then (s.bay b).swept else s.bay x := by
  by_cases ready : (s.bay b).installed = true ∧ ((s.bay b).state = .idle ∨ (s.bay b).state = .spare)
  · rw [beginProbe_of_ready ready.1 ready.2, setBayState_bay, sendReq_bay, sendReq_bay, State.bay_setBay, State.bay_setBay,
      if_pos rfl, if_pos rfl, Bay.swept, if_pos ready]
    simp only [State.hasReq, State.bay_setBay, if_pos]
    split <;> rfl
  · by_cases lost : (s.bay b).installed = true ∧ (s.bay b).state = .absent
    · rw [beginProbe_of_absent lost.1 lost.2, State.bay_setBay, Bay.swept, if_neg ready, if_pos lost]
    · rw [beginProbe_of_other (by tauto), Bay.swept, if_neg ready, if_neg lost]
      split <;> simp_all

/-- The tower and the transport as the sweep begins. -/
def sweepBegun (s : State) : State := setTower .sweeping { s with transport := { s.transport with stage := .arm, sweepList := [] } }

theorem endDiscovering_of_ended (tower : s.tower.state = .discovering) (found : s.discovered = true) :
    endDiscovering s = some (Config.allBays.foldl (fun u b => beginProbe b u) (sweepBegun s)) := if_pos ⟨tower, found⟩

theorem sweepBegun_bay (s : State) (b : BayNo) : (sweepBegun s).bay b = s.bay b := by
  rw [sweepBegun, setTower_bay]
  rfl

theorem probes_bay (u : State) (b : BayNo) : (Config.allBays.foldl (fun u b => beginProbe b u) u).bay b = (u.bay b).swept :=
  foldl_allBays _ (fun _ => Bay.swept) (fun _ => True) (fun _ _ _ => trivial) (fun u b x _ => beginProbe_bay b x u) trivial b

/-- What the sweep probes leave as it was. -/
theorem probes_frame (u : State) :
    (Config.allBays.foldl (fun u b => beginProbe b u) u).tower = u.tower
    ∧ (Config.allBays.foldl (fun u b => beginProbe b u) u).transport = u.transport :=
  ⟨foldl_same (fun u : State => u.tower) _ (fun _ _ => by simp) _ _,
    foldl_same (fun u : State => u.transport) _ (fun _ _ => by simp) _ _⟩

/-- The clause on the end of DISCOVERING. -/
theorem endDiscovering_spec (s : State) :
    let ended : Prop := s.tower.state = .discovering
      ∧ ∀ b : BayNo, (s.bay b).installed = true → (s.bay b).state ≠ .discovering ∧ (s.bay b).state ≠ .resetting
    (¬ ended → endDiscovering s = none)
    ∧ (ended → ∃ t : State, endDiscovering s = some t ∧ s.sameWork t ∧ s.samePlant t ∧ t.regs = s.regs
      ∧ t.tower.state = .sweeping ∧ t.transport.stage = .arm ∧ t.transport.sweepList = []
      ∧ t.transport.state = s.transport.state ∧ t.transport.armDisc = s.transport.armDisc ∧ t.faults = s.faults
      ∧ ∀ b : BayNo,
        let probed := (s.bay b).installed = true ∧ ((s.bay b).state = .idle ∨ (s.bay b).state = .spare)
        let lost := (s.bay b).installed = true ∧ (s.bay b).state = .absent
        (probed → (t.bay b).state = .probing ∧ t.hasReq b .probe = true ∧ (t.bay b).sweepProbe = some (s.bay b).state)
        ∧ (lost → t.bay b = { s.bay b with stranded := true })
        ∧ (¬ probed → ¬ lost → t.bay b = s.bay b)) := by
  intro ended
  refine ⟨fun going => if_neg fun ⟨tower, found⟩ => going ⟨tower, (s.discovered_iff).mp found⟩, fun ⟨tower, found⟩ => ?_⟩
  have end_ := endDiscovering_of_ended tower ((s.discovered_iff).mpr found)
  obtain ⟨-, regs, -, faults, jobs, dockets, sensors, bins, -, -, printer, -⟩ := endDiscovering_frame s _ end_
  obtain ⟨kept, arm⟩ := probes_frame (sweepBegun s)
  have begun : (sweepBegun s).transport = { s.transport with stage := .arm, sweepList := [] } := by simp [sweepBegun]
  refine ⟨_, end_, ⟨jobs, dockets⟩, ⟨sensors, bins, printer⟩, regs, by rw [kept]; exact setTower_state .., by rw [arm, begun],
    by rw [arm, begun], by rw [arm, begun], by rw [arm, begun], faults, fun b => ?_⟩
  intro probed lost
  have bay := (probes_bay (sweepBegun s) b).trans (congrArg Bay.swept (sweepBegun_bay s b))
  simp only [State.hasReq, bay]
  refine ⟨fun on => ?_, fun gone => ?_, fun off here => ?_⟩
  · rw [Bay.swept, if_pos on]
    refine ⟨rfl, ?_, rfl⟩
    dsimp only
    split <;> simp [*]
  · rw [Bay.swept, if_neg (by rintro ⟨-, idle | spare⟩ <;> simp_all [lost]), if_pos gone]
  · rw [Bay.swept, if_neg off, if_neg here]

/-! ### The answer to a probe of the sweep (R178) -/

theorem mem_listForSweep (b x : BayNo) (s : State) :
    x ∈ (listForSweep b s).transport.sweepList ↔ x = b ∨ x ∈ s.transport.sweepList := by
  unfold listForSweep
  split
  · rename_i listed
    have there : b ∈ s.transport.sweepList := List.contains_iff_mem.mp listed
    exact ⟨.inr, fun h => h.elim (fun same => same ▸ there) id⟩
  · simp [mem_allBays]

/-- The bay of a sweep probe that has been answered. -/
def probeAnswered (b : BayNo) (s : State) : State :=
  (dropReq b .probe s).setBay b { (dropReq b .probe s).bay b with sweepProbe := none }

theorem probeAnswered_bay (b x : BayNo) (s : State) : (probeAnswered b s).bay x =
    if x = b then { s.bay b with reqs := (s.bay b).reqs.eraseP fun o => o.req == .probe, sweepProbe := none } else s.bay x := by
  rw [probeAnswered, State.bay_setBay, dropReq_bay, dropReq_bay, if_pos rfl]
  split <;> simp_all

@[simp] theorem probeAnswered_frame (b : BayNo) (s : State) : (probeAnswered b s).pending = s.pending ∧ (probeAnswered b s).tower = s.tower
    ∧ (probeAnswered b s).regs = s.regs ∧ (probeAnswered b s).board = s.board ∧ (probeAnswered b s).jobs = s.jobs
    ∧ (probeAnswered b s).dockets = s.dockets ∧ (probeAnswered b s).sensors = s.sensors ∧ (probeAnswered b s).bins = s.bins
    ∧ (probeAnswered b s).printer = s.printer ∧ (probeAnswered b s).faults = s.faults
    ∧ (probeAnswered b s).transport = s.transport := by
  simp [probeAnswered]

/-- A bay that is not failing returns to the state it left. -/
def bayReturned (b : BayNo) (left : BayState) (s : State) : State :=
  if left = .spare then setBayState b .spare (probeAnswered b s) else triggerRound (setBayState b .idle (probeAnswered b s))

theorem bayReturned_bay (b x : BayNo) {left : BayState} (known : left = .idle ∨ left = .spare) (s : State) :
    (bayReturned b left s).bay x = if x = b then { s.bay b with
      state := left, reqs := (s.bay b).reqs.eraseP fun o => o.req == .probe, sweepProbe := none } else s.bay x := by
  unfold bayReturned
  obtain rfl | rfl := known
  · rw [if_neg nofun, State.bay_congr (s := setBayState b .idle (probeAnswered b s)) (by simp), setBayState_bay, probeAnswered_bay,
      probeAnswered_bay, if_pos rfl]
    split <;> rfl
  · rw [if_pos rfl, setBayState_bay, probeAnswered_bay, probeAnswered_bay, if_pos rfl]
    split <;> rfl

@[simp] theorem bayReturned_frame (b : BayNo) (left : BayState) (s : State) : (bayReturned b left s).pending = s.pending
    ∧ (bayReturned b left s).tower = s.tower ∧ (bayReturned b left s).regs = s.regs ∧ (bayReturned b left s).board = s.board
    ∧ (bayReturned b left s).jobs = s.jobs ∧ (bayReturned b left s).dockets = s.dockets ∧ (bayReturned b left s).sensors = s.sensors
    ∧ (bayReturned b left s).bins = s.bins ∧ (bayReturned b left s).printer = s.printer ∧ (bayReturned b left s).faults = s.faults
    ∧ (bayReturned b left s).transport = s.transport := by
  unfold bayReturned
  split <;> simp

theorem endSweepProbe_of_sound {left : BayState} (probe : (s.bay b).sweepProbe = some left) (sound : (s.bay b).failing = false)
    (known : left = .idle ∨ left = .spare) : endSweepProbe b (dropReq b .probe s) = bayReturned b left s := by
  have here : ((dropReq b .probe s).bay b).sweepProbe = some left := by rw [dropReq_bay, if_pos rfl]; exact probe
  have sound' : ((probeAnswered b s).bay b).failing = false := by rw [probeAnswered_bay, if_pos rfl]; exact sound
  change (if ((dropReq b .probe s).bay b).sweepProbe = some .spare then enterSpare b (probeAnswered b s)
    else enterIdle b (probeAnswered b s)) = _
  rw [here]
  obtain rfl | rfl := known
  · rw [if_neg nofun, enterIdle_of_sound sound']
    rfl
  · rw [if_pos rfl, enterSpare, sound']
    rfl

theorem onMedia_of_sweep {kind : MediaKind} {cls : MediaClass} {cap : Nat} {left : BayState} (asked : s.hasReq b .probe = true)
    (empty : (s.bay b).docket = none) (probe : (s.bay b).sweepProbe = some left) : onMedia b kind cls cap s =
      if kind = .none then endSweepProbe b (dropReq b .probe s) else listForSweep b (endSweepProbe b (dropReq b .probe s)) := by
  rw [onMedia, if_pos asked, empty, probe]

/-- The clause on the answer to a probe of the sweep. -/
theorem media_spec (b : BayNo) (kind : MediaKind) (cls : MediaClass) (cap : Nat) (left : BayState) (s : State)
    (asked : s.hasReq b .probe = true) (empty : (s.bay b).docket = none) (probe : (s.bay b).sweepProbe = some left)
    (sound : (s.bay b).failing = false) (known : left = .idle ∨ left = .spare) :
    ∃ t : State, exec (.media b kind cls cap) s = .next (conclude t)
      ∧ s.sameHost t ∧ s.sameWork t ∧ s.samePlant t ∧ s.otherBays t b ∧ t.faults = s.faults
      ∧ (t.bay b).state = left ∧ (t.bay b).sweepProbe = none ∧ (t.bay b).soft = (s.bay b).soft ∧ (t.bay b).hard = (s.bay b).hard
      ∧ ∀ x : BayNo, x ∈ t.transport.sweepList ↔ x ∈ s.transport.sweepList ∨ (x = b ∧ kind ≠ .none) := by
  have media : onMedia b kind cls cap s =
      if kind = .none then bayReturned b left s else listForSweep b (bayReturned b left s) := by
    rw [onMedia_of_sweep asked empty probe, endSweepProbe_of_sound probe sound known]
  have bays (x : BayNo) : (onMedia b kind cls cap s).bay x = (bayReturned b left s).bay x := by
    rw [media]
    split <;> simp
  have self := (bays b).trans (bayReturned_bay b b known s)
  rw [if_pos rfl] at self
  refine ⟨onMedia b kind cls cap s, rfl, ?_, ?_, ?_, fun x other => ?_, ?_, by rw [self], by rw [self], by rw [self], by rw [self],
    fun x => ?_⟩
  · rw [media]
    split <;> simp [State.sameHost]
  · rw [media]
    split <;> simp [State.sameWork]
  · rw [media]
    split <;> simp [State.samePlant]
  · rw [bays, bayReturned_bay b x known, if_neg other]
  · rw [media]
    split <;> simp
  · rw [media]
    by_cases nothing : kind = .none
    · simp [nothing]
    · rw [if_neg nothing, mem_listForSweep, (bayReturned_frame b left s).2.2.2.2.2.2.2.2.2.2]
      simp [nothing, or_comm]

end Sys2Proof.Machine
end

section
/-! PROOFS. The next move of the recovery sweep (O51). -/

namespace Sys2Proof.Machine

variable {s t u v : State} {b : BayNo} {e : Errand}

/-- The sweep may make its next move. -/
def State.sweeps (s : State) : Prop := s.tower.state = .sweeping ∧ s.transport.state = .sweeping ∧ s.transport.errand = none

/-- A sweep move in hand, with the stage that follows it. -/
def swept (p : Phase) (e : Errand) (stage : SweepStage) (carry : Bool) (s : State) : State :=
  { s with transport := { s.transport with phase := p, errand := some e, stage := stage, carrying := carry } }

/-- A sweep probe is out. -/
def State.probeOut (s : State) : Prop := ∃ b : BayNo, (s.bay b).sweepProbe ≠ none

/-- A bay taken from the sweep's list. -/
def passed (rest : List BayNo) (s : State) : State := { s with transport := { s.transport with sweepList := rest } }

theorem sweepStep_of_not (rests : ¬ s.sweeps) : sweepStep s = none := if_neg rests

theorem sweepStep_arm (sweeps : s.sweeps) (stage : s.transport.stage = .arm) : sweepStep s =
    if s.transport.armDisc then
      some (startMove (s.position (.output .reject)) (swept (.lift .place) (sweepErrand none true) .printer true s))
    else some (setStage .printer s) := by
  refine (if_pos sweeps).trans ?_
  rw [stage]
  rfl

theorem sweepStep_printer (sweeps : s.sweeps) (stage : s.transport.stage = .printer) : sweepStep s =
    if s.sensor .trayPresent then
      some (startMove (s.position .printer)
        (swept (.lift .pick) (sweepErrand (some .printer) false) .bays s.transport.carrying s))
    else some (setStage .bays s) := by
  refine (if_pos sweeps).trans ?_
  rw [stage]
  rfl

theorem any_sweepProbe_iff (s : State) : (Config.allBays.any fun b => (s.bay b).sweepProbe.isSome) = true ↔ s.probeOut := by
  simp [State.probeOut, mem_allBays, Option.isSome_iff_ne_none]

theorem sweepStep_probing (sweeps : s.sweeps) (stage : s.transport.stage = .bays) (out : s.probeOut) : sweepStep s = none := by
  refine (if_pos sweeps).trans ?_
  rw [stage]
  exact if_pos ((any_sweepProbe_iff s).mpr out)

theorem sweepStep_ended (sweeps : s.sweeps) (stage : s.transport.stage = .bays) (answered : ¬ s.probeOut)
    (done : s.transport.sweepList = []) : sweepStep s = some (setTower .running (setTransport .free s)) := by
  refine (if_pos sweeps).trans ?_
  rw [stage, done]
  exact if_neg (mt (any_sweepProbe_iff s).mp answered)

theorem sweepStep_bay {rest : List BayNo} (sweeps : s.sweeps) (stage : s.transport.stage = .bays) (answered : ¬ s.probeOut)
    (next : s.transport.sweepList = b :: rest) : sweepStep s = some (sweepBay b rest s) := by
  refine (if_pos sweeps).trans ?_
  rw [stage, next]
  exact if_neg (mt (any_sweepProbe_iff s).mp answered)

/-! ### The tower's entry into RUNNING (R175) -/

theorem setTower_running (entered : s.tower.state ≠ .running) : (setTower .running s).tower.reachedRunning = true
    ∧ (s.regs.run = true → (setTower .running s).roundDue = true) := by
  rw [setTower, if_neg entered, if_pos rfl]
  refine ⟨by simp, fun run => ?_⟩
  refine triggerRound_roundDue (.inl ?_) ?_ <;> simp [run]

/-! ### A bay of the sweep's list (R67, R179) -/

theorem sweepBay_of_retired (rest : List BayNo) (state : (s.bay b).state = .retired) : sweepBay b rest s = passed rest s := by
  rw [sweepBay, state]
  rfl

theorem sweepBay_of_reset (rest : List BayNo) (state : (s.bay b).state = .resetting ∨ (s.bay b).state = .discovering) :
    sweepBay b rest s = (passed rest s).setBay b { s.bay b with stranded := true } := by
  obtain state | state := state <;> rw [sweepBay, state] <;> rfl

/-- The bay asked for its tray, with the move in hand. -/
def bayAsked (b : BayNo) (rest : List BayNo) (s : State) : State :=
  askTrayOpen b .sweep (setErrand (some (sweepErrand (some (.bay b)) false)) (passed rest s))

theorem sweepBay_of_other (rest : List BayNo) (live : (s.bay b).state ≠ .retired)
    (working : (s.bay b).state ≠ .resetting ∧ (s.bay b).state ≠ .discovering) :
    sweepBay b rest s = beginLeg .pick (bayAsked b rest s) := by
  unfold sweepBay
  dsimp only
  split
  · simp_all
  · simp_all
  · simp_all
  · rfl

theorem askTrayOpen_asks {p : Purpose} (shut : ¬ ((s.bay b).tray = .open ∧ s.hasReq b .trayClose = false)) :
    (askTrayOpen b p s).hasReq b .trayOpen = true
    ∧ ((s.bay b).state ≠ .absent → ((askTrayOpen b p s).bay b).state = .opening) := by
  rw [askTrayOpen, if_neg shut]
  by_cases here : (s.bay b).state = .absent
  · simp [here, sendReq_hasReq]
  · simp [here, sendReq_hasReq, setBayState_bay]

/-- A bay of the list that can be emptied: its tray is asked for and the move begins. -/
theorem sweepBay_moves (rest : List BayNo) (live : (s.bay b).state ≠ .retired)
    (working : (s.bay b).state ≠ .resetting ∧ (s.bay b).state ≠ .discovering) :
    let t := sweepBay b rest s
    t.transport.errand = some (sweepErrand (some (.bay b)) false) ∧ t.transport.phase = .lift .pick
    ∧ t.transport.sweepList = rest ∧ t.transport.lift = (startMove (s.position (.bay b)) s).transport.lift
    ∧ s.otherBays t b ∧ s.sameWork t ∧ s.samePlant t
    ∧ ((s.bay b).tray = .open → s.hasReq b .trayClose = false → (s.bay b).state ≠ .absent →
        (t.bay b).state = .open ∧ t.out = s.out)
    ∧ (¬ ((s.bay b).tray = .open ∧ s.hasReq b .trayClose = false) → t.hasReq b .trayOpen = true
      ∧ ((s.bay b).state ≠ .absent → (t.bay b).state = .opening)) := by
  intro t
  have asked : t = beginLeg .pick (bayAsked b rest s) := sweepBay_of_other rest live working
  have before : (bayAsked b rest s).transport =
      { s.transport with sweepList := rest, errand := some (sweepErrand (some (.bay b)) false) } := by
    rw [bayAsked, (askTrayOpen_frame ..).2.2.2.2.2.2.2.2.1]
    rfl
  have tower : (bayAsked b rest s).tower = s.tower := (askTrayOpen_frame ..).2.1
  have arm : t.transport = _ := (congrArg State.transport asked).trans
    (beginLeg_transport (leg := .pick) (e := sweepErrand (some (.bay b)) false) (st := .bay b) (by rw [before]) rfl)
  have lift : (bayAsked b rest s).transport.lift.moveTo (bayAsked b rest s).cal ((bayAsked b rest s).position (.bay b))
      = s.transport.lift.moveTo s.cal (s.position (.bay b)) := by
    rw [before]
    simp only [State.position, State.cal, tower]
  have bays (x : BayNo) : t.bay x = (bayAsked b rest s).bay x := by rw [asked, beginLeg_bay]
  have reqs (q : Request) : t.hasReq b q = (bayAsked b rest s).hasReq b q := State.hasReq_congr (bays b) q
  refine ⟨by rw [arm, before], by rw [arm], by rw [arm, before], by rw [arm]; exact lift, fun x other => ?_, ?_, ?_,
    fun tray unasked here => ?_, fun shut => ?_⟩
  · rw [bays, bayAsked, askTrayOpen_bay_other _ _ other]
    rfl
  · rw [asked]
    simp [State.sameWork, bayAsked, passed, setErrand]
  · rw [asked]
    simp [State.samePlant, bayAsked, passed, setErrand]
  · obtain ⟨silent, bay⟩ := askTrayOpen_of_open (s := setErrand (some (sweepErrand (some (.bay b)) false)) (passed rest s)) .sweep
      ⟨tray, unasked⟩
    refine ⟨by rw [bays, bayAsked, bay]; exact if_neg here, ?_⟩
    have still : (beginLeg .pick (bayAsked b rest s)).out = (bayAsked b rest s).out := by simp
    rw [asked, still, bayAsked, silent]
    rfl
  · rw [bays, reqs]
    exact askTrayOpen_asks (s := setErrand _ (passed rest s)) shut

/-- The clause on the next move of the sweep. -/
theorem sweepStep_spec (s : State) :
    let sweeps := s.tower.state = .sweeping ∧ s.transport.state = .sweeping ∧ s.transport.errand = none
    let moved (p : Phase) (e : Errand) (stage : SweepStage) (carry : Bool) : State :=
      { s with transport := { s.transport with phase := p, errand := some e, stage := stage, carrying := carry } }
    let move (source : Option Station) (held : Bool) : Errand :=
      { work := .sweep, source := source, dest := .output .reject, held := held, misses := 0 }
    let probing := ∃ b : BayNo, (s.bay b).sweepProbe ≠ none
    (¬ sweeps → sweepStep s = none)
    ∧ (sweeps → s.transport.stage = .arm → s.transport.armDisc = true →
        sweepStep s = some (startMove (s.position (.output .reject)) (moved (.lift .place) (move none true) .printer true)))
    ∧ (sweeps → s.transport.stage = .arm → s.transport.armDisc = false →
        sweepStep s = some { s with transport := { s.transport with stage := .printer } })
    ∧ (sweeps → s.transport.stage = .printer → s.sensor .trayPresent = true →
        sweepStep s = some (startMove (s.position .printer)
          (moved (.lift .pick) (move (some .printer) false) .bays s.transport.carrying)))
    ∧ (sweeps → s.transport.stage = .printer → s.sensor .trayPresent = false →
        sweepStep s = some { s with transport := { s.transport with stage := .bays } })
    ∧ (sweeps → s.transport.stage = .bays → probing → sweepStep s = none)
    ∧ (sweeps → s.transport.stage = .bays → ¬ probing → s.transport.sweepList = [] → ∃ t : State, sweepStep s = some t
      ∧ t.tower.state = .running ∧ t.tower.reachedRunning = true ∧ t.transport.state = .free ∧ t.bays = s.bays ∧ s.sameWork t
      ∧ (s.regs.run = true → t.roundDue = true))
    ∧ (∀ b rest, sweeps → s.transport.stage = .bays → ¬ probing → s.transport.sweepList = b :: rest →
      let passed : State := { s with transport := { s.transport with sweepList := rest } }
      ((s.bay b).state = .retired → sweepStep s = some passed)
      ∧ ((s.bay b).state = .resetting ∨ (s.bay b).state = .discovering →
          sweepStep s = some (passed.setBay b { s.bay b with stranded := true }))
      ∧ ((s.bay b).state ≠ .retired → (s.bay b).state ≠ .resetting → (s.bay b).state ≠ .discovering → ∃ t : State, sweepStep s = some t
        ∧ t.transport.errand = some (move (some (.bay b)) false) ∧ t.transport.phase = .lift .pick
        ∧ t.transport.sweepList = rest ∧ t.transport.lift = (startMove (s.position (.bay b)) s).transport.lift
        ∧ s.otherBays t b ∧ s.sameWork t ∧ s.samePlant t
        ∧ ((s.bay b).tray = .open → s.hasReq b .trayClose = false → (s.bay b).state ≠ .absent →
            (t.bay b).state = .open ∧ t.out = s.out)
        ∧ (¬ ((s.bay b).tray = .open ∧ s.hasReq b .trayClose = false) → t.hasReq b .trayOpen = true
          ∧ ((s.bay b).state ≠ .absent → (t.bay b).state = .opening)))) := by
  intro sweeps moved move probing
  refine ⟨sweepStep_of_not, fun on stage disc => (sweepStep_arm on stage).trans (if_pos disc),
    fun on stage none_ => (sweepStep_arm on stage).trans (if_neg (by rw [none_]; nofun)),
    fun on stage disc => (sweepStep_printer on stage).trans (if_pos disc),
    fun on stage none_ => (sweepStep_printer on stage).trans (if_neg (by rw [none_]; nofun)), sweepStep_probing,
    fun on stage answered done => ⟨_, sweepStep_ended on stage answered done, ?_⟩, fun b rest on stage answered next => ?_⟩
  · have entered : (setTransport .free s).tower.state ≠ .running := by rw [(setTransport_frame ..).2.1, on.1]; nofun
    obtain ⟨reached, due⟩ := setTower_running entered
    refine ⟨setTower_state .., reached, by simp, by simp, by simp [State.sameWork], fun run => due (by simpa using run)⟩
  · intro passed
    have step := sweepStep_bay on stage answered next
    exact ⟨fun state => step.trans (congrArg some (sweepBay_of_retired rest state)),
      fun state => step.trans (congrArg some (sweepBay_of_reset rest state)),
      fun live a d => ⟨_, step, sweepBay_moves rest live ⟨a, d⟩⟩⟩

end Sys2Proof.Machine
end

section
/-! PROOFS. The end of homing (O51). -/

namespace Sys2Proof.Machine

variable {s t u v : State} {b : BayNo} {e : Errand} {q : Task}

/-- The count is trusted and the arm has no phase. -/
def homedArm (s : State) : State := setPhase .none (trustCount s)

theorem homedArm_transport (s : State) : (homedArm s).transport =
    { s.transport with phase := .none, lift := { s.transport.lift with trusted := true } } := rfl

@[simp] theorem homedArm_frame (s : State) : (homedArm s).pending = s.pending ∧ (homedArm s).tower = s.tower ∧ (homedArm s).regs = s.regs
    ∧ (homedArm s).jobs = s.jobs ∧ (homedArm s).dockets = s.dockets ∧ (homedArm s).sensors = s.sensors ∧ (homedArm s).bins = s.bins
    ∧ (homedArm s).printer = s.printer ∧ (homedArm s).bays = s.bays ∧ (homedArm s).faults = s.faults
    ∧ (homedArm s).health = s.health := ⟨rfl, rfl, rfl, rfl, rfl, rfl, rfl, rfl, rfl, rfl, rfl⟩

/-- No task is in hand. -/
def State.taskless (s : State) : Prop := ∀ e q, s.transport.errand = some e → e.work ≠ .task q

theorem finishHoming_of_task (errand : s.transport.errand = some e) (work : e.work = .task q) :
    finishHoming s = resumeTask q e (homedArm s) := by
  obtain ⟨w, source, dest, held, misses⟩ := e
  subst work
  rw [finishHoming, errand]
  rfl

/-- With no task in hand the tower's state says how the transport goes on. -/
theorem finishHoming_of_taskless (idle : s.taskless) :
    (s.tower.state = .homing → s.tower.reachedRunning = true → finishHoming s = setTower .running (setTransport .free (homedArm s)))
    ∧ (s.tower.state = .homing → s.tower.reachedRunning = false → finishHoming s = enterDiscovering (setTransport .sweeping
        { homedArm s with transport := { (homedArm s).transport with stage := .arm, armDisc := s.sensor .discPresent } }))
    ∧ (s.tower.state = .discovering ∨ s.tower.state = .sweeping → finishHoming s = resumeSweep (homedArm s))
    ∧ (s.tower.state ≠ .homing → s.tower.state ≠ .discovering → s.tower.state ≠ .sweeping →
        finishHoming s = setTransport .free (homedArm s)) := by
  unfold finishHoming
  split
  · rename_i errand
    exact absurd rfl (idle _ _ errand)
  · refine ⟨fun tower reached => ?_, fun tower reached => ?_, fun tower => ?_, fun h d w => ?_⟩
    · rw [tower]
      exact if_pos reached
    · rw [tower]
      exact if_neg (by rw [reached]; nofun)
    · obtain tower | tower := tower <;> rw [tower] <;> rfl
    · split
      · exact absurd ‹_› h
      · exact absurd ‹_› d
      · exact absurd ‹_› w
      · rfl

/-! ### The tower enters DISCOVERING (R178) -/

/-- A bay as the tower enters DISCOVERING. -/
def Bay.discovered (r : Bay) : Bay :=
  if r.undiscovered then { r with
    state := .discovering, identified := true
    reqs := if r.reqs.any (fun o => o.req == .identify) then r.reqs else
      r.reqs ++ [{ req := .identify, purpose := .normal, left := timeoutOf .identify }] }
  else r

theorem undiscovered_iff (r : Bay) : r.undiscovered = true ↔
    r.installed = true ∧ r.identified = false ∧ r.state ≠ .resetting := by
  simp [Bay.undiscovered, and_assoc]

theorem enterDiscovering_bay (s : State) (b : BayNo) : (enterDiscovering s).bay b = (s.bay b).discovered := by
  refine (foldl_allBays _ (fun _ => Bay.discovered) (fun _ => True) (fun _ _ _ => trivial) (fun u b x _ => ?_) trivial b).trans
    (congrArg Bay.discovered (setTower_bay ..))
  unfold Bay.discovered
  split
  · rw [discover_bay]
    rfl
  · split <;> simp_all

theorem enterDiscovering_tower (s : State) : (enterDiscovering s).tower = (setTower .discovering s).tower :=
  foldl_same (fun u : State => u.tower) _ (fun u b => by split <;> simp) _ _

/-- What a bay shows of its discovery. -/
theorem Bay.discovered_spec (r : Bay) :
    (r.installed = true ∧ r.identified = false ∧ r.state ≠ .resetting → r.discovered.state = .discovering
      ∧ (r.discovered.reqs.any fun o => o.req == .identify) = true ∧ r.discovered.identified = true)
    ∧ (¬ (r.installed = true ∧ r.identified = false ∧ r.state ≠ .resetting) → r.discovered = r) := by
  refine ⟨fun fresh => ?_, fun known => if_neg (mt (undiscovered_iff r).mp known)⟩
  rw [Bay.discovered, if_pos ((undiscovered_iff r).mpr fresh)]
  refine ⟨rfl, ?_, rfl⟩
  dsimp only
  split <;> simp [*]

/-! ### A task in hand (R66) -/

theorem resumeErrand_place (p : Purpose) (errand : s.transport.errand = some e) (held : e.held = true) :
    (resumeErrand p e s).transport =
      { s.transport with carrying := true, phase := .lift .place, lift := s.transport.lift.moveTo s.cal (s.position e.dest) } := by
  have before : (askAt e.dest p { s with transport := { s.transport with carrying := true } }).transport =
      { s.transport with carrying := true } := by simp
  have tower : (askAt e.dest p { s with transport := { s.transport with carrying := true } }).tower = s.tower := by simp
  rw [resumeErrand, if_pos held, beginLeg_transport (by rw [before]; exact errand) rfl, before]
  simp only [State.position, State.cal_congr tower]

/-- The trays asked for as a pick is begun again. -/
def pickAsked (p : Purpose) (source dest : Station) (s : State) : State := askAt dest p (askAt source p s)

theorem resumeErrand_pick {source : Station} (p : Purpose) (errand : s.transport.errand = some e) (free : e.held = false)
    (from_ : e.source = some source) : (resumeErrand p e s).transport =
      { s.transport with phase := .lift .pick, lift := s.transport.lift.moveTo s.cal (s.position source) } := by
  have before : (pickAsked p source e.dest s).transport = s.transport := by simp [pickAsked]
  have tower : (pickAsked p source e.dest s).tower = s.tower := by simp [pickAsked]
  have leg : resumeErrand p e s = beginLeg .pick (pickAsked p source e.dest s) := by
    rw [resumeErrand, if_neg (by rw [free]; nofun), from_]
    rfl
  rw [leg, beginLeg_transport (leg := .pick) (by rw [before]; exact errand) from_, before]
  simp only [State.position, State.cal_congr tower]

theorem Lift.moveTo_trusted (l : Lift) (c : Calibration) (target : Nat) :
    ({ l with trusted := true } : Lift).moveTo c target = { l.moveTo c target with trusted := true } := by
  have same : ({ l with trusted := true } : Lift).distance target = l.distance target := rfl
  by_cases near : l.distance target ≤ 4
  · rw [Lift.moveTo, Lift.moveTo, same, if_pos near, if_pos near]
    rfl
  · rw [Lift.moveTo, Lift.moveTo, same, if_neg near, if_neg near]
    rfl

/-- The transport at the end of a resume's homing, with a task in hand. -/
def busyArm (s : State) : State := setTransport .busy (homedArm s)

theorem busyArm_transport (s : State) : (busyArm s).transport =
    { s.transport with state := .busy, phase := .none, lift := { s.transport.lift with trusted := true } } := by
  rw [busyArm, setTransport_transport, homedArm_transport]

@[simp] theorem busyArm_frame (s : State) : (busyArm s).tower = s.tower ∧ (busyArm s).dockets = s.dockets := by simp [busyArm]

theorem busyArm_move (s : State) (st : Station) :
    (busyArm s).transport.lift.moveTo (busyArm s).cal ((busyArm s).position st)
      = { (startMove (s.position st) s).transport.lift with trusted := true } := by
  rw [busyArm_transport, Lift.moveTo_trusted]
  simp only [State.position, State.cal_congr (busyArm_frame s).1]
  rfl

theorem resumeTask_goes (goes : ¬ (e.held = true ∧ s.sensor .discPresent = false)) :
    resumeTask q e (homedArm s) = resumeErrand .normal e (busyArm s) := if_neg goes

theorem resumeTask_loses (held : e.held = true) (gone : s.sensor .discPresent = false) :
    resumeTask q e (homedArm s) = loseDisc true q.docket .arm (busyArm s) := if_pos ⟨held, gone⟩

/-- A task whose disc is in the gripper goes on with its place. -/
theorem finishHoming_place (errand : s.transport.errand = some e) (work : e.work = .task q) (held : e.held = true)
    (there : s.sensor .discPresent = true) : (finishHoming s).transport = { (busyArm s).transport with
      carrying := true, phase := .lift .place, lift := { (startMove (s.position e.dest) s).transport.lift with trusted := true } } := by
  rw [finishHoming_of_task errand work, resumeTask_goes (by rw [there]; simp),
    resumeErrand_place _ (by rw [busyArm_transport]; exact errand) held, busyArm_move]

/-- A task whose pick has not held begins its pick again. -/
theorem finishHoming_pick {source : Station} (errand : s.transport.errand = some e) (work : e.work = .task q) (free : e.held = false)
    (from_ : e.source = some source) : (finishHoming s).transport = { (busyArm s).transport with
      phase := .lift .pick, lift := { (startMove (s.position source) s).transport.lift with trusted := true } } := by
  rw [finishHoming_of_task errand work, resumeTask_goes (by rw [free]; simp),
    resumeErrand_pick _ (by rw [busyArm_transport]; exact errand) free from_, busyArm_move]

/-- A loss of the disc in hand frees the arm. -/
theorem loseDisc_transport {d : DocketNo} {r : Docket} (holds : s.docket d = some r) (flies : s.taskInFlight.map (·.docket) = some d)
    (place : Place) : (loseDisc true d place s).transport = (unqueueTask d (dropCause true d s)).transport.free := by
  have still : (unqueueTask d (dropCause true d s)).taskInFlight = s.taskInFlight := by
    have hand : (unqueueTask d (dropCause true d s)).transport.errand = s.transport.errand := by
      change (dropCause true d s).transport.errand = _
      rw [dropCause_transport]
    exact taskInFlight_congr hand
  rw [loseDisc_of_some holds]
  simp only [land_frame, leavePrinter_frame, leaveBay_frame, endErrandOf_transport, still, flies, if_true]

theorem finishHoming_lost {r : Docket} (errand : s.transport.errand = some e) (work : e.work = .task q) (held : e.held = true)
    (gone : s.sensor .discPresent = false) (holds : s.docket q.docket = some r) :
    (finishHoming s).transport.state = .free ∧ (finishHoming s).transport.errand = none
    ∧ (finishHoming s).docket q.docket = some { r.giveCause .dropped s.tower.time with
        state := .landed, place := some .arm, outputBin := none, landed := some s.tower.time } := by
  have docket : (busyArm s).docket q.docket = some r := (State.docket_congr (busyArm_frame s).2 _).trans holds
  have flies : (busyArm s).taskInFlight.map (·.docket) = some q.docket := by
    rw [taskInFlight_of (by rw [busyArm_transport]; exact errand) work]
    rfl
  have arm : (unqueueTask q.docket (dropCause true q.docket (busyArm s))).transport.state = .busy := by
    change (dropCause true q.docket (busyArm s)).transport.state = _
    rw [dropCause_transport, busyArm_transport]
  rw [finishHoming_of_task errand work, resumeTask_loses held gone, loseDisc_transport docket flies, loseDisc_docket docket,
    Transport.free_errand, Transport.free, arm, (busyArm_frame s).1]
  exact ⟨rfl, rfl, rfl⟩

/-! ### The clause on the end of homing -/

theorem resumeSweep_of_none (idle : s.transport.errand = none) : resumeSweep s =
    if s.transport.stage = .arm then
      { setTransport .sweeping s with transport := { (setTransport .sweeping s).transport with armDisc := s.sensor .discPresent } }
    else setTransport .sweeping s := by
  rw [resumeSweep, idle]

theorem resumeSweep_spec (idle : s.transport.errand = none) : (resumeSweep s).transport =
      { s.transport with state := .sweeping
                         armDisc := if s.transport.stage = .arm then s.sensor .discPresent else s.transport.armDisc }
    ∧ (resumeSweep s).bays = s.bays := by
  rw [resumeSweep_of_none idle]
  split <;> simp

theorem Lift.moveTo_keeps_trusted (l : Lift) (c : Calibration) (target : Nat) : (l.moveTo c target).trusted = l.trusted := by
  unfold Lift.moveTo
  dsimp only
  split <;> rfl

theorem beginLeg_trusted (leg : Leg) (s : State) : (beginLeg leg s).transport.lift.trusted = s.transport.lift.trusted := by
  unfold beginLeg
  split
  · rfl
  · split
    · rfl
    · exact Lift.moveTo_keeps_trusted ..

theorem resumeErrand_trusted (p : Purpose) (e : Errand) (s : State) :
    (resumeErrand p e s).transport.lift.trusted = s.transport.lift.trusted := by
  unfold resumeErrand
  split
  · simp [beginLeg_trusted]
  · split <;> simp [beginLeg_trusted]

theorem Transport.free_trusted (x : Transport) : x.free.lift.trusted = x.lift.trusted := by
  unfold Transport.free
  split <;> rfl

theorem loseDisc_trusted (dropped : Bool) (d : DocketNo) (place : Place) (s : State) :
    (loseDisc dropped d place s).transport.lift.trusted = s.transport.lift.trusted := by
  cases holds : s.docket d with
  | none => simp [loseDisc, holds]
  | some r =>
    have before : (unqueueTask d (dropCause dropped d s)).transport.lift.trusted = s.transport.lift.trusted := by
      change (dropCause dropped d s).transport.lift.trusted = _
      rw [dropCause_transport]
    rw [loseDisc_of_some holds]
    simp only [land_frame, leavePrinter_frame, leaveBay_frame, endErrandOf_transport]
    split
    · rw [Transport.free_trusted, before]
    · exact before

theorem resumeSweep_trusted (s : State) : (resumeSweep s).transport.lift.trusted = s.transport.lift.trusted := by
  unfold resumeSweep
  dsimp only
  split
  · split
    · simp [Transport.free_trusted]
    · simp [resumeErrand_trusted]
  · split <;> simp

theorem finishHoming_trusted (s : State) : (finishHoming s).transport.lift.trusted = true := by
  by_cases idle : s.taskless
  · obtain ⟨running, starting, sweeping, other⟩ := finishHoming_of_taskless idle
    by_cases homing : s.tower.state = .homing
    · cases reached : s.tower.reachedRunning with
      | true => rw [running homing reached]; simp [homedArm_transport]
      | false => rw [starting homing reached]; simp [homedArm_transport]
    · by_cases swept : s.tower.state = .discovering ∨ s.tower.state = .sweeping
      · rw [sweeping swept, resumeSweep_trusted]
        rfl
      · rw [not_or] at swept
        rw [other homing swept.1 swept.2]
        simp [homedArm_transport]
  · obtain ⟨e, q, errand, work⟩ : ∃ e q, s.transport.errand = some e ∧ e.work = .task q := by
      simpa [State.taskless] using idle
    rw [finishHoming_of_task errand work, resumeTask]
    split
    · rw [loseDisc_trusted]
      simp [homedArm_transport]
    · rw [resumeErrand_trusted]
      simp [homedArm_transport]

/-- With no task in hand no job, no docket and nothing of the plant changes. -/
theorem finishHoming_keeps (idle : s.taskless) : s.sameWork (finishHoming s) ∧ s.samePlant (finishHoming s) := by
  obtain ⟨running, starting, sweeping, other⟩ := finishHoming_of_taskless idle
  by_cases homing : s.tower.state = .homing
  · cases reached : s.tower.reachedRunning with
    | true => rw [running homing reached]; simp [State.sameWork, State.samePlant]
    | false => rw [starting homing reached]; simp [State.sameWork, State.samePlant]
  · by_cases swept : s.tower.state = .discovering ∨ s.tower.state = .sweeping
    · rw [sweeping swept]
      simp [State.sameWork, State.samePlant]
    · rw [not_or] at swept
      rw [other homing swept.1 swept.2]
      simp [State.sameWork, State.samePlant]

/-- The clause on the end of homing. -/
theorem finishHoming_spec (s : State) :
    let t := finishHoming s
    t.transport.lift.trusted = true ∧ t.regs = s.regs ∧ t.jobs = s.jobs
    ∧ ((∀ e x, s.transport.errand = some e → e.work ≠ .task x) →
      s.sameWork t ∧ s.samePlant t
      ∧ (s.tower.state = .homing → s.tower.reachedRunning = true →
          t.tower.state = .running ∧ t.transport.state = .free ∧ t.bays = s.bays)
      ∧ (s.tower.state = .homing → s.tower.reachedRunning = false →
          t.tower.state = .discovering ∧ t.transport.state = .sweeping ∧ t.transport.stage = .arm
          ∧ t.transport.armDisc = s.sensor .discPresent
          ∧ ∀ b : BayNo,
            ((s.bay b).installed = true ∧ (s.bay b).identified = false ∧ (s.bay b).state ≠ .resetting →
              (t.bay b).state = .discovering ∧ t.hasReq b .identify = true ∧ (t.bay b).identified = true)
            ∧ (¬ ((s.bay b).installed = true ∧ (s.bay b).identified = false ∧ (s.bay b).state ≠ .resetting) → t.bay b = s.bay b))
      ∧ (s.tower.state = .discovering ∨ s.tower.state = .sweeping → s.transport.errand = none →
          t.transport.state = .sweeping ∧ t.tower = s.tower ∧ t.bays = s.bays ∧ t.transport.stage = s.transport.stage
          ∧ t.transport.armDisc = (if s.transport.stage = .arm then s.sensor .discPresent else s.transport.armDisc))
      ∧ (s.tower.state ≠ .homing → s.tower.state ≠ .discovering → s.tower.state ≠ .sweeping →
          t.transport.state = .free ∧ t.tower = s.tower ∧ t.bays = s.bays ∧ t.transport.errand = s.transport.errand))
    ∧ (∀ e x, s.transport.errand = some e → e.work = .task x → e.held = true → s.sensor .discPresent = true →
      t.transport.state = .busy ∧ t.transport.carrying = true ∧ t.transport.phase = .lift .place ∧ t.transport.errand = some e
      ∧ t.transport.lift = { (startMove (s.position e.dest) s).transport.lift with trusted := true })
    ∧ (∀ e x st, s.transport.errand = some e → e.work = .task x → e.held = false → e.source = some st →
      t.transport.state = .busy ∧ t.transport.phase = .lift .pick ∧ t.transport.errand = some e
      ∧ t.transport.lift = { (startMove (s.position st) s).transport.lift with trusted := true })
    ∧ (∀ e x r, s.transport.errand = some e → e.work = .task x → e.held = true → s.sensor .discPresent = false →
      s.docket x.docket = some r → t.transport.state = .free ∧ t.transport.errand = none
      ∧ ∃ r' : Docket, t.docket x.docket = some r' ∧ r'.state = .landed ∧ r'.outputBin = none ∧ r'.place = some .arm
        ∧ r'.cause = if r.cause = .none then .dropped else r.cause) := by
  intro t
  obtain ⟨-, regs, -, jobs, -⟩ := finishHoming_frame s
  refine ⟨finishHoming_trusted s, regs, jobs, fun idle => ?_, fun e x errand work held there => ?_,
    fun e x st errand work free from_ => ?_, fun e x r errand work held gone holds => ?_⟩
  · obtain ⟨running, starting, sweeping, other⟩ := finishHoming_of_taskless idle
    obtain ⟨work, plant⟩ := finishHoming_keeps idle
    refine ⟨work, plant, fun homing reached => ?_, fun homing reached => ?_, fun swept free => ?_, fun h d w => ?_⟩
    · have way : t = _ := running homing reached
      rw [way]
      simp
    · have way : t = _ := starting homing reached
      have bays (b : BayNo) : t.bay b = (s.bay b).discovered := by
        rw [way, enterDiscovering_bay, setTransport_bay]
        rfl
      refine ⟨by rw [way, enterDiscovering_tower, setTower_state], by rw [way]; simp, by rw [way]; simp, by rw [way]; simp,
        fun b => ?_⟩
      simp only [State.hasReq, bays]
      exact (s.bay b).discovered_spec
    · have way : t = _ := sweeping swept
      obtain ⟨arm, bays⟩ := resumeSweep_spec (s := homedArm s) free
      rw [way, arm]
      exact ⟨rfl, by simp, bays, rfl, rfl⟩
    · have way : t = _ := other h d w
      rw [way]
      simp [homedArm_transport]
  · rw [finishHoming_place errand work held there, busyArm_transport]
    exact ⟨rfl, rfl, rfl, errand, rfl⟩
  · rw [finishHoming_pick errand work free from_, busyArm_transport]
    exact ⟨rfl, rfl, errand, rfl⟩
  · obtain ⟨free, hand, docket⟩ := finishHoming_lost errand work held gone holds
    exact ⟨free, hand, _, docket, rfl, rfl, rfl, (giveCause_given r .dropped s.tower.time).1⟩

end Sys2Proof.Machine
end

section
/-! PROOFS. The regions of the configuration memory (O51). -/

namespace Sys2Proof.Machine

variable {s t u v : State} {b : BayNo} {n k : Nat} {m : List Byte} {f : FaultEntry}

/-! ### The record of faults as a load goes on (R176) -/

/-- The entry of a configuration fault. -/
def configEntry (code : FaultCode) (s : State) : FaultEntry := { code := code, bay := none, docket := none, time := s.tower.time }

theorem FaultRecord.after_first_of_some {g : FaultRecord} (entered : g.first = some f) (code : FaultCode) (bay : Option BayNo)
    (docket : Option DocketNo) (time : Nat) : (g.after code bay docket time).first = some f := by
  rw [FaultRecord.after_of_some (by rw [entered]; nofun), FaultRecord.raise_first, entered]

theorem configFault_faults (code : FaultCode) (s : State) :
    (configFault code s).faults = s.faults.after code none none s.tower.time := reportFault_faults ..

theorem configFault_first_of_none (clean : s.faults.first = none) (code : FaultCode) :
    (configFault code s).faults.first = some (configEntry code s) := by
  rw [configFault_faults, FaultRecord.after_of_clean clean]
  rfl

theorem configFault_first_of_some (entered : s.faults.first = some f) (code : FaultCode) :
    (configFault code s).faults.first = some f := by
  rw [configFault_faults, FaultRecord.after_first_of_some entered]

theorem markFailing_first_of_some (entered : s.faults.first = some f) (b : BayNo) : (markFailing b s).faults.first = some f := by
  have mark : (marked b s).faults.first = some f := by rw [← entered]; simp [marked]
  obtain ⟨idle, spare, rest⟩ := markFailing_of_state b s
  by_cases isIdle : (s.bay b).state = .idle
  · rw [idle isIdle, retire_faults, FaultRecord.after_first_of_some mark]
  by_cases isSpare : (s.bay b).state = .spare
  · have kept : (endDesignation b (marked b s)).faults.first = some f := by rw [← mark]; simp
    rw [spare isSpare, retireSpare, retire_faults, FaultRecord.after_first_of_some kept]
  · rw [rest isIdle isSpare, mark]

theorem testAll_first_of_some (entered : s.faults.first = some f) (l : List BayNo) : (testAll l s).faults.first = some f := by
  induction l generalizing s with
  | nil => exact entered
  | cons b l ih =>
    have next : (testLimits b s).faults.first = some f := by
      unfold testLimits
      split
      · exact markFailing_first_of_some entered b
      · exact entered
    exact ih next

/-! ### The geometry (R177) -/

theorem le_regionCount_iff (small : k ≤ 4) : k ≤ regionCount m ↔ k ≤ field m 2 1 := by
  unfold regionCount
  omega

theorem loadGeometry_of_good (read : 1 ≤ n) (good : (parseGeometry m).plausible = true) :
    loadGeometry n m s = setCalibration (some (parseGeometry m)) s := by
  rw [loadGeometry, if_pos read, if_pos good]

theorem loadGeometry_of_bad (read : 1 ≤ n) (bad : (parseGeometry m).plausible ≠ true) :
    loadGeometry n m s = configFault .badGeometry (setCalibration none s) := by
  rw [loadGeometry, if_pos read, if_neg bad]

theorem loadGeometry_of_absent (unread : ¬ 1 ≤ n) : loadGeometry n m s = configFault .noGeometry (setCalibration none s) := by
  rw [loadGeometry, if_neg unread]

theorem loadGeometry_tower (n : Nat) (m : List Byte) (s : State) : (loadGeometry n m s).tower =
    { s.tower with calibration := if 1 ≤ n ∧ (parseGeometry m).plausible = true then some (parseGeometry m) else none } := by
  by_cases read : 1 ≤ n
  · by_cases good : (parseGeometry m).plausible = true
    · rw [loadGeometry_of_good read good, if_pos ⟨read, good⟩]
      rfl
    · rw [loadGeometry_of_bad read good, if_neg (fun h => good h.2), (configFault_frame ..).2.1]
      rfl
  · rw [loadGeometry_of_absent read, if_neg (fun h => read h.1), (configFault_frame ..).2.1]
    rfl

/-! ### The bay plant (R176) -/

/-- The bay plant region fails its check. -/
def badPlant (m : List Byte) : Prop := field m 94 1 ≠ 255 ∧ (field m 94 1 < 12 → (field m 92 2).testBit (field m 94 1) = false)

theorem plantSpare_of_bad (bad : badPlant m) : plantSpare m = none := by
  unfold plantSpare plantInstalled
  simpa [bad.1] using bad.2

theorem plantSpare_of_good (good : ¬ badPlant m) : ∃ sp : Option BayNo, plantSpare m = some sp
    ∧ sp.map (·.val) = if field m 94 1 = 255 then none else some (field m 94 1) := by
  unfold plantSpare plantInstalled
  by_cases unnamed : field m 94 1 = 255
  · exact ⟨none, by simp [unnamed], by simp [unnamed]⟩
  · have named : field m 94 1 < 12 ∧ (field m 92 2).testBit (field m 94 1) = true := by
      simpa [badPlant, unnamed] using good
    exact ⟨some ⟨field m 94 1, named.1⟩, by simp [unnamed, named], by simp [unnamed]⟩

/-- The bays as the plant gives them. -/
def planted (m : List Byte) (s : State) : State :=
  { s with bays := Vector.ofFn fun b : BayNo => (s.bay b).plant (plantInstalled m b) }

theorem planted_bay (m : List Byte) (s : State) (b : BayNo) : (planted m s).bay b = (s.bay b).plant (plantInstalled m b) := by
  simp [planted, State.bay, Vector.get]
  rfl

theorem Bay.plant_fields (installed : Bool) (r : Bay) : (r.plant installed).installed = installed
    ∧ (r.plant installed).soft = r.soft ∧ (r.plant installed).hard = r.hard := by
  cases installed <;> exact ⟨rfl, rfl, rfl⟩

theorem loadPlant_of_absent (unread : ¬ 2 ≤ n) : loadPlant n m s = setSpare none s := if_neg unread

theorem loadPlant_of_bad (read : 2 ≤ n) (bad : badPlant m) : loadPlant n m s = configFault .badRegion (setSpare none s) := by
  rw [loadPlant, if_pos read, plantSpare_of_bad bad]

theorem loadPlant_of_good {sp : Option BayNo} (read : 2 ≤ n) (good : plantSpare m = some sp) :
    loadPlant n m s = setSpare sp (planted m s) := by
  rw [loadPlant, if_pos read, good]
  rfl

/-- A plant that is not applied. -/
theorem loadPlant_unapplied (off : ¬ (2 ≤ n ∧ ¬ badPlant m)) : (loadPlant n m s).health = { s.health with spare := none }
    ∧ ∀ b, (loadPlant n m s).bay b = s.bay b := by
  by_cases read : 2 ≤ n
  · have bad : badPlant m := by_contra fun good => off ⟨read, good⟩
    rw [loadPlant_of_bad read bad]
    exact ⟨by simp [setSpare], fun b => configFault_bay ..⟩
  · rw [loadPlant_of_absent read]
    exact ⟨rfl, fun b => rfl⟩

theorem loadPlant_limits (n : Nat) (m : List Byte) (s : State) : ∃ sp, (loadPlant n m s).health = { s.health with spare := sp } := by
  by_cases on : 2 ≤ n ∧ ¬ badPlant m
  · obtain ⟨sp, given, -⟩ := plantSpare_of_good on.2
    exact ⟨sp, by rw [loadPlant_of_good on.1 given]; rfl⟩
  · exact ⟨none, (loadPlant_unapplied on).1⟩

theorem loadPlant_first_of_none (clean : s.faults.first = none) (n : Nat) (m : List Byte) : (loadPlant n m s).faults.first = none
    ∨ (loadPlant n m s).faults.first = some (configEntry .badRegion s) := by
  by_cases read : 2 ≤ n
  · by_cases bad : badPlant m
    · exact .inr (by rw [loadPlant_of_bad read bad]; exact configFault_first_of_none (s := setSpare none s) clean _)
    · obtain ⟨sp, given, -⟩ := plantSpare_of_good bad
      exact .inl (by rw [loadPlant_of_good read given]; exact clean)
  · exact .inl (by rw [loadPlant_of_absent read]; exact clean)

theorem loadPlant_first_of_some (entered : s.faults.first = some f) (n : Nat) (m : List Byte) :
    (loadPlant n m s).faults.first = some f := by
  by_cases read : 2 ≤ n
  · by_cases bad : badPlant m
    · rw [loadPlant_of_bad read bad]
      exact configFault_first_of_some (s := setSpare none s) entered _
    · obtain ⟨sp, given, -⟩ := plantSpare_of_good bad
      rw [loadPlant_of_good read given]
      exact entered
  · rw [loadPlant_of_absent read]
    exact entered

/-! ### The bins (R176) -/

/-- The bins region fails its check. -/
def badBins (m : List Byte) : Prop := mediaClassOf (field m 96 1) = none ∨ mediaClassOf (field m 97 1) = none
  ∨ ¬ (1 ≤ field m 98 2 ∧ field m 98 2 ≤ 300) ∨ ¬ (1 ≤ field m 100 2 ∧ field m 100 2 ≤ 300)

theorem binsRegion_of_bad (bad : badBins m) : binsRegion m = none := by
  unfold binsRegion
  split
  · rename_i a b clsA clsB
    dsimp only
    refine if_neg fun ⟨low, high, low', high'⟩ => ?_
    rcases bad with none_ | none_ | out | out
    · simp [none_] at clsA
    · simp [none_] at clsB
    · exact out ⟨low, high⟩
    · exact out ⟨low', high'⟩
  · rfl

theorem binsRegion_of_good (good : ¬ badBins m) : ∃ a b, binsRegion m = some (a, b, field m 98 2, field m 100 2)
    ∧ mediaClassOf (field m 96 1) = some a ∧ mediaClassOf (field m 97 1) = some b := by
  unfold badBins at good
  push Not at good
  obtain ⟨clsA, clsB, goodCap, rejectCap⟩ := good
  obtain ⟨a, isA⟩ := Option.ne_none_iff_exists'.mp clsA
  obtain ⟨b, isB⟩ := Option.ne_none_iff_exists'.mp clsB
  refine ⟨a, b, ?_, isA, isB⟩
  rw [binsRegion, isA, isB]
  exact if_pos ⟨goodCap.1, goodCap.2, rejectCap.1, rejectCap.2⟩

theorem loadBins_of_absent (unread : ¬ 3 ≤ n) : loadBins n m s = s := if_neg unread

theorem loadBins_of_bad (read : 3 ≤ n) (bad : badBins m) : loadBins n m s = configFault .badRegion s := by
  rw [loadBins, if_pos read, binsRegion_of_bad bad]

/-- The bins with the classes and capacities of the region. -/
def Bins.given (x : Bins) (a b : MediaClass) (good reject : Nat) : Bins :=
  { a := { x.a with cls := a }, b := { x.b with cls := b }, good := { x.good with capacity := good }
    reject := { x.reject with capacity := reject } }

theorem loadBins_of_good {a b : MediaClass} {good reject : Nat} (read : 3 ≤ n) (region : binsRegion m = some (a, b, good, reject)) :
    loadBins n m s = { s with bins := s.bins.given a b good reject } := by
  rw [loadBins, if_pos read, region]
  rfl

theorem loadBins_unapplied (off : ¬ (3 ≤ n ∧ ¬ badBins m)) : (loadBins n m s).bins = s.bins := by
  by_cases read : 3 ≤ n
  · rw [loadBins_of_bad read (by_contra fun good => off ⟨read, good⟩)]
    simp
  · rw [loadBins_of_absent read]

theorem loadBins_first_of_none (clean : s.faults.first = none) (n : Nat) (m : List Byte) : (loadBins n m s).faults.first = none
    ∨ (loadBins n m s).faults.first = some (configEntry .badRegion s) := by
  by_cases read : 3 ≤ n
  · by_cases bad : badBins m
    · exact .inr (by rw [loadBins_of_bad read bad]; exact configFault_first_of_none clean _)
    · obtain ⟨a, b, region, -⟩ := binsRegion_of_good bad
      exact .inl (by rw [loadBins_of_good read region]; exact clean)
  · exact .inl (by rw [loadBins_of_absent read]; exact clean)

theorem loadBins_first_of_some (entered : s.faults.first = some f) (n : Nat) (m : List Byte) :
    (loadBins n m s).faults.first = some f := by
  by_cases read : 3 ≤ n
  · by_cases bad : badBins m
    · rw [loadBins_of_bad read bad]
      exact configFault_first_of_some entered _
    · obtain ⟨a, b, region, -⟩ := binsRegion_of_good bad
      rw [loadBins_of_good read region]
      exact entered
  · rw [loadBins_of_absent read]
    exact entered

/-! ### The health region (R176, R138) -/

/-- The health region fails its check. -/
def badHealth (m : List Byte) : Prop := 15 < field m 104 1 ∨ 15 < field m 105 1 ∨ ¬ (1 ≤ field m 106 2 ∧ field m 106 2 ≤ 1440)

/-- The limits and the drain interval of the region are set. -/
def limitsRead (m : List Byte) (s : State) : State :=
  { s with health := { s.health with softLimit := field m 104 1, hardLimit := field m 105 1, drainMinutes := field m 106 2 } }

theorem loadHealth_of_absent (unread : ¬ 4 ≤ n) : loadHealth n m s = s := if_neg unread

theorem loadHealth_of_bad (read : 4 ≤ n) (bad : badHealth m) : loadHealth n m s = configFault .badRegion s := by
  rw [loadHealth, if_pos read]
  refine if_neg fun ⟨soft, hard, low, high⟩ => ?_
  rcases bad with out | out | out
  · omega
  · omega
  · exact out ⟨low, high⟩

theorem loadHealth_of_good (read : 4 ≤ n) (good : ¬ badHealth m) : loadHealth n m s = testAll Config.allBays (limitsRead m s) := by
  rw [loadHealth, if_pos read]
  refine if_pos ?_
  unfold badHealth at good
  omega

theorem loadHealth_unapplied (off : ¬ (4 ≤ n ∧ ¬ badHealth m)) : (loadHealth n m s).health = s.health := by
  by_cases read : 4 ≤ n
  · rw [loadHealth_of_bad read (by_contra fun good => off ⟨read, good⟩)]
    simp
  · rw [loadHealth_of_absent read]

theorem loadHealth_applied (read : 4 ≤ n) (good : ¬ badHealth m) : (loadHealth n m s).health.softLimit = field m 104 1
    ∧ (loadHealth n m s).health.hardLimit = field m 105 1 ∧ (loadHealth n m s).health.drainMinutes = field m 106 2 := by
  rw [loadHealth_of_good read good]
  rcases testAll_health Config.allBays (limitsRead m s) with same | same <;> rw [same] <;> exact ⟨rfl, rfl, rfl⟩

/-- A designation survives the tests of the limits or is ended. -/
theorem loadHealth_spare (n : Nat) (m : List Byte) (s : State) :
    (loadHealth n m s).health.spare = s.health.spare ∨ (loadHealth n m s).health.spare = none := by
  by_cases on : 4 ≤ n ∧ ¬ badHealth m
  · rw [loadHealth_of_good on.1 on.2]
    rcases testAll_health Config.allBays (limitsRead m s) with same | same <;> rw [same]
    · exact .inl rfl
    · exact .inr rfl
  · exact .inl (by rw [loadHealth_unapplied on])

/-- While every counter is 0 no limit catches a bay. -/
theorem loadHealth_spare_of_calm (calm : ∀ b : BayNo, (s.bay b).soft = 0 ∧ (s.bay b).hard = 0) (n : Nat) (m : List Byte) :
    (loadHealth n m s).health.spare = s.health.spare := by
  by_cases on : 4 ≤ n ∧ ¬ badHealth m
  · rw [loadHealth_of_good on.1 on.2, testAll_of_none fun b caught => ?_]
    · rfl
    · obtain ⟨soft, hard⟩ := calm b
      have soft' : ((limitsRead m s).bay b).soft = 0 := soft
      have hard' : ((limitsRead m s).bay b).hard = 0 := hard
      rcases (overLimit_iff _ b).mp caught.2 with ⟨on, reached⟩ | ⟨on, reached⟩ <;> omega
  · rw [loadHealth_unapplied on]

theorem loadHealth_installed (n : Nat) (m : List Byte) (s : State) (b : BayNo) :
    ((loadHealth n m s).bay b).installed = (s.bay b).installed :=
  ((loadHealth_steady (fw := .all) n m (Steady.refl s)).bays b).installed rfl

theorem loadHealth_first_of_some (entered : s.faults.first = some f) (n : Nat) (m : List Byte) :
    (loadHealth n m s).faults.first = some f := by
  by_cases read : 4 ≤ n
  · by_cases bad : badHealth m
    · rw [loadHealth_of_bad read bad]
      exact configFault_first_of_some entered _
    · rw [loadHealth_of_good read bad]
      exact testAll_first_of_some (s := limitsRead m s) entered _
  · rw [loadHealth_of_absent read]
    exact entered

end Sys2Proof.Machine
end

section
/-! PROOFS. The end of the configuration load, and O51. -/

namespace Sys2Proof.Machine

variable {s t u v : State} {b : BayNo} {n : Nat} {m : List Byte} {c : Calibration} {f : FaultEntry} {code : FaultCode}

/-! ### The bay map (R88) -/

/-- The logical number the load gives a bay. -/
def mapNumber (spare : Option BayNo) (b : BayNo) (r : Bay) : Option BayNo :=
  if r.installed = true ∧ spare ≠ some b then some b else none

theorem buildMap_bay (s : State) (b : BayNo) :
    (buildMap s).bay b = { s.bay b with logical := mapNumber s.health.spare b (s.bay b) } :=
  foldl_allBays _ (fun b r => { r with logical := mapNumber s.health.spare b r }) (fun u => u.health.spare = s.health.spare)
    (fun u b kept => by simpa using kept) (fun u b x kept => by rw [setLogical_bay, kept]; rfl) rfl b

/-- The map is built, and the drain timer and the carriage are started. -/
def mapped (s : State) : State :=
  { startDrain (buildMap s) with printer := { (startDrain (buildMap s)).printer with homingSteps := 520 } }

theorem mapped_bay (s : State) (b : BayNo) : (mapped s).bay b = { s.bay b with logical := mapNumber s.health.spare b (s.bay b) } := by
  have same : (mapped s).bays = (buildMap s).bays := by simp [mapped]
  rw [State.bay_congr same, buildMap_bay]

theorem mapped_health (s : State) : (mapped s).health = { s.health with drainTimer := some (s.health.drainMinutes * 60000) } := by
  simp [mapped, startDrain, Health.drainStart]

@[simp] theorem mapped_frame (s : State) : (mapped s).pending = s.pending ∧ (mapped s).tower = s.tower ∧ (mapped s).regs = s.regs
    ∧ (mapped s).board = s.board ∧ (mapped s).jobs = s.jobs ∧ (mapped s).dockets = s.dockets ∧ (mapped s).sensors = s.sensors
    ∧ (mapped s).bins = s.bins ∧ (mapped s).faults = s.faults ∧ (mapped s).transport = s.transport := by
  simp [mapped]

/-! ### The tower as the loader ends (R175, R177) -/

/-- The loader is idle and the tower homes, or is UNCALIBRATED. -/
def loaderEnded (s : State) : State := towerHomes (loaderIdle s)

@[simp] theorem loaderEnded_frame (s : State) : (loaderEnded s).pending = s.pending ∧ (loaderEnded s).regs = s.regs
    ∧ (loaderEnded s).board = s.board ∧ (loaderEnded s).jobs = s.jobs ∧ (loaderEnded s).dockets = s.dockets
    ∧ (loaderEnded s).sensors = s.sensors ∧ (loaderEnded s).bins = s.bins ∧ (loaderEnded s).faults = s.faults
    ∧ (loaderEnded s).bays = s.bays ∧ (loaderEnded s).health = s.health ∧ (loaderEnded s).printer = s.printer := by
  simp [loaderEnded]

theorem loaderEnded_uncalibrated (cal : s.tower.calibration = none) : (loaderEnded s).transport = s.transport
    ∧ (loaderEnded s).tower.state = .uncalibrated ∧ (loaderEnded s).tower.loader = .idle
    ∧ (loaderEnded s).tower.calibration = none := by
  have way : loaderEnded s = setTower .uncalibrated (loaderIdle s) := by
    have cal' : (loaderIdle s).tower.calibration = none := cal
    rw [loaderEnded, towerHomes, cal']
  rw [way]
  refine ⟨by simp, setTower_state .., by rw [setTower_loader]; rfl, by rw [setTower_calibration]; exact cal⟩

theorem homingStart_duty (s : State) : (homingStart s).duty = s.cal.creepDuty := by
  unfold homingStart
  split <;> rfl

theorem loaderEnded_homes (cal : s.tower.calibration = some c) : (loaderEnded s).tower.state = .homing
    ∧ (loaderEnded s).tower.loader = .idle ∧ (loaderEnded s).tower.calibration = some c
    ∧ (loaderEnded s).transport.state = .homing ∧ (loaderEnded s).transport.lift.duty = c.creepDuty
    ∧ (loaderEnded s).transport.phase = if s.sensor .liftHome = true then .homeUp else .homeDown := by
  have cal' : (loaderIdle s).tower.calibration = some c := cal
  have way : loaderEnded s = startHoming (setTransport .homing (setTower .homing (loaderIdle s))) := by
    rw [loaderEnded, towerHomes, cal']
  have held : (setTransport .homing (setTower .homing (loaderIdle s))).tower.calibration = some c := by simp [cal']
  have arm : (setTransport .homing (setTower .homing (loaderIdle s))).transport.state = .homing := by simp
  have on : (setTransport .homing (setTower .homing (loaderIdle s))).sensor .liftHome = s.sensor .liftHome := by
    rw [setTransport_sensor, setTower_sensor]
    rfl
  have tower : (loaderEnded s).tower = (setTower .homing (loaderIdle s)).tower := by rw [way]; simp
  have lift : (homingStart (setTransport .homing (setTower .homing (loaderIdle s)))).duty = c.creepDuty := by
    rw [homingStart_duty, State.cal, held]
    rfl
  refine ⟨by rw [tower, setTower_state], by rw [tower, setTower_loader]; rfl, by rw [tower, setTower_calibration, cal'],
    by rw [way, startHoming_transport, arm], by rw [way, startHoming_transport]; exact lift,
    by rw [way, startHoming_transport, on]⟩

/-! ### The regions behind the geometry -/

/-- The plant, the bins and the health region are read. -/
def regionsRead (n : Nat) (m : List Byte) (s : State) : State := loadHealth n m (loadBins n m (loadPlant n m s))

@[simp] theorem regionsRead_frame (n : Nat) (m : List Byte) (s : State) : (regionsRead n m s).pending = s.pending
    ∧ (regionsRead n m s).tower = s.tower ∧ (regionsRead n m s).regs = s.regs ∧ (regionsRead n m s).board = s.board
    ∧ (regionsRead n m s).jobs = s.jobs ∧ (regionsRead n m s).dockets = s.dockets ∧ (regionsRead n m s).sensors = s.sensors
    ∧ (regionsRead n m s).transport = s.transport := by
  simp [regionsRead]

theorem regionsRead_zero (m : List Byte) (s : State) : regionsRead 0 m s = setSpare none s := by
  rw [regionsRead, loadHealth_of_absent (by omega), loadBins_of_absent (by omega), loadPlant_of_absent (by omega)]

theorem regionsRead_first_of_some (entered : s.faults.first = some f) (n : Nat) (m : List Byte) :
    (regionsRead n m s).faults.first = some f :=
  loadHealth_first_of_some (loadBins_first_of_some (loadPlant_first_of_some entered n m) n m) n m

theorem configEntry_congr (time : t.tower.time = s.tower.time) (code : FaultCode) : configEntry code t = configEntry code s := by
  rw [configEntry, configEntry, time]

/-- A region that fails its check is the first fault of a load that had none. -/
theorem regionsRead_first_of_bad (clean : s.faults.first = none)
    (bad : (2 ≤ n ∧ badPlant m) ∨ (3 ≤ n ∧ badBins m) ∨ (4 ≤ n ∧ badHealth m)) :
    (regionsRead n m s).faults.first = some (configEntry .badRegion s) := by
  have time : configEntry .badRegion (loadPlant n m s) = configEntry .badRegion s := configEntry_congr (by simp) _
  have time' : configEntry .badRegion (loadBins n m (loadPlant n m s)) = configEntry .badRegion s := configEntry_congr (by simp) _
  rcases loadPlant_first_of_none clean n m with clean1 | entered
  · rcases loadBins_first_of_none clean1 n m with clean2 | entered
    · rcases bad with ⟨read, bad⟩ | ⟨read, bad⟩ | ⟨read, bad⟩
      · rw [loadPlant_of_bad read bad, configFault_first_of_none (s := setSpare none s) clean] at clean1
        cases clean1
      · rw [loadBins_of_bad read bad, configFault_first_of_none clean1] at clean2
        cases clean2
      · rw [regionsRead, loadHealth_of_bad read bad, configFault_first_of_none clean2, time']
    · rw [time] at entered
      exact loadHealth_first_of_some entered n m
  · exact loadHealth_first_of_some (loadBins_first_of_some entered n m) n m

theorem regionsRead_installed (n : Nat) (m : List Byte) (s : State) (b : BayNo) :
    ((regionsRead n m s).bay b).installed = ((loadPlant n m s).bay b).installed := by
  rw [regionsRead, loadHealth_installed, loadBins_bay]

/-- A plant that is not applied leaves the bays as they were, and no spare. -/
theorem regionsRead_plant_unapplied (off : ¬ (2 ≤ n ∧ ¬ badPlant m)) : (regionsRead n m s).health.spare = none
    ∧ ∀ b : BayNo, ((regionsRead n m s).bay b).installed = (s.bay b).installed := by
  obtain ⟨health, bays⟩ := loadPlant_unapplied (s := s) off
  have before : (loadBins n m (loadPlant n m s)).health.spare = none := by rw [(loadBins_frame ..).2.2.2.2.2.2.2.2.2.2.1, health]
  refine ⟨?_, fun b => by rw [regionsRead_installed, bays]⟩
  rcases loadHealth_spare n m (loadBins n m (loadPlant n m s)) with same | ended
  · exact same.trans before
  · exact ended

/-- A plant that is applied says which bays are installed, and names the spare. -/
theorem regionsRead_plant_applied (read : 2 ≤ n) (good : ¬ badPlant m) :
    (∀ b : BayNo, ((regionsRead n m s).bay b).installed = (field m 92 2).testBit b.val)
    ∧ ((∀ b : BayNo, (s.bay b).soft = 0 ∧ (s.bay b).hard = 0) → (regionsRead n m s).health.spare.map (·.val) =
        if field m 94 1 = 255 then none else some (field m 94 1)) := by
  obtain ⟨sp, region, named⟩ := plantSpare_of_good good
  have bays (b : BayNo) : (loadPlant n m s).bay b = (s.bay b).plant (plantInstalled m b) := by
    rw [loadPlant_of_good read region]
    exact planted_bay m s b
  refine ⟨fun b => by rw [regionsRead_installed, bays]; exact (Bay.plant_fields _ _).1, fun calm => ?_⟩
  have calm' (b : BayNo) : ((loadBins n m (loadPlant n m s)).bay b).soft = 0 ∧ ((loadBins n m (loadPlant n m s)).bay b).hard = 0 := by
    obtain ⟨-, soft, hard⟩ := Bay.plant_fields (plantInstalled m b) (s.bay b)
    rw [loadBins_bay, bays, soft, hard]
    exact calm b
  rw [regionsRead, loadHealth_spare_of_calm calm', (loadBins_frame ..).2.2.2.2.2.2.2.2.2.2.1, loadPlant_of_good read region]
  exact named

theorem regionsRead_bins (n : Nat) (m : List Byte) (s : State) :
    (regionsRead n m s).bins = (loadBins n m (loadPlant n m s)).bins := by simp [regionsRead]

theorem regionsRead_bins_unapplied (off : ¬ (3 ≤ n ∧ ¬ badBins m)) : (regionsRead n m s).bins = s.bins := by
  rw [regionsRead_bins, loadBins_unapplied off]
  simp

theorem regionsRead_bins_applied (read : 3 ≤ n) (good : ¬ badBins m) : ∃ a b, (regionsRead n m s).bins =
    s.bins.given a b (field m 98 2) (field m 100 2)
    ∧ mediaClassOf (field m 96 1) = some a ∧ mediaClassOf (field m 97 1) = some b := by
  obtain ⟨a, b, region, clsA, clsB⟩ := binsRegion_of_good good
  refine ⟨a, b, ?_, clsA, clsB⟩
  have bins : (loadPlant n m s).bins = s.bins := by simp
  rw [regionsRead_bins, loadBins_of_good read region, bins]

theorem regionsRead_health_unapplied (off : ¬ (4 ≤ n ∧ ¬ badHealth m)) : ∃ sp,
    (regionsRead n m s).health = { s.health with spare := sp } := by
  obtain ⟨sp, health⟩ := loadPlant_limits n m s
  exact ⟨sp, by rw [regionsRead, loadHealth_unapplied off, (loadBins_frame ..).2.2.2.2.2.2.2.2.2.2.1, health]⟩

theorem regionsRead_health_applied (read : 4 ≤ n) (good : ¬ badHealth m) :
    (regionsRead n m s).health.softLimit = field m 104 1 ∧ (regionsRead n m s).health.hardLimit = field m 105 1
    ∧ (regionsRead n m s).health.drainMinutes = field m 106 2 := loadHealth_applied read good

/-! ### The memory as the load finds it (R176) -/

/-- The image gives a plausible geometry. -/
def goodImage (m : List Byte) : Prop := field m 0 2 = 0x5B3C ∧ 1 ≤ field m 2 1 ∧ (parseGeometry m).plausible = true

/-- The regions read of an image. -/
def regionsOf (m : List Byte) : Nat := if field m 0 2 = 0x5B3C then regionCount m else 0

/-- The geometry of an image is read. -/
def geometryOf (m : List Byte) (s : State) : State :=
  loadGeometry (regionsOf m) m (if field m 0 2 = 0x5B3C then s else configFault .badSignature s)

/-- The geometry of a memory that does not answer. -/
def geometryMissing (s : State) : State := loadGeometry 0 [] (configFault .noMemory s)

theorem openConfig_image (m : List Byte) : openConfig (.image m) =
    (if field m 0 2 = 0x5B3C then none else some .badSignature, regionsOf m, m) := by
  unfold openConfig regionsOf signatureOk
  by_cases right : field m 0 2 = 0x5B3C <;> simp [right]

theorem loadAgain_image (m : List Byte) (s : State) : loadAgain (.image m) s = loaderEnded (geometryOf m s) := by
  unfold loadAgain geometryOf loaderEnded
  rw [openConfig_image]
  by_cases right : field m 0 2 = 0x5B3C
  · simp only [if_pos right]
  · simp only [if_neg right]

theorem loadWhole_image (m : List Byte) (s : State) :
    loadWhole (.image m) s = loaderEnded (mapped (regionsRead (regionsOf m) m (geometryOf m s))) := by
  unfold loadWhole geometryOf loaderEnded mapped regionsRead
  rw [openConfig_image]
  by_cases right : field m 0 2 = 0x5B3C
  · simp only [if_pos right]
  · simp only [if_neg right]

theorem openConfig_silent : openConfig .noAnswer = (some .noMemory, 0, []) := rfl

theorem loadAgain_silent (s : State) : loadAgain .noAnswer s = loaderEnded (geometryMissing s) := by
  simp only [loadAgain, openConfig_silent, loaderEnded, geometryMissing]

theorem loadWhole_silent (s : State) : loadWhole .noAnswer s = loaderEnded (mapped (setSpare none (geometryMissing s))) := by
  rw [← regionsRead_zero []]
  simp only [loadWhole, openConfig_silent, loaderEnded, mapped, regionsRead, geometryMissing]

theorem geometryOf_good (good : goodImage m) : geometryOf m s = setCalibration (some (parseGeometry m)) s := by
  obtain ⟨right, some_, plausible⟩ := good
  rw [geometryOf, if_pos right, regionsOf, if_pos right, loadGeometry_of_good ((le_regionCount_iff (by omega)).mpr some_) plausible]

/-- What a read of the geometry leaves as it was. -/
structure OnlyGeometry (s t : State) : Prop where
  work : s.sameWork t
  regs : t.regs = s.regs
  board : t.board = s.board
  sensors : t.sensors = s.sensors
  transport : t.transport = s.transport
  health : t.health = s.health
  bins : t.bins = s.bins
  bays : t.bays = s.bays
  printer : t.printer = s.printer

theorem loadGeometry_only (n : Nat) (m : List Byte) (s : State) : OnlyGeometry s (loadGeometry n m s) :=
  ⟨by simp [State.sameWork], by simp, by simp, by simp, by simp, by simp, by simp, by simp, by simp⟩

theorem geometryOf_only (m : List Byte) (s : State) : OnlyGeometry s (geometryOf m s) := by
  unfold geometryOf
  split
  · exact loadGeometry_only ..
  · exact ⟨by simp [State.sameWork], by simp, by simp, by simp, by simp, by simp, by simp, by simp, by simp⟩

theorem geometryMissing_only (s : State) : OnlyGeometry s (geometryMissing s) := by
  unfold geometryMissing
  exact ⟨by simp [State.sameWork], by simp, by simp, by simp, by simp, by simp, by simp, by simp, by simp⟩

/-- The faults of a memory of which nothing can be read. -/
theorem noGeometry_faults (clear : s.faults = FaultRecord.clear) (m : List Byte) :
    (loadGeometry 0 m (configFault code s)).faults =
      { first := some (configEntry code s), motion := 0, bay := 0, hostMemory := 0, print := 0, config := 1 } := by
  have first : (configFault code s).faults = { FaultRecord.clear with first := some (configEntry code s) } := by
    rw [configFault_faults, clear]
    rfl
  rw [loadGeometry_of_absent (by omega), configFault_faults]
  change (configFault code s).faults.after .noGeometry none none _ = _
  rw [first]
  rfl

theorem geometryOf_uncalibrated (bad : ¬ goodImage m) : (geometryOf m s).tower.calibration = none := by
  rw [geometryOf, loadGeometry_tower]
  refine if_neg fun ⟨read, plausible⟩ => bad ?_
  unfold regionsOf at read
  split at read
  · exact ⟨‹_›, (le_regionCount_iff (by omega)).mp read, plausible⟩
  · omega

/-- The first fault of an image that gives no geometry. -/
def unreadCode (m : List Byte) : FaultCode :=
  if field m 0 2 ≠ 0x5B3C then .badSignature else if field m 2 1 = 0 then .noGeometry else .badGeometry

theorem geometryOf_first (bad : ¬ goodImage m) (clear : s.faults = FaultRecord.clear) :
    (geometryOf m s).faults.first = some (configEntry (unreadCode m) s) := by
  have clean : s.faults.first = none := by rw [clear]; rfl
  unfold geometryOf unreadCode regionsOf
  by_cases right : field m 0 2 = 0x5B3C
  · rw [if_pos right, if_pos right, if_neg (not_not.mpr right)]
    by_cases empty : field m 2 1 = 0
    · rw [if_pos empty, loadGeometry_of_absent (by rw [le_regionCount_iff (by omega)]; omega),
        configFault_first_of_none (s := setCalibration none s) clean]
      rfl
    · have some_ : 1 ≤ field m 2 1 := Nat.one_le_iff_ne_zero.mpr empty
      rw [if_neg empty, loadGeometry_of_bad ((le_regionCount_iff (by omega)).mpr some_) fun plausible => bad ⟨right, some_, plausible⟩,
        configFault_first_of_none (s := setCalibration none s) clean]
      rfl
  · rw [if_neg right, if_neg right, if_pos right, noGeometry_faults clear]

theorem geometryOf_unsigned (wrong : field m 0 2 ≠ 0x5B3C) (clear : s.faults = FaultRecord.clear) : (geometryOf m s).faults =
    { first := some (configEntry .badSignature s), motion := 0, bay := 0, hostMemory := 0, print := 0, config := 1 } := by
  rw [geometryOf, if_neg wrong, regionsOf, if_neg wrong, noGeometry_faults clear]

end Sys2Proof.Machine
end

section
/-! PROOFS. The end of the configuration load by what the loader reads, and O51. -/

namespace Sys2Proof.Machine

variable {s t u v : State} {m : List Byte}

theorem configEnds_whole (loader : s.tower.loader = .whole) (mem : ConfigRead) : configEnds mem s = loadWhole mem s := by
  rw [configEnds, loader]

theorem configEnds_geometry (loader : s.tower.loader = .geometry) (mem : ConfigRead) : configEnds mem s = loadAgain mem s := by
  rw [configEnds, loader]

theorem configEnds_idle (loader : s.tower.loader = .idle) (mem : ConfigRead) : configEnds mem s = s := by
  rw [configEnds, loader]

/-! ### The whole load, of any memory -/

/-- The bay map at the end of the load. -/
def State.mapDone (t : State) : Prop := ∀ b : BayNo, (t.bay b).logical =
  if (t.bay b).installed = true ∧ t.health.spare ≠ some b then some b else none

/-- The end of the whole load, when the regions have been read. -/
def wholeEnded (u : State) : State := loaderEnded (mapped u)

theorem wholeEnded_bay (u : State) (b : BayNo) :
    (wholeEnded u).bay b = { u.bay b with logical := mapNumber u.health.spare b (u.bay b) } :=
  (State.bay_congr (by simp [wholeEnded]) b).trans (mapped_bay u b)

theorem wholeEnded_health (u : State) :
    (wholeEnded u).health = { u.health with drainTimer := some (u.health.drainMinutes * 60000) } := by
  rw [← mapped_health]
  simp [wholeEnded]

theorem wholeEnded_drain (u : State) :
    (wholeEnded u).health.drainTimer = some ((wholeEnded u).health.drainMinutes * 60000) := by
  rw [wholeEnded_health]

theorem wholeEnded_map (u : State) : (wholeEnded u).mapDone := fun b => by
  rw [wholeEnded_bay, wholeEnded_health]
  rfl

theorem wholeEnded_homingSteps (u : State) : (wholeEnded u).printer.homingSteps = 520 := by
  have same : (wholeEnded u).printer = (mapped u).printer := by simp [wholeEnded]
  rw [same]
  rfl

@[simp] theorem wholeEnded_frame (u : State) : (wholeEnded u).regs = u.regs ∧ (wholeEnded u).board = u.board
    ∧ (wholeEnded u).jobs = u.jobs ∧ (wholeEnded u).dockets = u.dockets ∧ (wholeEnded u).sensors = u.sensors
    ∧ (wholeEnded u).bins = u.bins ∧ (wholeEnded u).faults = u.faults := by
  simp [wholeEnded]

/-- What a load of any kind leaves as it was. -/
def State.sameThroughLoad (s t : State) : Prop := s.sameWork t ∧ t.regs = s.regs ∧ t.board = s.board ∧ t.sensors = s.sensors

theorem OnlyGeometry.regions (only : OnlyGeometry s u) (n : Nat) : s.sameThroughLoad (wholeEnded (regionsRead n m u)) :=
  ⟨⟨by simp [only.work.1], by simp [only.work.2]⟩, by simp [only.regs], by simp [only.board], by simp [only.sensors]⟩

theorem loadWhole_read (m : List Byte) (s : State) :
    loadWhole (.image m) s = wholeEnded (regionsRead (regionsOf m) m (geometryOf m s)) := loadWhole_image m s

theorem loadWhole_unanswered (s : State) : loadWhole .noAnswer s = wholeEnded (setSpare none (geometryMissing s)) :=
  loadWhole_silent s

/-! ### A good image (R176, R177) -/

/-- The state after the regions of a good image. -/
def goodRead (m : List Byte) (s : State) : State := regionsRead (regionCount m) m (setCalibration (some (parseGeometry m)) s)

theorem loadWhole_good (good : goodImage m) : loadWhole (.image m) s = wholeEnded (goodRead m s) := by
  rw [loadWhole_image, geometryOf_good good, regionsOf, if_pos good.1]
  rfl

theorem wholeEnded_homes (m : List Byte) (s : State) : (wholeEnded (goodRead m s)).tower.state = .homing
    ∧ (wholeEnded (goodRead m s)).tower.loader = .idle
    ∧ (wholeEnded (goodRead m s)).tower.calibration = some (parseGeometry m)
    ∧ (wholeEnded (goodRead m s)).transport.state = .homing
    ∧ (wholeEnded (goodRead m s)).transport.lift.duty = (parseGeometry m).creepDuty
    ∧ (wholeEnded (goodRead m s)).transport.phase = if s.sensor .liftHome = true then .homeUp else .homeDown := by
  have cal : (mapped (goodRead m s)).tower.calibration = some (parseGeometry m) := by simp [goodRead, setCalibration]
  have on : (mapped (goodRead m s)).sensor .liftHome = s.sensor .liftHome := State.sensor_congr (by simp [goodRead]) _
  have homes := loaderEnded_homes cal
  rw [on] at homes
  unfold wholeEnded
  exact homes

/-- What a good image gives. -/
structure GoodLoad (m : List Byte) (s t : State) : Prop where
  region : s.faults = FaultRecord.clear →
    (2 ≤ field m 2 1 ∧ badPlant m) ∨ (3 ≤ field m 2 1 ∧ badBins m) ∨ (4 ≤ field m 2 1 ∧ badHealth m) →
    t.faults.first = some (configEntry .badRegion s)
  noPlant : field m 2 1 < 2 ∨ badPlant m → t.health.spare = none ∧ ∀ b : BayNo, (t.bay b).installed = (s.bay b).installed
  plant : 2 ≤ field m 2 1 → ¬ badPlant m → (∀ b : BayNo, (t.bay b).installed = (field m 92 2).testBit b.val)
    ∧ ((∀ b : BayNo, (s.bay b).soft = 0 ∧ (s.bay b).hard = 0) →
        t.health.spare.map (·.val) = if field m 94 1 = 255 then none else some (field m 94 1))
  noBins : field m 2 1 < 3 ∨ badBins m → t.bins = s.bins
  bins : 3 ≤ field m 2 1 → ¬ badBins m → mediaClassOf (field m 96 1) = some t.bins.a.cls
    ∧ mediaClassOf (field m 97 1) = some t.bins.b.cls ∧ t.bins.good.capacity = field m 98 2
    ∧ t.bins.reject.capacity = field m 100 2 ∧ t.bins.a.state = s.bins.a.state ∧ t.bins.b.state = s.bins.b.state
    ∧ t.bins.good.count = s.bins.good.count ∧ t.bins.reject.count = s.bins.reject.count
  noHealth : field m 2 1 < 4 ∨ badHealth m → t.health.softLimit = s.health.softLimit ∧ t.health.hardLimit = s.health.hardLimit
    ∧ t.health.drainMinutes = s.health.drainMinutes
  health : 4 ≤ field m 2 1 → ¬ badHealth m → t.health.softLimit = field m 104 1 ∧ t.health.hardLimit = field m 105 1
    ∧ t.health.drainMinutes = field m 106 2

/-- A region that is absent or fails its check is not applied. -/
theorem regionCount_off {k : Nat} {bad : Prop} (small : k ≤ 4) (off : field m 2 1 < k ∨ bad) : ¬ (k ≤ regionCount m ∧ ¬ bad) := by
  rintro ⟨read, good⟩
  exact off.elim (Nat.not_lt.mpr ((le_regionCount_iff small).mp read)) good

theorem goodRead_spec (m : List Byte) (s : State) : GoodLoad m s (wholeEnded (goodRead m s)) where
  region clear bad := by
    have clean : (setCalibration (some (parseGeometry m)) s).faults.first = none := by
      change s.faults.first = none
      rw [clear]
      rfl
    rw [(wholeEnded_frame _).2.2.2.2.2.2]
    refine (regionsRead_first_of_bad clean ?_).trans rfl
    rwa [le_regionCount_iff (by omega), le_regionCount_iff (by omega), le_regionCount_iff (by omega)]
  noPlant off := by
    obtain ⟨spare, installed⟩ := regionsRead_plant_unapplied (s := setCalibration (some (parseGeometry m)) s)
      (regionCount_off (by omega) off)
    refine ⟨by rw [wholeEnded_health]; exact spare, fun b => ?_⟩
    rw [wholeEnded_bay]
    exact (installed b).trans rfl
  plant read good := by
    obtain ⟨installed, named⟩ := regionsRead_plant_applied (s := setCalibration (some (parseGeometry m)) s)
      ((le_regionCount_iff (by omega)).mpr read) good
    refine ⟨fun b => ?_, fun calm => ?_⟩
    · rw [wholeEnded_bay]
      exact installed b
    · rw [wholeEnded_health]
      exact named calm
  noBins off := by
    rw [(wholeEnded_frame _).2.2.2.2.2.1]
    exact regionsRead_bins_unapplied (regionCount_off (by omega) off)
  bins read good := by
    obtain ⟨a, b, bins, clsA, clsB⟩ := regionsRead_bins_applied (s := setCalibration (some (parseGeometry m)) s)
      ((le_regionCount_iff (by omega)).mpr read) good
    rw [(wholeEnded_frame _).2.2.2.2.2.1, goodRead, bins]
    exact ⟨clsA, clsB, rfl, rfl, rfl, rfl, rfl, rfl⟩
  noHealth off := by
    obtain ⟨sp, health⟩ := regionsRead_health_unapplied (s := setCalibration (some (parseGeometry m)) s)
      (regionCount_off (by omega) off)
    rw [wholeEnded_health, goodRead, health]
    exact ⟨rfl, rfl, rfl⟩
  health read good := by
    rw [wholeEnded_health]
    exact regionsRead_health_applied ((le_regionCount_iff (by omega)).mpr read) good

/-! ### No geometry (R176, R177, R181) -/

/-- A load that gives no geometry: the tower is UNCALIBRATED and the transport is left as it was. -/
structure Uncalibrated (s t : State) : Prop where
  same : s.sameThroughLoad t
  transport : t.transport = s.transport
  state : t.tower.state = .uncalibrated
  loader : t.tower.loader = .idle
  calibration : t.tower.calibration = none

theorem OnlyGeometry.uncalibrated_whole (only : OnlyGeometry s u) (cal : u.tower.calibration = none) (n : Nat) (m : List Byte) :
    Uncalibrated s (wholeEnded (regionsRead n m u)) := by
  obtain ⟨arm, state, loader, held⟩ := loaderEnded_uncalibrated (s := mapped (regionsRead n m u)) (by simp [cal])
  have same : (mapped (regionsRead n m u)).transport = s.transport := by simp [only.transport]
  refine ⟨only.regions n, ?_, ?_, ?_, ?_⟩ <;> rw [wholeEnded]
  · rw [arm, same]
  · exact state
  · exact loader
  · exact held

theorem OnlyGeometry.uncalibrated_again (only : OnlyGeometry s u) (cal : u.tower.calibration = none) : Uncalibrated s (loaderEnded u) := by
  obtain ⟨arm, state, loader, held⟩ := loaderEnded_uncalibrated cal
  exact ⟨⟨⟨by simp [only.work.1], by simp [only.work.2]⟩, by simp [only.regs], by simp [only.board], by simp [only.sensors]⟩,
    arm.trans only.transport, state, loader, held⟩

theorem geometryMissing_uncalibrated (s : State) : (geometryMissing s).tower.calibration = none := by
  rw [geometryMissing, loadGeometry_tower]
  have none_ : ¬ (1 ≤ 0 ∧ (parseGeometry []).plausible = true) := fun h => absurd h.1 (by omega)
  rw [if_neg none_]

/-- What an unread image leaves in the record of faults. -/
theorem unread_faults (bad : ¬ goodImage m) (clear : s.faults = FaultRecord.clear) :
    (regionsRead (regionsOf m) m (geometryOf m s)).faults.first = some (configEntry (unreadCode m) s)
    ∧ (field m 0 2 ≠ 0x5B3C → (regionsRead (regionsOf m) m (geometryOf m s)).faults =
      { first := some (configEntry .badSignature s), motion := 0, bay := 0, hostMemory := 0, print := 0, config := 1 }) := by
  refine ⟨regionsRead_first_of_some (geometryOf_first bad clear) _ _, fun wrong => ?_⟩
  rw [regionsOf, if_neg wrong, regionsRead_zero]
  exact geometryOf_unsigned wrong clear

/-- What the load leaves of an image that gives no geometry. -/
structure Unread (m : List Byte) (s t : State) : Prop where
  still : Uncalibrated s t
  first : s.faults = FaultRecord.clear → t.faults.first = some (configEntry (unreadCode m) s)
  faults : s.faults = FaultRecord.clear → field m 0 2 ≠ 0x5B3C → t.faults =
    { first := some (configEntry .badSignature s), motion := 0, bay := 0, hostMemory := 0, print := 0, config := 1 }

theorem unread_whole (bad : ¬ goodImage m) : Unread m s (wholeEnded (regionsRead (regionsOf m) m (geometryOf m s))) := by
  have record : (wholeEnded (regionsRead (regionsOf m) m (geometryOf m s))).faults
      = (regionsRead (regionsOf m) m (geometryOf m s)).faults := by simp
  refine ⟨(geometryOf_only m s).uncalibrated_whole (geometryOf_uncalibrated bad) _ m, fun clear => ?_, fun clear wrong => ?_⟩
  · rw [record]
    exact (unread_faults bad clear).1
  · rw [record]
    exact (unread_faults bad clear).2 wrong

theorem unread_again (bad : ¬ goodImage m) : Unread m s (loaderEnded (geometryOf m s)) := by
  have record : (loaderEnded (geometryOf m s)).faults = (geometryOf m s).faults := by simp
  refine ⟨(geometryOf_only m s).uncalibrated_again (geometryOf_uncalibrated bad), fun clear => ?_, fun clear wrong => ?_⟩
  · rw [record]
    exact geometryOf_first bad clear
  · rw [record]
    exact geometryOf_unsigned wrong clear

/-- What the load leaves of a memory that does not answer. -/
structure Unanswered (s t : State) : Prop where
  still : Uncalibrated s t
  faults : t.faults =
    { first := some (configEntry .noMemory s), motion := 0, bay := 0, hostMemory := 0, print := 0, config := 1 }

theorem unanswered_whole (clear : s.faults = FaultRecord.clear) :
    Unanswered s (wholeEnded (setSpare none (geometryMissing s))) := by
  have still := (geometryMissing_only s).uncalibrated_whole (geometryMissing_uncalibrated s) 0 []
  rw [regionsRead_zero] at still
  refine ⟨still, ?_⟩
  rw [(wholeEnded_frame _).2.2.2.2.2.2]
  exact noGeometry_faults clear []

theorem unanswered_again (clear : s.faults = FaultRecord.clear) : Unanswered s (loaderEnded (geometryMissing s)) := by
  have record : (loaderEnded (geometryMissing s)).faults = (geometryMissing s).faults := by simp
  exact ⟨(geometryMissing_only s).uncalibrated_again (geometryMissing_uncalibrated s), record.trans (noGeometry_faults clear [])⟩

theorem goodRead_same (good : goodImage m) (s : State) : s.sameThroughLoad (wholeEnded (goodRead m s)) := by
  have only := geometryOf_only m s
  rw [geometryOf_good good] at only
  exact only.regions _

/-- The end of the whole load of a memory that does not answer. -/
theorem silent_spec (s : State) : (wholeEnded (setSpare none (geometryMissing s))).health.spare = none
    ∧ (wholeEnded (setSpare none (geometryMissing s))).health.drainTimer = some (s.health.drainMinutes * 60000)
    ∧ (wholeEnded (setSpare none (geometryMissing s))).bins = s.bins := by
  have only := geometryMissing_only s
  have health : (setSpare none (geometryMissing s)).health = { s.health with spare := none } := by
    rw [← only.health]
    rfl
  rw [wholeEnded_health, health, (wholeEnded_frame _).2.2.2.2.2.1]
  exact ⟨rfl, rfl, only.bins⟩

/-- What a read again of the geometry leaves of the bays, the bins and the health record. -/
theorem OnlyGeometry.again (only : OnlyGeometry s u) : (loaderEnded u).health = s.health ∧ (loaderEnded u).bins = s.bins
    ∧ (loaderEnded u).bays = s.bays ∧ (loaderEnded u).printer = s.printer := by
  simp [only.health, only.bins, only.bays, only.printer]

/-! ### O51 -/

/-- Settles O51: the configuration load region by region, homing by what is in hand, and the recovery sweep move by move. -/
theorem loadedHomedAndSwept : Obligations.LoadedHomedAndSwept := by
  refine ⟨fun m s => ?_, plausible_iff, finishHoming_spec, endDiscovering_spec, media_spec, sweepStep_spec⟩
  intro good map fault unread unanswered badPlant_ badBins_ badHealth_
  refine ⟨fun loader image loading => ?_, fun loader bad => ?_, fun loader clear => ?_, fun loader image loading => ?_,
    fun loader bad => ?_, fun loader clear => ?_, fun loader => next_conclude (configEnds_idle loader _)⟩
  · have ends := next_conclude ((configEnds_whole loader (.image m)).trans (loadWhole_good image))
    obtain ⟨state, idle, cal, arm, duty, phase⟩ := wholeEnded_homes m s
    obtain ⟨work, regs, board, sensors⟩ := goodRead_same image s
    obtain ⟨region, noPlant, plant, noBins, bins, noHealth, health⟩ := goodRead_spec m s
    have drain := wholeEnded_drain (goodRead m s)
    have map_ := wholeEnded_map (goodRead m s)
    have carriage := wholeEnded_homingSteps (goodRead m s)
    generalize wholeEnded (goodRead m s) = t at *
    exact ⟨t, ends, work, regs, board, sensors, state, idle, cal, arm, duty, phase, map_, drain, carriage, region, noPlant, plant,
      noBins, bins, noHealth, health⟩
  · have ends := next_conclude ((configEnds_whole loader (.image m)).trans (loadWhole_read m s))
    obtain ⟨⟨⟨work, regs, -, sensors⟩, arm, state, idle, cal⟩, first, faults⟩ := unread_whole (s := s) bad
    have drain := wholeEnded_drain (regionsRead (regionsOf m) m (geometryOf m s))
    have map_ := wholeEnded_map (regionsRead (regionsOf m) m (geometryOf m s))
    have carriage := wholeEnded_homingSteps (regionsRead (regionsOf m) m (geometryOf m s))
    generalize wholeEnded (regionsRead (regionsOf m) m (geometryOf m s)) = t at *
    exact ⟨t, ends, ⟨work, regs, sensors, arm, state, idle, cal, first, faults⟩, map_, drain, carriage⟩
  · have ends := next_conclude ((configEnds_whole loader .noAnswer).trans (loadWhole_unanswered s))
    obtain ⟨⟨⟨work, regs, board, sensors⟩, arm, state, idle, cal⟩, faults⟩ := unanswered_whole clear
    obtain ⟨spare, drain, bins⟩ := silent_spec s
    have map_ := wholeEnded_map (setSpare none (geometryMissing s))
    have carriage := wholeEnded_homingSteps (setSpare none (geometryMissing s))
    generalize wholeEnded (setSpare none (geometryMissing s)) = t at *
    exact ⟨t, ends, ⟨work, regs, board, sensors, arm, state, idle, cal, faults⟩, map_, spare, drain, carriage, bins⟩
  · obtain ⟨state, -, cal, arm, -⟩ := loaderEnded_homes (s := setCalibration (some (parseGeometry m)) s) rfl
    refine ⟨_, next_conclude ((configEnds_geometry loader _).trans ((loadAgain_image m s).trans
      (congrArg loaderEnded (geometryOf_good image)))), state, cal, arm, ?_⟩
    simp
  · have ends := next_conclude ((configEnds_geometry loader (.image m)).trans (loadAgain_image m s))
    obtain ⟨⟨⟨work, regs, -, sensors⟩, arm, state, idle, cal⟩, first, faults⟩ := unread_again (s := s) bad
    have kept := (geometryOf_only m s).again
    generalize loaderEnded (geometryOf m s) = t at *
    exact ⟨t, ends, ⟨work, regs, sensors, arm, state, idle, cal, first, faults⟩, kept⟩
  · have ends := next_conclude ((configEnds_geometry loader .noAnswer).trans (loadAgain_silent s))
    obtain ⟨⟨⟨work, regs, board, sensors⟩, arm, state, idle, cal⟩, faults⟩ := unanswered_again clear
    have kept := (geometryMissing_only s).again
    generalize loaderEnded (geometryMissing s) = t at *
    exact ⟨t, ends, ⟨work, regs, board, sensors, arm, state, idle, cal, faults⟩, kept⟩

end Sys2Proof.Machine
end
